-- ==== Sys2Proof/Word.lean ====
section
/-! DEFINITION. The byte type and the plainest conversions between byte strings and numbers.
Every structure the Q9 defines is little-endian (R6). -/

namespace Sys2Proof

/-- One byte of a structure in host memory, in MRAM or on a link. -/
abbrev Byte := BitVec 8

/-- A byte string in address order. -/
abbrev Bytes := List Byte

/-- `n` zero bytes. -/
def zeros (n : Nat) : Bytes := List.replicate n 0#8

/-- The `len` bytes of `b` from offset `off` (fewer where `b` is shorter). -/
def slice (b : Bytes) (off len : Nat) : Bytes := (b.drop off).take len

/-- `b` cut or padded with zeros to exactly `n` bytes. -/
def fit (n : Nat) (b : Bytes) : Bytes := (b ++ zeros n).take n

/-- The little-endian value of a byte string (R6). -/
def leNat : Bytes → Nat
  | [] => 0
  | b :: bs => b.toNat + 256 * leNat bs

/-- `n` little-endian bytes of `v`, its low `8 n` bits (R6). -/
def leBytes : Nat → Nat → Bytes
  | 0, _ => []
  | n + 1, v => BitVec.ofNat 8 v :: leBytes n (v / 256)

/-- The big-endian value of a byte string, for encodings that a published standard fixes (R6). -/
def beNat (b : Bytes) : Nat := leNat b.reverse

/-- `n` big-endian bytes of `v`. -/
def beBytes (n v : Nat) : Bytes := (leBytes n v).reverse

/-- The little-endian field of `len` bytes at offset `off`. -/
def field (b : Bytes) (off len : Nat) : Nat := leNat (slice b off len)

/-- The byte at offset `i`, 0 beyond the end. -/
def byteAt (b : Bytes) (i : Nat) : Nat := (b.getD i 0#8).toNat

/-- Every byte is zero. -/
def allZero (b : Bytes) : Bool := b.all (fun x => x == 0#8)

/-- Bit `i` of `v`. -/
def bit (v i : Nat) : Bool := v.testBit i

/-- `v` with bit `i` set. -/
def setBit (v i : Nat) : Nat := v ||| (1 <<< i)

/-- `v` with the bits of `m` cleared. -/
def clearBits (v m : Nat) : Nat := v - (v &&& m)

/-- The bits `hi` down to `lo` of `v`. -/
def bits (v hi lo : Nat) : Nat := (v >>> lo) % 2 ^ (hi + 1 - lo)

/-- One byte from a number. -/
def u8 (v : Nat) : Byte := BitVec.ofNat 8 v

/-- 1 for true, 0 for false. -/
def flag (b : Bool) : Nat := if b then 1 else 0

/-- A value held at the top of a field of `w` bits once it reaches it. -/
def holdAt (w v : Nat) : Nat := min v (2 ^ w - 1)

/-- A counter of `w` bits after `n` more events. A counter that the spec gives no end for wraps at its width. -/
def bump (w v n : Nat) : Nat := (v + n) % 2 ^ w

/-- The bytes of an ASCII string. -/
def ascii (cs : List Char) : Bytes := cs.map (fun c => BitVec.ofNat 8 c.toNat)

/-- Exclusive-or of two byte strings, to the shorter length. -/
def xorBytes (a b : Bytes) : Bytes := List.zipWith (· ^^^ ·) a b

/-- The number of one bits of `v` below bit `n`. -/
def popcount : Nat → Nat → Nat
  | 0, _ => 0
  | n + 1, v => flag (v.testBit n) + popcount n v

/-- The indices below `n` of the one bits of `v`, rising. -/
def bitList (n v : Nat) : List Nat := (List.range n).filter (fun i => v.testBit i)

end Sys2Proof
end

