-- ==== Sys2Proof/Syntax.lean ====
section
/-! DEFINITION. The commands: one constructor per row of spec/opcode_table.json, with the operands that the
row's rule names. -/

namespace Sys2Proof

/-- A read of host memory that the DMA mover has issued (R62, R31, R36, R68). -/
inductive DmaRead where
  /-- header read of a queue -/
  | header (q : Fin 1024)
  /-- parameter-block read of the header at a ring entry of a queue -/
  | block (q : Fin 1024) (index : Nat)
  /-- scatter-gather entry of a job's input or output list -/
  | entry (slot : Fin 4096) (output : Bool)
  /-- input data, or associated data, of a job -/
  | data (slot : Fin 4096) (aad : Bool)
  deriving DecidableEq, Repr

/-- A posted write of the DMA mover (R80). -/
inductive PostedWrite where
  | output (slot : Fin 4096)
  | ownClear (slot : Fin 4096)
  | completion (slot : Fin 4096)
  deriving DecidableEq, Repr

/-- A path of the dictionary (R460). -/
inductive DictPath where
  /-- the mailbox of a function -/
  | mailbox (fn : Fin 256)
  /-- the management port -/
  | i3c
  /-- requests that a Herd member relays to this device -/
  | relay
  deriving DecidableEq, Repr

/-- A space of registers that the host writes. -/
inductive RegSpace where
  /-- BAR 0, the control window (R74) -/
  | window
  /-- BAR 2, the MSI-X table (R476) -/
  | msix
  /-- the PTM control register of the physical function's configuration space (R484) -/
  | ptm
  /-- Device Control (at 0x08) and Device Control 2 (at 0x28) of a function's PCI Express capability (R478, R479) -/
  | control
  deriving DecidableEq, Repr

/-- The commands. -/
inductive Instr where
  /-- DOORBELL_WRITE (R61). A doorbell write wakes the queue's fetch and, with CQ_UPD, takes a new CQ_HEAD. -/
  | doorbellWrite (fn : Fin 256) (k : Fin 256) (value : BitVec 64)
  /-- HEADER_READ_RETURN (R62). A header read returns; entries up to the first with OWN = 0 are taken into the intake slots. -/
  | headerReadReturn (q : Fin 1024) (index : Nat) (data : Bytes)
  /-- IDLE_RESCAN (R64). While fetch is IDLE, the entry at SQ_HEAD is re-read every IDLE_RESCAN beats. -/
  | idleRescan (q : Fin 1024)
  /-- FETCH_RESUME (R66). Fetch paused at FETCH_HIGH resumes once the fill level falls below FETCH_LOW. -/
  | fetchResume (q : Fin 1024)
  /-- PARAMETER_BLOCK_RETURN (R31). The parameter block read after the header returns, or fails as a header-fetch failure. -/
  | parameterBlockReturn (q : Fin 1024) (index : Nat) (data : Bytes)
  /-- ADMISSION (R14). Up to 4 fetched headers per beat are admitted round-robin once a job slot and completion-ring room are free. -/
  | admission
  /-- SG_ENTRY_RETURN (R36). A scatter-gather entry read returns and is walked as span, LINK, END, domain-tag stop or hop limit. -/
  | sgEntryReturn (slot : Fin 4096) (output : Bool) (entry : Bytes)
  /-- INPUT_DATA_RETURN (R68). Input data arrives into the job's data window, refilled between DATA_LOW and DATA_HIGH. -/
  | inputDataReturn (slot : Fin 4096) (aad : Bool) (data : Bytes)
  /-- STAGING_SPACE_FREED (R69). A job waiting for its domain's staging quota proceeds once space is released. -/
  | stagingSpaceFreed (slot : Fin 4096)
  /-- FETCH_END (R16). The list walk ends and the first schedule input is in the buffer, so the job becomes eligible. -/
  | fetchEnd (slot : Fin 4096)
  /-- START_RIGHT_GRANT (R90). A live wheel cell grants a start right to the selected eligible job, reserving its shared resources. -/
  | startRightGrant (cell : Fin 16 × Bool)
  /-- EXPANSION_RUN (R18). An internal expansion job runs before a job whose expanded material missed the cache. -/
  | expansionRun (run : Fin 4096 × Option (Fin 192))
  /-- STAGING_END (R42). Key staging ends after 2 beats: list-walk results and key checks are applied, and keys are moved or the job fails. -/
  | stagingEnd (slot : Nat) (failed : Option (Fin 192))
  /-- RELEASE (R23). At release the result is copied to the output buffer or a new vault entry and the unit's wipe begins. -/
  | release (slot : Fin 4096) (failed : Option (Fin 192))
  /-- CHUNK_RELEASE (R267). A chunk of a chunked job is released with its running state saved, and the next chunk becomes eligible. -/
  | chunkRelease (slot : Fin 4096)
  /-- HBS_SLICE_END (R181). A generation or rebuild slice ends after HBS_SLICE beats and saves its trap frame. -/
  | hbsSliceEnd (slot : Nat) (slice : Fin 12 × Option (Fin 192))
  /-- WIPE_END (R23). The unit's 2-beat wipe of operand memory, registers and trap frames completes. -/
  | wipeEnd (cls : Fin 8) (unit : Fin 16)
  /-- COMPLETION_WRITE (R71). After the wipe and the last output write, the completion record is written at CQ_TAIL. -/
  | completionWrite (slot : Fin 4096)
  /-- DESTROY_COMPLETION (R20). A DESTROY's completion is written once every job staged with the entry has finished its wipe. -/
  | destroyCompletion (slot : Fin 4096)
  /-- INT_DELAY_EXPIRY (R73). INT_DELAY beats after the first counted completion, the queue sends its message. -/
  | intDelayExpiry (q : Fin 1024)
  /-- MSIX_UNMASK (R73). Unmasking a vector with its pending bit set sends the message. -/
  | msixUnmask (fn : Fin 256) (vec : Fin 8)
  /-- START_WAIT_TIMEOUT (R86). A job that reaches START_WAIT beats in phase 3 ends with TIMEOUT. -/
  | startWaitTimeout (slot : Fin 4096)
  /-- ENTROPY_WAIT_EXPIRY (R367). A job held for entropy ends with ENTROPY_NOT_READY or ENTROPY_STARVED once ENTROPY_WAIT elapses. -/
  | entropyWaitExpiry (slot : Fin 4096)
  /-- DMA_READ_FAILURE (R79). A DMA read fails by UR, CA, poison or timeout and is scheduled for retry. -/
  | dmaReadFailure (read : DmaRead) (addr : BitVec 64)
  /-- DMA_RETRY (R79). 16 beats after a failure the read is issued again, or the queue halts when retries are spent. -/
  | dmaRetry (read : DmaRead)
  /-- COMPLETION_TIMEOUT_EXPIRY (R479). The PCIe completion timeout of an outstanding read expires. -/
  | completionTimeoutExpiry (read : DmaRead) (addr : BitVec 64)
  /-- POSTED_WRITE_REFUSED (R80). An output, OWN-clear or completion write is refused by the endpoint and the queue halts. -/
  | postedWriteRefused (write : PostedWrite)
  /-- VIOLATION_BUCKET_LEAK (R83). The domain's violation bucket loses 1 every 7,812,500 / VIOLATION_RATE beats. -/
  | violationBucketLeak (d : Fin 256)
  /-- QUEUE_ABORT (R50). The queue-control ABORT bit ends every in-flight job, drops unadmitted headers and stops the queue. -/
  | queueAbort (fn : Fin 256) (k : Fin 256)
  /-- QUEUE_RESET (R77). The queue-control RESET bit aborts the queue and returns its indices and phase to start. -/
  | queueReset (fn : Fin 256) (k : Fin 256)
  /-- QUEUE_RESTART (R77). The queue-control RESTART bit returns a STOPPED queue to RUNNING. -/
  | queueRestart (fn : Fin 256) (k : Fin 256)
  /-- QUEUE_DONE (R78). Once every job of an aborted, reset or disabled queue has finished, the control bit clears and QUEUE_DONE is set. -/
  | queueDone (q : Fin 1024)
  /-- Q_ENABLE (R77). A write of Q_ENABLE enables a queue after its checks, or disables it as by an abort. -/
  | qEnable (by_ : Fin 256) (q : Fin 1024) (on : Bool)
  /-- REGISTER_WRITE (R454). A write to a register or dictionary entry without a row of its own takes effect at the end of the beat. -/
  | registerWrite (fn : Fin 256) (space : RegSpace) (offset : Nat) (data : Bytes)
  /-- MLKEM_ENCAPS (R118). Job: ML-KEM encapsulation to a vault or host key. -/
  | mlkemEncaps (slot : Fin 4096)
  /-- MLKEM_CHECK_EK (R120). Job: modulus check of a host ML-KEM encapsulation key. -/
  | mlkemCheckEk (slot : Fin 4096)
  /-- MLKEM_DECAPS (R121). Job: ML-KEM decapsulation with implicit rejection. -/
  | mlkemDecaps (slot : Fin 4096)
  /-- MLDSA_SIGN (R130). Job: ML-DSA signing in attempt blocks with self-verification. -/
  | mldsaSign (slot : Fin 4096)
  /-- MLDSA_SIGN_MU (R127). Job: ML-DSA signing of a host-supplied μ. -/
  | mldsaSignMu (slot : Fin 4096)
  /-- MLDSA_VERIFY (R129). Job: ML-DSA verification. -/
  | mldsaVerify (slot : Fin 4096)
  /-- MLDSA_VERIFY_MU (R127). Job: ML-DSA verification over a host-supplied μ. -/
  | mldsaVerifyMu (slot : Fin 4096)
  /-- FNDSA_SIGN (R148). Job: FN-DSA signing in attempt blocks with self-verification. -/
  | fndsaSign (slot : Fin 4096)
  /-- FNDSA_VERIFY (R150). Job: FN-DSA verification on a Swallowtail core. -/
  | fndsaVerify (slot : Fin 4096)
  /-- SLHDSA_SIGN (R174). Job: SLH-DSA signing with in-schedule self-check. -/
  | slhdsaSign (slot : Fin 4096)
  /-- SLHDSA_VERIFY (R175). Job: SLH-DSA verification. -/
  | slhdsaVerify (slot : Fin 4096)
  /-- HSS_SIGN (R187). Job: LMS/HSS signing with a one-time index assigned at its first schedule beat. -/
  | hssSign (slot : Fin 4096)
  /-- HSS_VERIFY (R185). Job: LMS/HSS verification. -/
  | hssVerify (slot : Fin 4096)
  /-- HSS_RESERVE (R188). Job: reservation of an LMS/HSS index block. -/
  | hssReserve (slot : Fin 4096)
  /-- XMSS_SIGN (R187). Job: XMSS signing with a one-time index. -/
  | xmssSign (slot : Fin 4096)
  /-- XMSS_VERIFY (R185). Job: XMSS verification. -/
  | xmssVerify (slot : Fin 4096)
  /-- XMSS_RESERVE (R188). Job: reservation of an XMSS index block. -/
  | xmssReserve (slot : Fin 4096)
  /-- HQC_ENCAPS (R207). Job: HQC encapsulation. -/
  | hqcEncaps (slot : Fin 4096)
  /-- HQC_DECAPS (R210). Job: HQC decapsulation with implicit rejection. -/
  | hqcDecaps (slot : Fin 4096)
  /-- CM_ENCAPS (R212). Job: Classic McEliece encapsulation streaming the whole public key. -/
  | cmEncaps (slot : Fin 4096)
  /-- CM_DECAPS (R210). Job: Classic McEliece decapsulation with implicit rejection. -/
  | cmDecaps (slot : Fin 4096)
  /-- RSA_OAEP_ENCRYPT (R230). Job: RSA-OAEP encryption. -/
  | rsaOaepEncrypt (slot : Fin 4096)
  /-- RSA_OAEP_DECRYPT (R232). Job: RSA-OAEP decryption. -/
  | rsaOaepDecrypt (slot : Fin 4096)
  /-- RSA_PSS_SIGN (R230). Job: RSA-PSS signing. -/
  | rsaPssSign (slot : Fin 4096)
  /-- RSA_PSS_VERIFY (R230). Job: RSA-PSS verification. -/
  | rsaPssVerify (slot : Fin 4096)
  /-- RSA_V15_SIGN (R230). Job: RSA PKCS #1 v1.5 signing. -/
  | rsaV15Sign (slot : Fin 4096)
  /-- RSA_V15_VERIFY (R230). Job: RSA PKCS #1 v1.5 verification. -/
  | rsaV15Verify (slot : Fin 4096)
  /-- ECDSA_SIGN (R238). Job: ECDSA signing, hedged or RFC 6979. -/
  | ecdsaSign (slot : Fin 4096)
  /-- ECDSA_VERIFY (R237). Job: ECDSA verification. -/
  | ecdsaVerify (slot : Fin 4096)
  /-- ECDH (R237). Job: ECDH agreement. -/
  | ecdh (slot : Fin 4096)
  /-- EC_CHECK_POINT (R237). Job: check that a point lies on its curve. -/
  | ecCheckPoint (slot : Fin 4096)
  /-- EDDSA_SIGN (R239). Job: EdDSA signing. -/
  | eddsaSign (slot : Fin 4096)
  /-- EDDSA_VERIFY (R240). Job: EdDSA verification with strict decoding. -/
  | eddsaVerify (slot : Fin 4096)
  /-- XDH (R241). Job: X25519 or X448 agreement. -/
  | xdh (slot : Fin 4096)
  /-- ECB_ENC (R256). Job: AES-ECB encryption. -/
  | ecbEnc (slot : Fin 4096)
  /-- ECB_DEC (R256). Job: AES-ECB decryption. -/
  | ecbDec (slot : Fin 4096)
  /-- CBC_ENC (R256). Job: AES-CBC encryption. -/
  | cbcEnc (slot : Fin 4096)
  /-- CBC_DEC (R256). Job: AES-CBC decryption. -/
  | cbcDec (slot : Fin 4096)
  /-- CTR (R259). Job: AES-CTR. -/
  | ctr (slot : Fin 4096)
  /-- GCM_ENC (R256). Job: AES-GCM encryption. -/
  | gcmEnc (slot : Fin 4096)
  /-- GCM_DEC (R264). Job: AES-GCM decryption under verified or stream release. -/
  | gcmDec (slot : Fin 4096)
  /-- GMAC_GEN (R256). Job: GMAC generation. -/
  | gmacGen (slot : Fin 4096)
  /-- GMAC_VERIFY (R260). Job: GMAC verification. -/
  | gmacVerify (slot : Fin 4096)
  /-- CCM_ENC (R256). Job: AES-CCM encryption. -/
  | ccmEnc (slot : Fin 4096)
  /-- CCM_DEC (R264). Job: AES-CCM decryption. -/
  | ccmDec (slot : Fin 4096)
  /-- XTS_ENC (R256). Job: XTS-AES encryption of one data unit. -/
  | xtsEnc (slot : Fin 4096)
  /-- XTS_DEC (R256). Job: XTS-AES decryption of one data unit. -/
  | xtsDec (slot : Fin 4096)
  /-- CMAC_GEN (R256). Job: CMAC generation. -/
  | cmacGen (slot : Fin 4096)
  /-- CMAC_VERIFY (R260). Job: CMAC verification. -/
  | cmacVerify (slot : Fin 4096)
  /-- KW_WRAP (R256). Job: AES key wrap, KW or KWP. -/
  | kwWrap (slot : Fin 4096)
  /-- KW_UNWRAP (R260). Job: AES key unwrap, KW or KWP. -/
  | kwUnwrap (slot : Fin 4096)
  /-- DIGEST (R256). Job: hash digest. -/
  | digest (slot : Fin 4096)
  /-- XOF (R256). Job: extendable-output function. -/
  | xof (slot : Fin 4096)
  /-- VERIFY_DIGEST (R260). Job: digest comparison. -/
  | verifyDigest (slot : Fin 4096)
  /-- HMAC (R255). Job: HMAC generation. -/
  | hmac (slot : Fin 4096)
  /-- KMAC (R255). Job: KMAC generation. -/
  | kmac (slot : Fin 4096)
  /-- VERIFY_MAC (R260). Job: HMAC or KMAC verification. -/
  | verifyMac (slot : Fin 4096)
  /-- KDF_CTR (R261). Job: counter-mode KDF. -/
  | kdfCtr (slot : Fin 4096)
  /-- HKDF (R261). Job: HKDF. -/
  | hkdf (slot : Fin 4096)
  /-- KDF_ONESTEP (R261). Job: SP 800-56C one-step KDF. -/
  | kdfOnestep (slot : Fin 4096)
  /-- CHACHAPOLY_ENC (R256). Job: ChaCha20-Poly1305 encryption. -/
  | chachapolyEnc (slot : Fin 4096)
  /-- CHACHAPOLY_DEC (R264). Job: ChaCha20-Poly1305 decryption. -/
  | chachapolyDec (slot : Fin 4096)
  /-- ASCON_ENC (R256). Job: Ascon-AEAD128 encryption. -/
  | asconEnc (slot : Fin 4096)
  /-- ASCON_DEC (R264). Job: Ascon-AEAD128 decryption. -/
  | asconDec (slot : Fin 4096)
  /-- ASCON_HASH (R256). Job: Ascon hash. -/
  | asconHash (slot : Fin 4096)
  /-- ASCON_XOF (R256). Job: Ascon XOF. -/
  | asconXof (slot : Fin 4096)
  /-- MUNTJAC_RECOVERY_JOB (R274). A job with no usable AES lane is served by the Muntjac core under MUNTJAC_RECOVERY. -/
  | muntjacRecoveryJob (slot : Fin 4096)
  /-- HKEM_ENCAPS (R156). Job: hybrid KEM encapsulation. -/
  | hkemEncaps (slot : Fin 4096)
  /-- HKEM_DECAPS (R157). Job: hybrid KEM decapsulation. -/
  | hkemDecaps (slot : Fin 4096)
  /-- CSIG_SIGN (R160). Job: composite signing. -/
  | csigSign (slot : Fin 4096)
  /-- CSIG_VERIFY (R161). Job: composite verification. -/
  | csigVerify (slot : Fin 4096)
  /-- GENERATE (R40). Job: key generation for the template's class, creating a new entry. -/
  | generate (slot : Fin 4096)
  /-- DESTROY (R300). Job: destruction of a key, advancing GEN. -/
  | destroy (slot : Fin 4096)
  /-- DERIVE (R301). Job: derivation of a new key from a class-0xD parent. -/
  | derive (slot : Fin 4096)
  /-- EXPORT_WRAPPED (R302). Job: export of a key's blob under a wrapping key. -/
  | exportWrapped (slot : Fin 4096)
  /-- IMPORT_ENVELOPE (R339). Job: import of a key from a key update envelope. -/
  | importEnvelope (slot : Fin 4096)
  /-- ATTEST (R350). Job: signed attestation statement about a key. -/
  | attest (slot : Fin 4096)
  /-- QUERY (R303). Job: report of a key's entry state. -/
  | query (slot : Fin 4096)
  /-- GET_RANDOM (R368). Job: random bytes from the domain DRBG. -/
  | getRandom (slot : Fin 4096)
  /-- GET_RANDOM_PR (R368). Job: prediction-resistant random bytes. -/
  | getRandomPr (slot : Fin 4096)
  /-- STREAM_INIT (R271). Job: binds and starts a stream computation. -/
  | streamInit (slot : Fin 4096)
  /-- STREAM_UPDATE (R271). Job: feeds data to a stream, restarting it where R272 says. -/
  | streamUpdate (slot : Fin 4096)
  /-- STREAM_FINAL (R271). Job: ends a stream computation. -/
  | streamFinal (slot : Fin 4096)
  /-- STREAM_DISCARD (R271). Job: discards a stream's state and optionally unbinds it. -/
  | streamDiscard (slot : Fin 4096)
  /-- VAULT_EXPORT (R310). Job: opens or continues a round and writes export records. -/
  | vaultExport (slot : Fin 4096)
  /-- VAULT_PREPARE (R311). Job: writes a PENDING root slot. -/
  | vaultPrepare (slot : Fin 4096)
  /-- VAULT_COMMIT (R312). Job: writes a COMMITTED root slot, or abandons the round. -/
  | vaultCommit (slot : Fin 4096)
  /-- NOP (R39). Job: does nothing and is released at the end of staging. -/
  | nop (slot : Fin 4096)
  /-- FENCE (R48). Job: barrier on its queue in both directions. -/
  | fence (slot : Fin 4096)
  /-- ECHO (R39). Job: copies input to output. -/
  | echo (slot : Fin 4096)
  /-- ABORT (R49). Job: aborts the target job in its admission beat. -/
  | abort (slot : Fin 4096)
  /-- OWNERSHIP (R333). Order action: installs domain 0's roster and moves the life cycle to OWNED. -/
  | ownership (slot : Fin 4096)
  /-- LC_SET (R346). Order action: changes the life-cycle state. -/
  | lcSet (slot : Fin 4096)
  /-- DOMAIN_CREATE (R333). Order action: makes an unused domain active with a roster. -/
  | domainCreate (slot : Fin 4096)
  /-- DOMAIN_RETIRE (R334). Order action: advances a domain's epoch and retires it after the sweep. -/
  | domainRetire (slot : Fin 4096)
  /-- DICT_WRITE (R336). Order action: writes RWC dictionary entries all together. -/
  | dictWrite (slot : Fin 4096)
  /-- WHEEL_LOAD (R100). Order action: accepts the staged wheel image for a swap. -/
  | wheelLoad (slot : Fin 4096)
  /-- FUSE_DISABLE (R390). Order action: stops monitoring selected tamper sources and burns their fuses. -/
  | fuseDisable (slot : Fin 4096)
  /-- FORCE_SOURCE (R409). Order action: forces an event of an S4 or S5 source. -/
  | forceSource (slot : Fin 4096)
  /-- PATCH_MIN (R428). Order action: raises PATCH_MIN_VERSION. -/
  | patchMin (slot : Fin 4096)
  /-- ENTROPY_STUDY (R373). Order action: enters Entropy study through Quiesce. -/
  | entropyStudy (slot : Fin 4096)
  /-- HERD_MEMBERSHIP (R495). Order action: installs a new Herd membership table. -/
  | herdMembership (slot : Fin 4096)
  /-- CALENDAR_SET (R470). Order action: sets the calendar time and trim. -/
  | calendarSet (slot : Fin 4096)
  /-- ATTEST_KEY (R349). Order action: registers or clears the owner attestation key. -/
  | attestKey (slot : Fin 4096)
  /-- ROSTER_SET (R333). Order action: replaces the issuing domain's roster. -/
  | rosterSet (slot : Fin 4096)
  /-- IMPORT_AUTHORITY (R337). Order action: sets or clears an import-authority slot. -/
  | importAuthority (slot : Fin 4096)
  /-- IMPORT_KEY (R337). Order action: registers or clears the domain's import key. -/
  | importKey (slot : Fin 4096)
  /-- HBS_PARTITION (R193). Order action: installs a new partition table for a replicated stateful key. -/
  | hbsPartition (slot : Fin 4096)
  /-- EPOCH_ADVANCE (R334). Order action: destroys every key of the domain by an epoch advance. -/
  | epochAdvance (slot : Fin 4096)
  /-- EPOCH_SWEEP (R334). The sweep frees a sweeping domain's entries at 32 per beat and ends with the domain active or unused. -/
  | epochSweep (d : Fin 256)
  /-- ASSEMBLY_SWEEP (R335). After image acceptance, pages older than their domain's EPOCH_SEQ are swept. -/
  | assemblySweep
  /-- STATEFUL_REBUILD (R180). After Assembly each stateful key's traversal state is rebuilt at CEIL_C as internal jobs. -/
  | statefulRebuild (index : Nat)
  /-- WHEEL_BOUNDARY (R87). At wheel position 0 a new tier, a granted swap or an offset step takes effect. -/
  | wheelBoundary
  /-- POWER_CAP (R98). A POWER_CAP write selects a new tier at the next boundary. -/
  | powerCap (value : BitVec 16)
  /-- STAGE_RESET (R100). Empties the wheel staging buffer and cancels a pending swap. -/
  | stageReset
  /-- STAGE_DATA (R96). Appends wheel image bytes, checked as they arrive. -/
  | stageData (data : Bytes)
  /-- COUNT_CLEAR (R105). Clears the counters of a record. -/
  | countClear (index : BitVec 16)
  /-- VLOAD_IMAGE (R315). VLOAD_START = 1 starts loading a vault image from host memory. -/
  | vloadImage
  /-- VLOAD_EMPTY (R316). VLOAD_START = 2 starts an empty vault. -/
  | vloadEmpty
  /-- VLOAD_DONE (R316). The image load ends with acceptance or refusal against the journal. -/
  | vloadDone (list : List (Bytes × Bytes)) (bus : Option Nat)
  /-- JOURNAL_SLOT_WRITTEN (R308). A journal slot write and its read-back complete. -/
  | journalSlotWritten (ok : Bool)
  /-- JOURNAL_ROTATION (R308). After ROTATE_COMMITS commits the current slot is copied to the next region. -/
  | journalRotation
  /-- COMMIT_REQUEST (R313). COMMIT_PERIOD after the last commit with pages dirty, the commit request is raised. -/
  | commitRequest
  /-- COMMIT_INTERVAL_EXPIRY (R311). 10 ms after the previous PENDING slot, a waiting VAULT_PREPARE becomes eligible. -/
  | commitIntervalExpiry
  /-- PATROL_SCRUB_SLICE (R293). A 512-beat slice of patrol scrub reads and corrects vault DRAM lines. -/
  | patrolScrubSlice (found : List (Fin 3))
  /-- DRAM_RETRAIN (R293). A retraining window runs after the die temperature moves by RETRAIN_DELTA. -/
  | dramRetrain (passed : Bool)
  /-- EXPANSION_PURGE_SLICE (R298). A slice of eviction of one domain's unpinned expansion material. -/
  | expansionPurgeSlice
  /-- COPY_AREA_FREED (R309). A job held for its group's copy-area share proceeds once a page is freed. -/
  | copyAreaFreed (page : Nat)
  /-- NOISE_WINDOW (R357). A 1,024-bit window of a source passes RCT and APT and is released to the first stage. -/
  | noiseWindow (source : Fin 4) (raw : Bytes)
  /-- RCT_FAILURE (R358). An RCT failure discards the window and suspends the source. -/
  | rctFailure (source : Fin 4)
  /-- REQUALIFICATION_ATTEMPT (R359). A granted requalification attempt tests 4,096 raw bits of a suspended source. -/
  | requalificationAttempt (source : Fin 4) (passed : Bool)
  /-- REQUAL_PERIOD_EXPIRY (R359). REQUAL_PERIOD after a failed attempt, a new attempt is requested. -/
  | requalPeriodExpiry (source : Fin 4)
  /-- CONDITIONED_BLOCK (R361). The conditioner issues a 384-bit block from 768 debiased bits. -/
  | conditionedBlock
  /-- ROOT_RESEED (R363). Every ROOT_PERIOD beats the root DRBG reseeds from a fresh block. -/
  | rootReseed
  /-- MASK_UNIT_RESEED (R369). Every ROOT_PERIOD a mask unit absorbs 48 bytes from its internal instance. -/
  | maskUnitReseed (unit : Fin 2 × Bool)
  /-- ROOT_AGE_EXPIRY (R363). ROOT_AGE_MAX after its last reseed, the root DRBG stops generating. -/
  | rootAgeExpiry
  /-- ENTROPY_STARTUP_STEP (R371). A step of the entropy start-up sequence completes. -/
  | entropyStartupStep (failed : Fin 16 × Fin 16)
  /-- STARTUP_LIMIT_EXPIRY (R372). STARTUP_LIMIT after step 1 without reaching step 7 raises ENTROPY_STARTUP. -/
  | startupLimitExpiry
  /-- STUDY_CAPTURE_END (R374). The entropy study capture completes. -/
  | studyCaptureEnd (captured : List (Nat × Bytes))
  /-- STUDY_SELECT (R376). Selects the source read next and restarts the read at bit 0. -/
  | studySelect (source : Fin 4)
  /-- STUDY_DATA (R376). A read returns the next 1,024 bytes of the capture and advances. -/
  | studyData
  /-- STUDY_EXIT (R375). Ends Entropy study, erases the capture and repeats start-up. -/
  | studyExit
  /-- MESH_STEP (R384). A mesh step drives the pattern bit and complement and samples each line. -/
  | meshStep (samples : List (Bool × Bool) × Bool)
  /-- MESH_ALARM (R385). MESH_MISMATCH_LIMIT consecutive mismatching steps alarm the mesh. -/
  | meshAlarm (mesh : Fin 5)
  /-- SENSE_SAMPLE (R386). A sense input is sampled and its transition count updated. -/
  | senseSample (input : Fin 5) (level : Bool)
  /-- SENSE_ALARM (R386). An armed sense input active for SENSE_DEBOUNCE alarms. -/
  | senseAlarm (input : Fin 4)
  /-- CHATTER_BIN_ROLL (R387). Every 125 ms a new transition bin begins and the oldest is dropped. -/
  | chatterBinRoll
  /-- ZEROISE_REQUEST (R388). Three consecutive active samples of ZEROISE_IN raise ZEROISE_REQUEST. -/
  | zeroiseRequest
  /-- DETECTOR_ALARM (R391). A main-die detector of voltage, clock, temperature, light or shield fires. -/
  | detectorAlarm (detector : Fin 16) (reading : Int)
  /-- AO_TEMP_ALARM (R402). The AO temperature passes AO_TEMP_LOW or 125 °C. -/
  | aoTempAlarm (temp : Int)
  /-- VBAT_LOW (R383). VBAT falls below VBAT_LOW_MV. -/
  | vbatLow (mv : BitVec 16)
  /-- VBAT_FAIL (R383). VBAT falls below 2.50 V while the main die is off. -/
  | vbatFail (mv : BitVec 16)
  /-- AO_CLOCK (R402). The calendar crystal stops and the calendar becomes invalid. -/
  | aoClock
  /-- AO_SUPPLY_SWITCH (R379). VAO_MAIN below 1.62 V switches the AO domain to VBAT. -/
  | aoSupplySwitch
  /-- AO_SUPPLY_RETURN (R379). After VAO_MAIN stays above 1.70 V for 1 ms the AO domain switches back. -/
  | aoSupplyReturn
  /-- FUSE_BURN_STEP (R390). One tamper-source fuse burn of 100 µs completes or fails. -/
  | fuseBurnStep (ok : Bool)
  /-- LOCKDOWN_HOLD_CLEAR (R440). Core rails below 0.1 V for 10 ms clear the Lockdown hold. -/
  | lockdownHoldClear
  /-- FORCE (R409). A FORCE write raises an event of its source. -/
  | force (source : Fin 192)
  /-- SHADOW_MISMATCH (R411). A held item and its inverted shadow disagree at the per-beat comparison. -/
  | shadowMismatch (item : Fin 5) (source : List (Fin 192)) (copy : List (Fin 6))
  /-- MICRO_TRAP_SCRUB (R421). A corrected operand-memory error takes a micro-trap and is written back through the scrub port. -/
  | microTrapScrub (cls : Fin 8) (unit : Fin 16) (word : Nat)
  /-- ROLLING_BIST_START (R418). Every ROLLING_PERIOD / 42 a partition test is requested. -/
  | rollingBistStart
  /-- UNIT_ISOLATED (R418). A unit awaiting isolation ends its schedule, wipe and windows and is isolated. -/
  | unitIsolated (cls : Fin 8) (unit : Fin 16 × Bool)
  /-- ROLLING_BIST_END (R418). A partition's rolling BIST passes or fails after 15,625 beats. -/
  | rollingBistEnd (result : Bool × Fin 17 × Bool)
  /-- UNIT_RETEST (R419). Requests a rolling BIST of an unusable unit's partition. -/
  | unitRetest (value : BitVec 16)
  /-- MAINT_REQUEST (R431). A maintenance activity requests a grant, queued in arrival order. -/
  | maintRequest (act : Fin 9) (who : Nat)
  /-- MAINT_GRANT (R431). The arbiter grants a queued request compatible with running and earlier ones. -/
  | maintGrant
  /-- MAINT_OVERDUE (R431). A request waiting MAINT_WAIT_MAX raises MAINT_OVERDUE. -/
  | maintOverdue (act : Fin 9)
  /-- PATCH_STAGE_RESET (R424). Empties the patch staging buffer. -/
  | patchStageReset
  /-- PATCH_DATA (R424). Appends patch bundle bytes. -/
  | patchData (data : Bytes)
  /-- PATCH_APPLY (R424). Checks and applies the staged patch bundle. -/
  | patchApply
  /-- PATCH_WINDOW_TIMEOUT (R428). The Patch window ends at its timeout. -/
  | patchWindowTimeout
  /-- WINDOW_CLOSE (R442). Closes the Patch window without a patch. -/
  | windowClose
  /-- POWER_UP (R521). The main die leaves Dormant when rails are in range and PWR_FAIL_N deasserted. -/
  | powerUp
  /-- RESET_RECORDS_READ (R441). Step 1 of power-up ends: fuses, PUF and MRAM records read. -/
  | resetRecordsRead (ramLost : Bool) (bad : List (Fin 256 × Bool × Bool)) (lcBad : (Bool × Bool) × Fin 3)
  /-- MEMORY_BIST_END (R416). Start-up memory BIST of every SRAM completes. -/
  | memoryBistEnd (failed : List (Fin 52))
  /-- LOGIC_BIST_END (R416). Start-up logic BIST of the 52 partitions completes. -/
  | logicBistEnd (failed : List (Fin 52))
  /-- AO_RECORDS_STEP_END (R441). Step 5 ends: R381 and R397 actions done, AO log verified and copied. -/
  | aoRecordsStepEnd
  /-- KNOWN_ANSWER_TESTS_END (R417). Known-answer and detector injection tests complete and the Patch window opens. -/
  | knownAnswerTestsEnd (failed : List (Fin 52)) (detectorBad : List (Fin 16))
  /-- BOOT_RESET (R465). Empties the boot image staging buffer. -/
  | bootReset
  /-- BOOT_DATA (R465). Appends boot image bytes. -/
  | bootData (data : Bytes)
  /-- ASSEMBLY_DONE (R443). Moves the device from Assembly to Service or Degraded service. -/
  | assemblyDone
  /-- QUIESCE (R437). The host's QUIESCE write enters Quiesce. -/
  | quiesce
  /-- RESUME (R439). Returns from Quiesce to the mode it was entered from. -/
  | resume
  /-- DRAINED (R438). Every in-flight job has written its completion in Quiesce. -/
  | drained
  /-- SOFT_RESET (R439). A device reset from Quiesce. -/
  | softReset
  /-- IDLE (R444). An IDLE write enters Idle when its conditions hold. -/
  | idle
  /-- IDLE_DELAY_EXPIRY (R444). Idle conditions held for IDLE_DELAY enter Idle. -/
  | idleDelayExpiry
  /-- WAKE (R445). A wake event starts the 125-beat exit from Idle. -/
  | wake
  /-- MODE_REVERT (R445). 125 beats after a wake the mode reverts and held DEV_CTRL writes act. -/
  | modeRevert
  /-- CEREMONY (R446). Enters Ceremony and stops tenant admission. -/
  | ceremony
  /-- CEREMONY_EXIT (R446). Ends Ceremony. -/
  | ceremonyExit
  /-- CEREMONY_TIMEOUT (R446). CEREMONY_TIMEOUT after entry ends Ceremony. -/
  | ceremonyTimeout
  /-- PWR_FAIL_ASSERT (R448). PWR_FAIL_N asserts: Quiesce, or the start-up sequence stops. -/
  | pwrFailAssert
  /-- PWR_FAIL_DEASSERT (R448). PWR_FAIL_N deasserts, permitting RESUME. -/
  | pwrFailDeassert
  /-- CORE_RAILS_REMOVED (R437). Core rails are removed and the device enters Dormant. -/
  | coreRailsRemoved
  /-- PERST_ASSERT (R481). PERST# asserted causes a device reset, or a retrain in Lockdown. -/
  | perstAssert
  /-- HOT_RESET (R481). A hot reset or DL_Down resets configuration space and disables queues. -/
  | hotReset (down : Bool)
  /-- FUNCTION_LEVEL_RESET (R481). An FLR disables the function's queues and clears its mailbox. -/
  | functionLevelReset (fn : Fin 256)
  /-- VF_ENABLE_CHANGE (R477). Clearing VF Enable or lowering NumVFs resets the VFs that disappear. -/
  | vfEnableChange (enable : Bool) (num : Fin 256)
  /-- POWER_STATE_CHANGE (R480). A function enters or leaves D3hot, or Bus Master Enable changes. -/
  | powerStateChange (fn : Fin 256) (d3hot : Bool) (bme : Bool)
  /-- BAR_ACCESS_UNMAPPED (R476). A memory request outside both BARs is completed with UR. -/
  | barAccessUnmapped (fn : Fin 256)
  /-- AER_ERROR_RECEIVED (R482). A poisoned, ECRC-failed or malformed TLP is discarded and reported. -/
  | aerErrorReceived (kind : Fin 3)
  /-- PTM_REQUEST (R484). Every PTM_INTERVAL a PTM dialogue is started. -/
  | ptmRequest
  /-- PTM_RESPONSE (R484). A PTM response latches a new time and beat pair. -/
  | ptmResponse (time : BitVec 64)
  /-- DOE_OBJECT (R485). A DOE data object is received and served. -/
  | doeObject (object : Bytes)
  /-- SPDM_REQUEST (R486). An SPDM request is answered by the responder. -/
  | spdmRequest (request : Fin 2 × Bool)
  /-- IDE_KM (R487). IDE_KM programs IDE stream keys over a secured session. -/
  | ideKm (stream : Fin 9) (op : Fin 3) (first : Fin 256) (last : Fin 256)
  /-- IDE_TLP_CHECK (R487). A received IDE TLP failing integrity is discarded and the stream goes Insecure. -/
  | ideTlpCheck (stream : Fin 9)
  /-- ENTDAA (R489). CCC assigning the I3C dynamic address. -/
  | entdaa (addr : Fin 128)
  /-- RSTDAA (R489). CCC resetting the dynamic address. -/
  | rstdaa
  /-- SETNEWDA (R489). CCC setting a new dynamic address. -/
  | setnewda (addr : Fin 128)
  /-- GETPID (R489). CCC returning the provisional ID. -/
  | getpid
  /-- GETBCR (R489). CCC returning BCR. -/
  | getbcr
  /-- GETDCR (R489). CCC returning DCR. -/
  | getdcr
  /-- GETSTATUS (R489). CCC returning target status. -/
  | getstatus
  /-- GETMWL (R489). CCC returning the maximum write length. -/
  | getmwl
  /-- GETMRL (R489). CCC returning the maximum read length. -/
  | getmrl
  /-- SETMWL (R489). CCC setting the maximum write length. -/
  | setmwl (value : BitVec 16)
  /-- SETMRL (R489). CCC setting the maximum read length. -/
  | setmrl (value : BitVec 16)
  /-- ENEC (R489). CCC enabling target events. -/
  | enec (events : BitVec 8)
  /-- DISEC (R489). CCC disabling target events. -/
  | disec (events : BitVec 8)
  /-- MCTP_PACKET (R490). An MCTP packet is received, PEC-checked and reassembled. -/
  | mctpPacket (packet : Bytes) (pecOk : Bool)
  /-- IBI_PRIVATE_READ (R490). The bus owner collects a pending packet after an IBI. -/
  | ibiPrivateRead
  /-- SET_ENDPOINT_ID (R490). MCTP control command assigning the endpoint ID. -/
  | setEndpointId
  /-- GET_ENDPOINT_ID (R490). MCTP control command returning the endpoint ID. -/
  | getEndpointId
  /-- GET_MCTP_VERSION_SUPPORT (R490). MCTP control command returning version support. -/
  | getMctpVersionSupport
  /-- GET_MESSAGE_TYPE_SUPPORT (R490). MCTP control command returning message types. -/
  | getMessageTypeSupport
  /-- GET_VENDOR_DEFINED_MESSAGE_SUPPORT (R490). MCTP control command returning vendor-defined support. -/
  | getVendorDefinedMessageSupport
  /-- READ (R457). Dictionary message reading an entry's value. -/
  | read (path : DictPath × Bool)
  /-- WRITE (R457). Dictionary message writing an entry's value. -/
  | write (path : DictPath)
  /-- LOCK (R454). Dictionary message locking an RWL entry. -/
  | lock (path : DictPath)
  /-- DESCRIBE (R458). Dictionary message returning an entry's descriptor. -/
  | describe (path : DictPath)
  /-- MON_CLEAR (R467). Empties the named monitor records. -/
  | monClear (by_ : Fin 256) (value : BitVec 32)
  /-- MEAS_EXTEND (R344). Extends measurement slot 2 to 7 with a digest. -/
  | measExtend (value : Bytes)
  /-- MONITOR_SAMPLE (R466). A periodic level monitor takes a sample. -/
  | monitorSample (which : Fin 5) (reading : Int) (second : Int)
  /-- LIFE_RECORD_WRITE (R468). Each minute the older copy of the life records is written and read back. -/
  | lifeRecordWrite
  /-- CALENDAR_SECOND (R470). Each calendar second the trim accumulates and may insert or drop a count. -/
  | calendarSecond
  /-- PORT_TRAINED (R493). Both lanes of a Herd port train and deskew, and the port is up. -/
  | portTrained (port : Fin 2)
  /-- PORT_LOCK_LOSS (R493). A Herd port loses lock and retrains. -/
  | portLockLoss (port : Fin 2)
  /-- NEIGHBOUR (R494). Herd frame giving the neighbour's DEVICE_ID and position. -/
  | neighbour (port : Fin 2) (frame : Bytes)
  /-- HELLO (R499). Herd frame starting a session handshake. -/
  | hello (port : Fin 2 × Bool) (frame : Bytes)
  /-- HELLO_REPLY (R499). Herd frame answering HELLO with a ciphertext and signature. -/
  | helloReply (port : Fin 2) (frame : Bytes)
  /-- FINISH (R499). Herd frame completing the handshake; session keys are derived. -/
  | finish (port : Fin 2) (frame : Bytes)
  /-- ANNOUNCE (R500). Herd keepalive frame carrying link map and partition digests. -/
  | announce (port : Fin 2) (frame : Bytes)
  /-- REPLICATE (R503). Herd frame creating or destroying a replicated entry. -/
  | replicate (port : Fin 2) (frame : Bytes)
  /-- REPLICATE_ACK (R503). Herd frame acknowledging a REPLICATE with a result. -/
  | replicateAck (port : Fin 2) (frame : Bytes)
  /-- PARTITION_STATE (R505). Herd frame announcing a key's partition epoch and digest. -/
  | partitionState (port : Fin 2) (frame : Bytes)
  /-- RELAY_REQ (R506). Herd frame carrying a relayed dictionary request. -/
  | relayReq (port : Fin 2) (frame : Bytes)
  /-- RELAY_RSP (R506). Herd frame carrying a relayed dictionary response. -/
  | relayRsp (port : Fin 2) (frame : Bytes)
  /-- BEAT_SYNC (R507). Herd frame carrying a member's wheel beat to the leader. -/
  | beatSync (port : Fin 2) (frame : Bytes)
  /-- BEAT_SYNC_REPLY (R507). Herd frame from the leader; the member computes its wheel offset. -/
  | beatSyncReply (port : Fin 2) (frame : Bytes)
  /-- CLOSE (R500). Herd frame closing a session. -/
  | close (port : Fin 2) (frame : Bytes)
  /-- HERD_KEEPALIVE_SEND (R500). Every HERD_KEEPALIVE an ANNOUNCE is sent to each peer. -/
  | herdKeepaliveSend
  /-- HERD_PEER_LOST (R500). No frame for 3 × HERD_KEEPALIVE closes the session. -/
  | herdPeerLost
  /-- HERD_RETRY (R500). After HERD_RETRY the initiator retries the handshake. -/
  | herdRetry
  /-- HERD_REKEY (R500). A session is renewed after HERD_REKEY_FRAMES frames or HERD_REKEY_S seconds. -/
  | herdRekey
  /-- HERD_HELLO_TIMEOUT (R499). A handshake step unanswered within HERD_HELLO_TIMEOUT fails. -/
  | herdHelloTimeout
  /-- RELAY_TIMEOUT (R506). No RELAY_RSP within RELAY_TIMEOUT answers RELAY_FAILED. -/
  | relayTimeout
  /-- HERD_RESYNC_SLICE (R504). One page of replicated entries is compared and resent. -/
  | herdResyncSlice
  /-- BEAT_BOUNDARY (R11). At each beat boundary the beat counter advances by exactly one and the wheel position moves to the next position. -/
  | beatBoundary
  /-- PCIE_LINK_UP (R474). After PERST# is released, or after a hot reset or link loss, the PCI Express link trains and comes up at its negotiated speed and width. -/
  | pcieLinkUp (speed : Fin 5) (width : Fin 4)
  /-- MASK_GENERATOR_NOT_READY (R370). A mask unit's reseed request held by its internal instance reaches ENTROPY_WAIT, and the mask generator becomes not ready. -/
  | maskGeneratorNotReady (unit : Fin 2)
  /-- PTM_DIALOGUE_TIMEOUT (R484). A PTM dialogue fails or times out, leaving the pairs unchanged and counting one PTM_FAILS. -/
  | ptmDialogueTimeout
  /-- SPDM_HEARTBEAT_TIMEOUT (R485). With HBEAT_CAP advertised, a secure SPDM session whose requester sends no heartbeat within its period is ended by the responder. -/
  | spdmHeartbeatTimeout (transport : Fin 2) (session : BitVec 16)
  deriving DecidableEq, Repr

end Sys2Proof
end

