-- ==== Sys2Proof/Decode.lean ====
section
/-! DEFINITION. The command that a word of the opcode table spells. The table gives no row bits: a command of this block
arrives as an event with operands, so that no word spells one. -/

namespace Sys2Proof

/-- The command of a word of `nbits` bits: no row of spec/opcode_table.json gives bits. -/
def decodeTableWord (_nbits _w : Nat) : Option Instr := none

end Sys2Proof
end

