-- ==== Sys2Proof/Machine/Flags.lean ====
section
/-! DEFINITION. Status codes (R46), header flag bits (R28), modes (R435), maintenance activities (R429) and the
numbers of the fault sources that the rules name (R407). -/

namespace Sys2Proof.Machine

/-- Ceiling of a quotient. -/
def ceilDiv (a b : Nat) : Nat := (a + b - 1) / b

/-! ### Job statuses (R46) -/

abbrev stOk : Nat := 0x00
abbrev stUncommitted : Nat := 0x01
abbrev stBadOpcode : Nat := 0x10
abbrev stBadPset : Nat := 0x11
abbrev stBadFlags : Nat := 0x12
abbrev stLengthMismatch : Nat := 0x13
abbrev stLengthLimit : Nat := 0x14
abbrev stSgHopLimit : Nat := 0x15
abbrev stSgDomain : Nat := 0x16
abbrev stBadContext : Nat := 0x17
abbrev stTagCollision : Nat := 0x18
abbrev stHdrCheck : Nat := 0x19
abbrev stHandleInvalid : Nat := 0x20
abbrev stHandleStale : Nat := 0x21
abbrev stUsageDenied : Nat := 0x22
abbrev stQueueDenied : Nat := 0x23
abbrev stLifecycleDenied : Nat := 0x24
abbrev stMeasMismatch : Nat := 0x25
abbrev stKeyExhausted : Nat := 0x26
abbrev stHbsExhausted : Nat := 0x27
abbrev stReservePending : Nat := 0x28
abbrev stQuota : Nat := 0x29
abbrev stVaultInvalid : Nat := 0x2A
abbrev stVaultSequence : Nat := 0x2B
abbrev stVaultFull : Nat := 0x2C
abbrev stOrderMode : Nat := 0x2D
abbrev stOrderMalformed : Nat := 0x2E
abbrev stVerifyFail : Nat := 0x30
abbrev stTagFail : Nat := 0x31
abbrev stTagFailExposed : Nat := 0x32
abbrev stInputRange : Nat := 0x33
abbrev stPointInvalid : Nat := 0x34
abbrev stModulusInvalid : Nat := 0x35
abbrev stSignBlockLimit : Nat := 0x36
abbrev stCompareMismatch : Nat := 0x37
abbrev stDecodeFail : Nat := 0x38
abbrev stDmaError : Nat := 0x40
abbrev stAborted : Nat := 0x41
abbrev stAbortedAlarm : Nat := 0x42
abbrev stEngineFault : Nat := 0x43
abbrev stEntropyNotReady : Nat := 0x44
abbrev stEntropyStarved : Nat := 0x45
abbrev stBlockUnusable : Nat := 0x46
abbrev stQuiesced : Nat := 0x47
abbrev stTimeout : Nat := 0x48
abbrev stLockedDown : Nat := 0x49
abbrev stOrderSignature : Nat := 0x50
abbrev stOrderCounter : Nat := 0x51
abbrev stOrderExpired : Nat := 0x52
abbrev stOrderDevice : Nat := 0x53
abbrev stEnvelopeInvalid : Nat := 0x54
abbrev stRollback : Nat := 0x55

/-- OK and OK_UNCOMMITTED alone report success (R5). -/
def success (st : Nat) : Bool := st == stOk || st == stUncommitted

/-! ### Header flags (R28), as bit numbers of FLAGS -/

abbrev flOwn : Nat := 15
abbrev flFence : Nat := 14
abbrev flIntr : Nat := 13
abbrev flSgIn : Nat := 12
abbrev flSgOut : Nat := 11
abbrev flToVault : Nat := 10
abbrev flDet : Nat := 9
abbrev flPrehash : Nat := 8
abbrev flCtxIsAad : Nat := 7

/-! ### Modes (R435) -/

abbrev mDormant : Nat := 0
abbrev mReset : Nat := 1
abbrev mSelfTest : Nat := 2
abbrev mPatch : Nat := 3
abbrev mAssembly : Nat := 4
abbrev mService : Nat := 5
abbrev mDegraded : Nat := 6
abbrev mCeremony : Nat := 7
abbrev mQuiesce : Nat := 8
abbrev mIdle : Nat := 9
abbrev mStudy : Nat := 10
abbrev mLockdown : Nat := 11

/-! ### Engine classes (R43, R87) -/

abbrev cSwallowtail : Nat := 1
abbrev cSkipper : Nat := 2
abbrev cHawkmoth : Nat := 3
abbrev cTussock : Nat := 4
abbrev cIbex : Nat := 5
abbrev cSymmetric : Nat := 6
abbrev cKeyUnit : Nat := 7

/-- Units of an engine class (R87). -/
def classUnits : Nat → Nat
  | 1 => 16 | 2 => 4 | 3 => 12 | 4 => 4 | 5 => 8 | 6 => 8 | 7 => 8 | _ => 0

/-- First byte of a class in the unit map of a wheel image (R94). -/
def classBase : Nat → Nat
  | 1 => 0 | 2 => 16 | 3 => 20 | 4 => 32 | 5 => 36 | 6 => 44 | 7 => 52 | _ => 60

/-- The engine class of a wheel column (R87). -/
def columnClass (c : Nat) : Nat :=
  if c ≤ 3 then 1 else if c = 4 then 2 else if c ≤ 6 then 3 else if c = 7 then 4 else if c ≤ 9 then 5
  else if c ≤ 13 then 6 else 7

/-- First column and number of columns of a class (R87). -/
def classColumns : Nat → Nat × Nat
  | 1 => (0, 4) | 2 => (4, 1) | 3 => (5, 2) | 4 => (7, 1) | 5 => (8, 2) | 6 => (10, 4) | _ => (14, 2)

/-! ### Maintenance activities (R429) -/

abbrev maRolling : Nat := 0
abbrev maScrub : Nat := 1
abbrev maCommit : Nat := 2
abbrev maRequal : Nat := 3
abbrev maRotate : Nat := 4
abbrev maPurge : Nat := 5
abbrev maSwap : Nat := 6
abbrev maRetrain : Nat := 7
abbrev maResync : Nat := 8

/-- The pairs of activities that exclude each other (R430). -/
def exclusive (a b : Nat) : Bool :=
  a == b || (min a b == 0 && max a b == 6) || (min a b == 1 && max a b == 7) || (min a b == 2 && max a b == 4)
    || (min a b == 2 && max a b == 7) || (min a b == 3 && max a b == 6)

/-! ### Beats of physical times (R8): one beat is 128 ns, 7,812,500 beats a second -/

/-- The first whole beat at or after `ms` milliseconds (R79, worked example). -/
def msBeats (ms : Nat) : Nat := (ms * 15625 + 1) / 2

/-- The beats of `s` seconds. -/
def secBeats (s : Nat) : Nat := s * 7812500

end Sys2Proof.Machine
end

