-- ==== Sys2Proof/Config.lean ====
section
/-! DEFINITION. What one implementation fixes, and the free values: constants with no body, of which
nothing can be proved but that they are what they are. The published standards that the Q9 computes
(FIPS 203 to 206, SP 800-38D and so on) are uninterpreted here: the spec names them and does not
contain them (log 2). -/

namespace Sys2Proof

/-- A function of a published standard that the spec names without giving its body (log 2). -/
inductive Prim where
  -- hashes, MACs and ciphers (10_symmetric_digest)
  | digest | xof | cshake | ascon | hmac | kmac | cmac
  | aesEcbEnc | aesEcbDec | gcmTag | ccmCipher | ccmTag | xtsEnc | xtsDec | kwWrap | kwUnwrap | chacha | poly1305Tag | asconCipher
  | asconTag
  -- public-key schemes
  | expand | publicKey | kemCipher | kemSecret | sign | recover | oaepEncode | oaepDecode | rsaGen
  -- predicates
  | verify | unwrapOk | oaepOk | inputOk | attemptOk | kwOk | checkOk | primeOk | selfVerify | spdm
  -- sealing and records
  | oid | hbsPk | keccak | seal | unseal | quote | pec | mctp
  deriving DecidableEq, Repr

namespace Config

/-- Byte `i` of the output of a published function on its inputs (log 2). -/
opaque prim : Prim → List Bytes → Nat → Byte

/-- The answer of a published predicate on its inputs (log 2). -/
opaque primB : Prim → List Bytes → Bool

/-- A count that a published algorithm arrives at on its inputs (log 2). -/
opaque primN : Prim → List Bytes → Nat

/-- Byte `i` of the `n`-th draw of random bits (log 3). -/
opaque random : Nat → Nat → Byte

/-- The `n`-th value that the spec leaves open after a step that goes on (log 4). -/
opaque free : Nat → Nat

/-- The ordering grade fixed in fuses: true for Q9-X40-I, false for Q9-X40-C (R1, R2). -/
opaque industrial : Bool

/-- The ML-DSA-87 half of the identity public key, 2,592 bytes (R348). -/
opaque idPkPq : Nat → Byte

/-- The ECDSA P-384 half of the identity public key, 97 bytes (R348). -/
opaque idPkCl : Nat → Byte

/-- The certificate chain of the identity key and its length (R354). -/
opaque idCert : Nat → Byte

/-- Length of the chain, of which at most 16,384 bytes count. -/
opaque idCertLen : Nat

/-- The device unique key that the SRAM PUF gives (R343). -/
opaque duk : Nat → Byte

/-- The identity key's seeds as they stand sealed in MRAM, 80 bytes (R343, R348). -/
opaque idSealed : Nat → Byte

/-- What a write of a vendor test entry does in BLANK and VENDOR_TEST, by index, subindex and value, which the spec does not state: 0 the
entry is not implemented, 2 it takes the step of R346, and otherwise it keeps to the unit that the entry tests (log 11). -/
opaque vendorWrite : Nat → Nat → List Byte → Nat

/-- The provisioning roster of such a write: count, quorum, and the officers, 64 bytes each from byte 64 (R346; log 11). -/
opaque provisionRoster : List Byte → Nat → Byte

/-- The family patch key that ROM holds (R422). -/
opaque patchKey : Nat → Byte

/-- The ML-DSA-87 half of the Ronlith signature key for patch bundles, 2,592 bytes (R423). -/
opaque patchPkPq : Nat → Byte

/-- The ECDSA P-384 half of that key, 97 bytes (R423). -/
opaque patchPkCl : Nat → Byte

/-- The control-store ROM revision, 32 bits (R434). -/
opaque romId : Nat

/-- Bytes of SHAKE256 output that a candidate of FN-DSA key generation takes, by PSET, which R144 does not state (log 4). -/
opaque fnStreamLen : Nat → Nat

/-- 4 KiB units of the expanded material of an HQC set beyond the first, which the spec does not state (log 6). -/
opaque hqcUnits : Nat → Nat

/-- Beats of the class check on a public key of an envelope, for the classes whose check has no operation of its own: class and
PSET (log 10). -/
opaque checkLen : Nat → Nat → Nat

/-- LMS_TYPE and OTS_TYPE of the levels of a class-0x5 key whose sealed body was loaded from an image: the entry does not
hold them (log 8). -/
opaque levels : Bytes → List (Nat × Nat)

/-- DEFAULT of a numeric entry for which its table gives none, by index and subindex (R458, log 11). -/
opaque openDefault : Nat → Nat → Nat

/-- SUB_COUNT of the vendor test indices, which the spec does not state (R473, log 11). -/
opaque vendorSubs : Nat → Nat

/-- Heartbeat period of SPDM sessions in seconds, which the spec does not state (R485, log 11). -/
opaque heartbeat : Nat

/-- The answer to GETSTATUS, which the spec does not lay out, by whether a packet waits (R489, log 11). -/
opaque i3cStatus : Bool → BitVec 16

/-- Ronlith's MIPI manufacturer ID, 15 bits, which the spec does not state (R489, log 11). -/
opaque mipiId : Nat

/-- The number of RESULT BUSY of a REPLICATE_ACK, which the spec does not state (R501, log 11). -/
opaque resultBusy : Byte

/-- The die revision, 8 bits, that Revision ID shows (R475; log 11). -/
opaque dieRevision : Nat

/-- The code of the fused set point of VDD_CORE, 0 to 20 (R520). -/
opaque vselCode : Fin 21

/-- The serial number, 64 bits (R354). -/
opaque serial : Nat

end Config

/-- `n` bytes of a published function's output. -/
def primOut (p : Prim) (args : List Bytes) (n : Nat) : Bytes := (List.range n).map (Config.prim p args)

/-- `n` bytes of the draw numbered `k`. -/
def randomOut (k n : Nat) : Bytes := (List.range n).map (Config.random k)

/-- SHA3-256, function 7 of the table of functions (R254). -/
def sha3_256 (b : Bytes) : Bytes := primOut .digest [[7#8], b] 32

/-- SHA3-384, function 8. -/
def sha3_384 (b : Bytes) : Bytes := primOut .digest [[8#8], b] 48

/-- SHAKE256, function 11. -/
def shake256 (b : Bytes) (n : Nat) : Bytes := primOut .xof [[11#8], b] n

end Sys2Proof
end

