-- ==== Sys2Proof/Machine/State.lean ====
section
/-! DEFINITION. Everything the spec gives the machine, as plain data: one structure per chapter, and
the one State that holds them beside the queue of waiting commands. -/

namespace Sys2Proof.Machine

/-- Why a command stops the machine. -/
inductive Fault where
  /-- BEAT_BOUNDARY at beat 2^64 − 1: R8 says that the counter does not wrap within the service life and gives no
  successor. Raised by BEAT_BOUNDARY alone; safe, since the hardware may go on where the model stops. -/
  | beatCounterEnd
  deriving DecidableEq, Repr

/-- Why a command has no meaning here. -/
inductive Refusal where
  /-- The arm of a command without a meaning; safe. -/
  | notModelled (mnemonic : String)
  deriving DecidableEq, Repr

/-! ### Tables kept as sorted lists -/

/-- The entry of a key, if one is listed. -/
def tget {α : Type} : List (Nat × α) → Nat → Option α
  | [], _ => none
  | (k, v) :: r, n => if k = n then some v else tget r n

/-- The table with the key's entry set; keys stay rising. -/
def tput {α : Type} : List (Nat × α) → Nat → α → List (Nat × α)
  | [], n, w => [(n, w)]
  | (k, v) :: r, n, w => if n < k then (n, w) :: (k, v) :: r else if k = n then (n, w) :: r else (k, v) :: tput r n w

/-- The table without the key's entry. -/
def tdel {α : Type} (t : List (Nat × α)) (n : Nat) : List (Nat × α) := t.filter (fun x => x.1 != n)

/-- A table's keys rise strictly. -/
def sortedKeys {α : Type} : List (Nat × α) → Bool
  | [] => true
  | [_] => true
  | (k, _) :: (k', v') :: r => decide (k < k') && sortedKeys ((k', v') :: r)

/-! ### Jobs (01, 02) -/

/-- The 64 header bytes as fields (R26); `checks` is the outcome of the CRC of R27. -/
structure Header where
  opcode : Nat := 0
  pset : Nat := 0
  hdrVer : Nat := 0
  flags : Nat := 0
  tag : Nat := 0
  keyHandle : Nat := 0
  auxHandle : Nat := 0
  inLen : Nat := 0
  outLen : Nat := 0
  inAddr : Nat := 0
  outAddr : Nat := 0
  ctxAddr : Nat := 0
  streamId : Nat := 0
  ctxLen : Nat := 0
  reserved : Nat := 0
  crcOk : Bool := false
  deriving DecidableEq, Repr

/-- A fetched header waiting in the intake buffer (R54, R65). -/
structure IntakeHeader where
  /-- entry of the submission ring -/
  index : Nat
  hdr : Header
  /-- HDR_CHK failed once and the second read is outstanding (R65) -/
  reread : Bool := false
  /-- the parameter block, once read (R31) -/
  block : Option Bytes := none
  deriving DecidableEq, Repr

/-- A parameter block (R32), empty where CTX_LEN is 0. -/
structure ParamBlock where
  present : Bool := false
  flags : Nat := 0
  options : Nat := 0
  template : Bytes := []
  body : Bytes := []
  deriving DecidableEq, Repr

/-- One span of a buffer (R35). -/
structure Span where
  addr : Nat
  len : Nat
  zero : Bool := false
  deriving DecidableEq, Repr

/-- The walk of one buffer (R36). -/
structure Walk where
  next : Nat := 0
  hops : Nat := 0
  total : Nat := 0
  spans : List Span := []
  done : Bool := true
  err : Nat := 0
  errInfo : Nat := 0
  deriving DecidableEq, Repr

/-- A stream context bound to a name (R269 to R273). -/
structure Stream where
  /-- the parameters of the last STREAM_INIT: PSET, KIND, KEY_HANDLE, the body of KIND, and associated data -/
  pset : Nat
  kind : Nat
  handle : Nat
  body : Bytes := []
  aad : Bytes := []
  /-- a computation is under way -/
  active : Bool := false
  /-- the bytes taken in so far -/
  data : Bytes := []
  /-- the invocation counter of a DEV_IV computation -/
  counter : Option Nat := none
  /-- plaintext bytes that its UPDATE jobs have written -/
  written : Nat := 0
  deriving DecidableEq, Repr

/-- What STREAM_DISCARD without unbinding leaves: the name stays bound and the next update starts anew (R271). -/
def Stream.discarded (c : Stream) : Stream := 
  { c with active := false, data := [], counter := none, written := 0 }

/-- What a job's schedule has computed, released at its last beat (R21 to R23). -/
structure Result where
  status : Nat
  info : Nat := 0
  /-- bytes for the output buffer -/
  out : Bytes := []
  /-- sealed body, public key and class of the entry to write (R40) -/
  entryClass : Nat := 0
  entryPset : Nat := 0
  entryBody : Bytes := []
  entryLevels : List (Nat × Nat) := []
  /-- what an envelope gives besides: attributes, a public-only entry, and the key that it replaces (R338, R340) -/
  entryAttrs : Option Nat := none
  entryPublic : Bool := false
  replaces : Bool := false
  blocks : Nat := 0
  /-- dictionary counters that the release adds to, by 256 × index + subindex -/
  bumps : List (Nat × Nat) := []
  /-- what the released job leaves in its stream context (R271) -/
  stream : Option Stream := none
  /-- a chunk that is not the last (R267, R214, R234) -/
  more : Bool := false
  /-- plaintext that a failed tag leaves in host memory (R265, R273) -/
  exposed : Nat := 0
  /-- the fault source that a check of the schedule raises; the job then ends with ENGINE_FAULT (R22) -/
  fault : Option Nat := none
  deriving DecidableEq, Repr

/-- A key of the vault, by the index of its first entry (R281, R288). The continuation entries repeat its fields. -/
structure Key where
  cls : Nat
  /-- 1 KEY, 2 PUBLIC, 3 RETIRED -/
  state : Nat
  pset : Nat := 0
  gen : Nat
  version : Nat := 0
  attrs : Nat := 0
  domain : Nat
  span : Nat := 1
  measCheck : Bytes := zeros 4
  /-- MD of the selection when it was sealed, empty where BIND_MEAS is 0 (R344) -/
  md : Bytes := []
  /-- LMS_TYPE and OTS_TYPE of the levels of a class-0x5 key, top first (R178) -/
  levels : List (Nat × Nat) := []
  /-- the tags of its entries pass (R287) -/
  tagOk : Bool := true
  /-- the committed root holds the entry as it stands (R303); the open or pending round holds it as it stands -/
  durable : Bool := false
  inRound : Bool := false
  /-- the sealed bodies of its entries in order (R284, R169, R179, R228), or the public key of a public-only entry -/
  body : Bytes := []
  /-- the sealed bodies of a key that has not been opened since its image was loaded, empty once it is (R287) -/
  sealed : Bytes := []
  /-- PK_TAG of a key loaded from an image, empty for one made since (R281) -/
  pkTag : Bytes := []
  deriving DecidableEq, Repr

/-- The state of a sequencer that a micro-trap saves (R421): no operand data. The model holds no control-store ROM, so the program
counter, the loop counters, the flags and the save area's address are free values (log 66). -/
structure TrapFrame where
  pc : Nat
  loops : List Nat
  flags : Nat
  /-- the schedule beat reached, and the job's slot -/
  beat : Nat
  slot : Nat
  save : Nat
  deriving DecidableEq, Repr

/-- One job in its slot (R13 to R25). -/
structure Job where
  queue : Nat
  domain : Nat
  /-- admission order, which breaks ties of age (R90) -/
  seq : Nat
  admitBeat : Nat
  /-- age of the next start right (R90) -/
  age : Nat
  hdr : Header
  pb : ParamBlock := {}
  phase : Nat := 2
  /-- the class whose start right it takes (0 none), the units of the class that can run it, and a second class that a
  composite schedule or an order also needs (R44, R92) -/
  cls : Nat := 0
  unitLo : Nat := 0
  unitHi : Nat := 0
  cls2 : Nat := 0
  /-- its schedule is masked, or draws from its domain's DRBG (R17) -/
  masked : Bool := false
  drbg : Bool := false
  windowKiB : Nat := 0
  stagingUse : Nat := 0
  inWalk : Walk := {}
  outWalk : Walk := {}
  input : Bytes := []
  aad : Bytes := []
  fetchEnd : Nat := 0
  /-- since when it is held for each cause of R367: the start-up tests, its instance, the mask generator -/
  heldStart : Option Nat := none
  heldFrom : Option Nat := none
  heldMasks : Option Nat := none
  unit : Option (Nat × Nat) := none
  granted : Nat := 0
  /-- its place in the order of grant (R187) -/
  grantNo : Nat := 0
  schedLen : Nat := 0
  keyIndex : Option Nat := none
  auxIndex : Option Nat := none
  /-- the keys that staging moved into operand memory; a DESTROY leaves a staged job its key (R20) -/
  key : Option Key := none
  aux : Option Key := none
  counter : Option Nat := none
  /-- staging has passed the test of R187, and the assignment is to come in the first schedule beat -/
  wants : Bool := false
  /-- the run of free entries that staging has reserved: its first entry and length (R40, R290) -/
  newIndex : Option Nat := none
  newSpan : Nat := 0
  quotaUnits : Nat := 0
  /-- what the new key will add to the pinned commitment: expansion units, and DEV_IV keys (R296, R297) -/
  commit : Nat × Nat := (0, 0)
  /-- eligible at the end of the last beat (R90) -/
  eligible : Bool := false
  expanded : Bool := false
  /-- an expansion found no room (R297) -/
  noRoom : Bool := false
  chunk : Nat := 0
  /-- entry of the submission ring that the header came from (R60) -/
  ringIndex : Nat := 0
  /-- what the settings that a job keeps from its admission held then (R139, R164, R197, R220, R247, R276), by 256 × index +
  subindex -/
  policy : List (Nat × Int) := []
  /-- the address of a bus error that ends the job with DMA_ERROR at its staging or next chunk boundary (R24, R42, R79) -/
  dmaErr : Option Nat := none
  /-- reads of input data are being issued (R68) -/
  reading : Bool := true
  /-- where the output written last began in the output buffer (R80) -/
  outFrom : Nat := 0
  /-- state of a generation in chunks (R204, R234) -/
  scratch : List Nat := []
  result : Option Result := none
  status : Option Nat := none
  info : Nat := 0
  written : Nat := 0
  exposed : Nat := 0
  blocks : Nat := 0
  endBeat : Nat := 0
  wiped : Bool := true
  target : Option Nat := none
  /-- attempt blocks of a signing job (R130, R132): block length, first beat of the first block, window length, the partner
  unit, and the block limit in force at the grant (R134) -/
  blockLen : Nat := 0
  firstBlock : Nat := 0
  winLen : Nat := 0
  partner : Option Nat := none
  blockMax : Nat := 0
  /-- the bytes drawn in staging, held in operand memory (R366) -/
  rand : Bytes := []
  /-- 1 verified release, 2 stream release of an AEAD decryption (R264), 0 otherwise -/
  release : Nat := 0
  /-- jobs staged with the entry that a DESTROY destroyed, by their `seq` (R20) -/
  waitFor : List Nat := []
  /-- the domain whose sweep the completion of an order waits for (R334) -/
  sweepOf : Option Nat := none
  /-- slices of key generation that run: unit, grant beat, length; subtree tasks not begun, as number and
  beats of each; and tasks suspended on a unit with the beats they still need (R181) -/
  slices : List (Nat × Nat × Nat) := []
  tasks : List (Nat × Nat) := []
  suspended : List (Nat × Nat) := []
  /-- the end of the job's last slice on each lane group, from which its next slice there has its age (R90, R181) -/
  sliceAges : List (Nat × Nat) := []
  /-- the job's save area: the frames of its suspended tasks, by lane group (R421) -/
  saved : List (Nat × TrapFrame) := []
  /-- the second unit of a composite schedule and the beat from which it is free again (R162) -/
  unit2 : Option (Nat × Nat) := none
  deriving DecidableEq, Repr

/-- A shared resource held by a running schedule (R19, R91): kind (1 lanes of a lane group, 2 the lane of a lane job, 3
slices of vault DRAM bandwidth, 4 a second unit, 5 the mark of a job that waits for room in the copy area, 6 the AES datapath of a
key unit), lending group,
lane group or unit, amount, the lanes by their numbers, the holder's slot (4,096 and above for internal jobs), and the beats of
its use. -/
structure Hold where
  kind : Nat
  place : Nat
  amount : Nat
  lanes : List Nat := []
  slot : Nat
  since : Nat
  /-- the beat from which it is free again; 2^64 where the holder's end gives it back -/
  till : Nat
  deriving DecidableEq, Repr

/-- An engine unit (R87, R91, R432). -/
structure EngineUnit where
  busy : Bool := false
  holder : Nat := 0
  wipeEnd : Nat := 0
  /-- the beat from which it may take a start right again, where the running schedule has a fixed length (R91) -/
  freeAt : Option Nat := none
  /-- 0 in service; 1 awaiting isolation; 2 isolated; 3 unusable -/
  state : Nat := 0
  /-- the beat from which isolation or a return to use has reached the cells of the unit, and whether they are live in the beat
  before it (R99) -/
  liveUntil : Nat × Bool := (0, false)
  cause : Nat := 0
  lastTest : Nat := 0
  /-- operand memory: the two arithmetic shares of each secret value that staging moved into it (R109, R142) -/
  shares : List (Nat × Nat) := []
  /-- its trap frames, at most 4, which its wipe clears (R421) -/
  frames : List TrapFrame := []
  deriving DecidableEq, Repr

structure JobState where
  /-- start rights granted so far -/
  grants : Nat := 0
  slots : List (Nat × Job) := []
  units : List (Nat × EngineUnit) := []
  holds : List Hold := []
  /-- next queue of the admission round (R14) -/
  rotation : Nat := 0
  /-- headers admitted in this beat (R14) -/
  admitted : Nat := 0
  nextSeq : Nat := 0
  /-- columns of the wheel whose right of this beat has been offered -/
  offered : List Nat := []
  /-- per stream position, the job that runs on it is found in slots; jobs granted in this beat -/
  grantedNow : List Nat := []
  deriving DecidableEq, Repr

/-! ### Rings (03) -/

inductive QState where
  | disabled | running | stopped | halted
  deriving DecidableEq, Repr

inductive Fetch where
  | idle | active | paused
  deriving DecidableEq, Repr

/-- A read of host memory in flight or waiting for its retry (R62, R79). -/
structure Retry where
  read : DmaRead
  /-- attempts that failed so far -/
  fails : Nat
  /-- the beat in which the last failure was known -/
  failed : Nat
  /-- the address that the retry reads -/
  addr : Nat
  /-- the retry has not been issued yet -/
  waiting : Bool
  deriving DecidableEq, Repr

/-- What the Q9 keeps of one queue pair beside its dictionary settings (R57, R63, R66, R73, R75). -/
structure Queue where
  state : QState := .disabled
  fetch : Fetch := .idle
  haltCause : Nat := 0
  sqHead : Nat := 0
  cqTail : Nat := 0
  cqHead : Nat := 0
  cqPhase : Bool := true
  haltAddr : Nat := 0
  violCount : Nat := 0
  retryCount : Nat := 0
  abort : Bool := false
  reset : Bool := false
  restart : Bool := false
  /-- the jobs that the last ABORT, RESET or disable met were admitted before this number (R78) -/
  abortSeq : Nat := 0
  disabling : Bool := false
  /-- the disable ends the queue's assignment to its domain (R334) -/
  retiring : Bool := false
  /-- the jobs that a function-level reset ended write no completion (R481) -/
  silent : Bool := false
  doorbell : Bool := false
  /-- the header read outstanding, and the beat of its issue -/
  reading : Bool := false
  lastFetch : Nat := 0
  intake : List IntakeHeader := []
  intrCount : Nat := 0
  intrFirst : Nat := 0
  /-- completions written and not yet consumed (R67) -/
  unread : Nat := 0
  /-- completions lost to a refused write (R80) -/
  lost : Nat := 0
  deriving DecidableEq, Repr

/-- A write or message the Q9 has sent to the host (R60, R71, R73, R450). The log is the model's record of what left
the block. -/
inductive Sent where
  | output (slot : Nat) (addr : Nat) (data : Bytes)
  | ownClear (queue index byte5 : Nat)
  | completion (queue index : Nat) (record : Bytes)
  | message (fn vec : Nat)
  | status (fn addr : Nat) (record : Bytes)
  | mctp (packet : Bytes)
  | ccc (data : Bytes)
  | herd (port kind : Nat) (data : Bytes)
  | pcie (kind : Nat) (data : Bytes)
  | doe (fn : Nat) (data : Bytes)
  | ibi (byte : Nat)
  deriving DecidableEq, Repr

/-- Interrupt status, MSI-X state and link state of one function (R73, R76, R477 to R481). -/
structure Func where
  status : Nat := 0
  haltMap : Nat := 0
  vecMask : Nat := 0xFF
  vecPending : Nat := 0
  bme : Bool := false
  d3hot : Bool := false
  /-- Max_Read_Request_Size in bytes, and the Completion Timeout Value of Device Control 2 (R478, R479) -/
  maxRead : Nat := 512
  timeoutCode : Nat := 0
  /-- the MSI-X table's address and data dwords that are not zero, by dword (R476) -/
  msix : List (Nat × Nat) := []
  deriving DecidableEq, Repr

structure RingState where
  queues : List (Nat × Queue) := []
  funcs : List (Nat × Func) := []
  /-- violation bucket per domain (R83): level, the beat from which its loss counts, and the part of a period that was over by
  then, in 1 / VIOLATION_RATE beats -/
  buckets : List (Nat × (Nat × (Nat × Nat))) := []
  /-- transfers that a function may not make and whose queues halt at the end of the beat: queue, HALT_CAUSE and address (R80, R265,
  R480) -/
  owed : List (Nat × (Nat × Nat)) := []
  retries : List Retry := []
  /-- the reads under way, with the beat of their issue (R79, R479) -/
  issued : List (DmaRead × Nat) := []
  sent : List Sent := []
  deriving DecidableEq, Repr

/-! ### The slot wheel (04) -/

structure WheelState where
  /-- the running image; none: the factory wheel (R103) -/
  image : Option Bytes := none
  source : Nat := 2
  digest : Bytes := []
  running : Bool := false
  offset : Int := 0
  /-- an offset step that waits for the boundary (R89) -/
  align : Int := 0
  /-- the last position is being held for one extra beat, or was (R89) -/
  holding : Bool := false
  staged : Bytes := []
  stageCheck : Nat := 0
  stageDigest : Bytes := []
  swapState : Nat := 0
  swapCount : Nat := 0
  swapBeat : Nat := 0
  bootDigest : Bytes := zeros 48
  tier : Nat := 0
  tierNext : Nat := 0xFF
  tierChanges : Nat := 0
  /-- last borrower per (group × 8 + class) since the image took effect (R90) -/
  borrower : List (Nat × Nat) := []
  grantedCount : List (Nat × Nat) := []
  borrowedCount : List (Nat × Nat) := []
  unusedCount : List (Nat × Nat) := []
  deriving DecidableEq, Repr

/-! ### Faults, self-test, patches and maintenance (15) -/

/-- A fault record (R412, R413). -/
structure FaultRecord where
  beat : Nat
  source : Nat
  cls : Nat
  rflags : Nat
  engineClass : Nat
  unit : Nat
  domain : Nat
  queue : Nat
  tag : Nat
  detail : Nat
  calSec : Nat
  seq : Nat
  deriving DecidableEq, Repr

structure FaultState where
  /-- the graver class of a source whose two copies disagree (R411) -/
  shadowClasses : List (Nat × Nat) := []
  counts : List (Nat × Nat) := []
  lastBeats : List (Nat × Nat) := []
  /-- the last 1,024 records, newest first -/
  flog : List FaultRecord := []
  flogSeq : Nat := 0
  mlog : List FaultRecord := []
  mlogSeq : Nat := 0
  /-- the event set of the beat (R410): source, class, named slot -/
  events : List (Nat × Nat × Option Nat) := []
  eventsBeat : Nat := 0
  shadowMismatches : Nat := 0
  alarmOut : Bool := false
  deriving DecidableEq, Repr

structure SelfTestState where
  startupFails : Nat := 0
  rollingNext : Nat := 0
  rollingPasses : Nat := 0
  rollingFails : Nat := 0
  lastRolling : Nat := 0
  /-- the partition under test, the beat its test began, and whether it is a retest -/
  testing : Option (Nat × Nat × Bool) := none
  testBegun : Bool := false
  /-- the pattern seed of the test under way (R418) -/
  seed : Bytes := []
  retestState : Nat := 0
  retestPartition : Nat := 0
  /-- words corrected in operand memory within a job: the number of its admission, its slot, the word (R421) -/
  scrubs : List (Nat × Nat × Nat) := []
  deriving DecidableEq, Repr

structure PatchState where
  staged : Bytes := []
  status : Nat := 0
  version : Nat := 0
  minVersion : Nat := 0
  /-- the bundle applied at this start, and the sections that it loaded into patch RAM and patch maps (R422, R424) -/
  applied : Bytes := []
  body : Bytes := []
  deriving DecidableEq, Repr

/-- A queued maintenance request (R431): activity, arrival beat, overdue raised, and for whom it was made. -/
structure MaintReq where
  act : Nat
  beat : Nat
  overdue : Bool := false
  who : Nat := 0
  deriving DecidableEq, Repr

structure MaintState where
  /-- grants that run: activity, for whom, and the beat of the grant -/
  running : List (Nat × (Nat × Nat)) := []
  queue : List MaintReq := []
  grants : List (Nat × Nat) := []
  deriving DecidableEq, Repr

/-! ### Modes (16) -/

/-- The PCI Express link (R474, R479, R481, R510). -/
structure LinkState where
  up : Bool := false
  speed : Nat := 0
  width : Nat := 0
  downs : Nat := 0
  timeouts : Nat := 0
  perstCount : Nat := 0
  perst : Bool := true
  deriving DecidableEq, Repr

structure ModeState where
  /-- the code that VSEL_4 to VSEL_0 drive (R520) -/
  vsel : Nat := 10
  mode : Nat := 1
  prev : Nat := 0
  modeBeat : Nat := 0
  changes : Nat := 0
  quiesceKind : Nat := 0
  resetCause : Nat := 0
  /-- the mode that Quiesce or Idle was entered from -/
  cameFrom : Nat := 0
  studyPending : Bool := false
  drained : Bool := false
  lockdownHold : Bool := false
  pwrFail : Bool := false
  stopped : Bool := false
  step : Nat := 1
  startupBeats : List (Nat × Nat) := []
  serviceBeat : Nat := 0
  bootPhase : Bool := false
  wheelPhase : Bool := false
  /-- a mode that the next beat enters: 5 after ASSEMBLY_DONE, 9 after IDLE, 0 none (R443, R444) -/
  nextMode : Nat := 0
  idleFrom : Option Nat := none
  idleEntries : Nat := 0
  idleBeats : Nat := 0
  wakeBeat : Option Nat := none
  held : List Nat := []
  lastCtrl : Nat := 0
  refused : Bool := false
  beatLatch : Nat := 0
  ceremonyBeat : Nat := 0
  ceremonyOver : Bool := false
  dsrLast : Bytes := zeros 32
  dsrSeq : Nat := 0
  dsrFinal : Bool := false
  dsrAddr : List (Nat × Nat) := []
  windowBeat : Nat := 0
  /-- the final record of a Lockdown, which the completions of the jobs it ended go before (R440): the beat of its event, source, class
  and the mode before -/
  finalDue : Option (Nat × Nat × Nat × Nat) := none
  deriving DecidableEq, Repr

/-! ### The always-on domain and the detectors (14) -/

/-- A mesh (R384, R385): `history` holds the last 64 steps, bit 0 the newest, a one bit a mismatch. -/
structure Mesh where
  consecutive : Nat := 0
  history : Nat := 2 ^ 64 - 1
  mismatches : Nat := 0
  lastMismatch : Nat := 0
  deriving DecidableEq, Repr

/-- A sense input (R386, R387): `level` says that it is at its active level, and `runTime` is the time since the first
sample of the run, in 1/32,768 s; the current bin comes first. -/
structure Sense where
  level : Bool := false
  runTime : Option Nat := none
  bins : List Nat := []
  beyond : Bool := false
  transitions : Nat := 0
  deriving DecidableEq, Repr

/-- Battery-backed RAM, AO logic and detector readings (R378 to R403). -/
structure AoState where
  rootSeed : Bytes := zeros 48
  rootGen : Nat := 0
  nextSeed : Bytes := zeros 48
  nextGen : Nat := 0
  logKey : Bytes := zeros 32
  patternKey : Bytes := zeros 32
  patternCtr : Nat := 0
  intruded : Bool := false
  erasedOff : Bool := false
  eraseMap : Nat := 0
  /-- the AO copies of the entries marked so, by 256 × index + subindex (R403) -/
  config : List (Nat × Int) := []
  /-- CHECK as stored, less the CRC-32 of what lies before it: 0 where CHECK is correct (R378, R381) -/
  checkErr : Nat := 0
  supplyVbat : Bool := false
  vbatMv : Nat := 3000
  vbatLow : Bool := false
  aoTemp : Int := 250
  /-- sources that alarmed since the last device reset (R395) -/
  alarmed : List Nat := []
  lines : List Nat := []
  lineStep : Nat := 0
  meshes : List (Nat × Mesh) := []
  senses : List (Nat × Sense) := []
  zeroRun : Nat := 0
  fused : Nat := 0
  /-- burns still to make, in bit order, and the bits that do not sense until the next reset (R390) -/
  burning : List Nat := []
  burnAt : Nat := 0
  unmonitored : Nat := 0
  /-- the entries held, oldest first, each with its sequence number (R398) -/
  log : List (Nat × Bytes) := []
  logSeq : Nat := 0
  logChain : Bool := false
  logCopied : Nat := 0
  dieTempA : Int := 250
  dieTempB : Int := 250
  vcoreMv : Nat := 750
  vsramMv : Nat := 800
  lightLast : Nat := 0
  glitchMargin : Nat := 250
  detectorTests : Nat := 0
  clamped : Bool := false
  deriving DecidableEq, Repr

/-! ### Domains, life cycle and identity (12) -/

/-- An officer or authority slot (R325): SHA3-256 of the public keys and the PAIRED bit. -/
structure Officer where
  hash : Bytes
  paired : Bool
  deriving DecidableEq, Repr

/-- The security record of a domain (R324). -/
structure DomRec where
  dstate : Nat := 0
  retire : Bool := false
  epoch : Nat := 0
  epochSeq : Nat := 0
  orderCounter : Nat := 0
  importCounter : Nat := 0
  importCeil : Nat := 0
  quorumM : Nat := 0
  officers : List (Nat × Officer) := []
  authorities : List (Nat × Officer) := []
  importKey : Nat := 0
  deriving DecidableEq, Repr

/-- The two copies of a record in MRAM (R324, R345): which of them is current, its sequence number and the beat of its write, and the
content of the other copy, whose sequence number is one lower. -/
structure Copies (α : Type) where
  current : Nat := 0
  seq : Nat := 0
  beat : Option Nat := none
  other : α
  deriving DecidableEq, Repr

/-- What chapter 12 keeps beside the security records. -/
structure SecState where
  /-- the copies of the domains' records that have been written, by domain, and those of the life-cycle record: LC_STATE, LC_SEQ and
  SEED_GENERATION -/
  copies : List (Nat × Copies DomRec) := []
  lcCopies : Copies (Nat × Nat × Nat) := { other := (2, 0, 0) }
  /-- ORDER_DIGEST and beat of the last order applied, by domain (R355) -/
  lastOrder : List (Nat × (Bytes × Nat)) := []
  /-- the owner attestation key and SHA3-256 of its public key (R349, R355) -/
  attestKey : Nat := 0
  attestHash : Bytes := zeros 32
  /-- ENVELOPE_CAUSE by domain (R326) -/
  envCause : List (Nat × Nat) := []
  /-- the identity key's seeds, sealed in MRAM under the identity seal key; none once SCRAPPED has erased them (R343, R348) -/
  idSealed : Bytes := (List.range 80).map Config.idSealed
  /-- the order whose completion is followed by the steps of R347 -/
  lcOrder : Option Nat := none
  /-- a new root seed is called for at the next entropy start-up (R346, R362, R380) -/
  seedDue : Bool := false
  /-- new LOG_KEY and PATTERN_KEY are called for there (R381) -/
  keysDue : Bool := false
  /-- step 5 of the start zeroes the journal (R347, R441) -/
  zeroDue : Bool := false
  /-- the contents of the battery-backed RAM were lost, found at step 1 of the start (R381) -/
  ramLost : Bool := false
  deriving DecidableEq, Repr

/-- The identity key exists (R348). -/
def SecState.identity (s : SecState) : Bool := !s.idSealed.isEmpty

/-! ### PCI Express, SPDM, IDE and the management port (18) -/

/-- A secure session (R485): established after FINISH, with the beat of its requester's last heartbeat. -/
structure SpdmSession where
  formed : Bool := false
  /-- the secret of its key exchange -/
  secret : Bytes := []
  lastBeat : Nat := 0
  deriving DecidableEq, Repr

/-- One transport of the SPDM responder: 0 nothing agreed, 1 version, 2 capabilities, 3 algorithms. -/
structure Spdm where
  stage : Nat := 0
  version : Nat := 0
  sessions : List (Nat × SpdmSession) := []
  deriving DecidableEq, Repr

/-- An IDE stream (R487): 1 insecure, 2 secure, and the functions that it covers. -/
structure IdeStream where
  state : Nat
  first : Nat := 0
  last : Nat := 255
  deriving DecidableEq, Repr

/-- The identification registers of a function's configuration space (R475). -/
structure FunctionId where
  vendor : Nat := 0x1F4C
  device : Nat
  classCode : Nat := 0x108000
  subVendor : Nat := 0x1F4C
  subsystem : Nat := if Config.industrial then 1 else 2
  revision : Nat := Config.dieRevision
  deriving DecidableEq, Repr

/-- The capabilities that the configuration space shows (R476 to R480). -/
structure PortCaps where
  totalVfs : Nat := 255
  initialVfs : Nat := 255
  firstVfOffset : Nat := 1
  vfStride : Nat := 1
  /-- bytes of the only page size supported (R477) -/
  pageSize : Nat := 4096
  ari : Bool := true
  msixTableSize : Nat := 7
  /-- bytes of the largest payload, and of the largest read request (R62, R478) -/
  maxPayload : Nat := 512
  maxRead : Nat := 4096
  readsMax : Nat := 512
  /-- completion timeout ranges A to D (R479) -/
  timeoutRanges : Nat := 0xF
  timeoutDisable : Bool := false
  noSoftReset : Bool := true
  pmeD3hot : Bool := true
  deriving DecidableEq, Repr

structure PortState where
  /-- configuration space of the physical function and of every virtual one (R475) -/
  pfId : FunctionId := { device := 0x0900 }
  vfId : FunctionId := { device := 0x0901 }
  caps : PortCaps := { }
  numVfs : Nat := 0
  vfEnable : Bool := false
  wakeOut : Bool := false
  /-- errors that the AER registers hold, by kind: 0 poisoned or ECRC-failed writes, 1 uncorrectable, 2 correctable (R482) -/
  aer : List (Nat × Nat) := []
  ptmEnable : Bool := false
  ptmAsked : Option Nat := none
  ptmLastAsk : Nat := 0
  ptmLast : Bytes := zeros 16
  ptmPrev : Bytes := zeros 16
  ptmUpdates : Nat := 0
  ptmFails : Nat := 0
  doe : Bytes := []
  spdm : List (Nat × Spdm) := []
  spdmVersion : Nat := 0
  spdmErrors : Nat := 0
  /-- IDE streams: 0 the link stream, 1 to 8 selective ones (R487, R510) -/
  ide : List (Nat × IdeStream) := []
  ideFails : Nat := 0
  i3cAddr : Nat := 0
  mwl : Nat := 68
  mrl : Nat := 68
  /-- target events enabled by ENEC and DISEC: bit 0 in-band interrupts, bit 3 hot join (R489; log 12) -/
  i3cEvents : Nat := 1
  eid : Nat := 0
  mctpErrors : Nat := 0
  /-- message under reassembly: source, message tag, next packet number and the bytes so far (R490) -/
  mctp : Option (Nat × Nat × Nat × Bytes) := none
  /-- packets ready for the bus owner (R490) -/
  mctpOut : List Bytes := []
  /-- dictionary requests that wait on I3C: source, message tag, and the message (R462, R491) -/
  asked : List (Nat × Nat × Bytes) := []
  /-- MCTP control messages and SPDM messages that wait: source, message tag, and the message with its type (R490) -/
  control : List (Nat × Nat × Bytes) := []
  spdmIn : List (Nat × Nat × Bytes) := []
  deriving DecidableEq, Repr

/-! ### The Herd (18) -/

/-- A peer of the Herd (R499, R500, R509). -/
structure Peer where
  /-- 0 none; 1 handshake; 2 formed; 3 retry wait -/
  state : Nat := 0
  /-- a session is carried by keys in use (true also while a renewal runs) -/
  up : Bool := false
  keyTx : Bytes := []
  keyRx : Bytes := []
  saltTx : Bytes := []
  saltRx : Bytes := []
  ctrTx : Nat := 0
  ctrRx : Nat := 0
  /-- keys of the handshake in progress, taken into use at FINISH (R500): tx, rx, salt tx, salt rx -/
  newKeys : Option (Bytes × Bytes × Bytes × Bytes) := none
  /-- draw of the ephemeral values, the payloads exchanged, and the beat of the last step sent (R499) -/
  draw : Bytes := []
  hello : Bytes := []
  th1 : Bytes := []
  hsBeat : Option Nat := none
  failRun : Nat := 0
  formedBeat : Nat := 0
  retryAt : Option Nat := none
  retryWait : Nat := 0
  /-- the link map of its last ANNOUNCE, both ports up before the first -/
  linkMap : Nat := 3
  msgId : Nat := 0
  framesTx : Nat := 0
  framesRx : Nat := 0
  faults : Nat := 0
  authFails : Nat := 0
  applied : Nat := 0
  refused : Nat := 0
  lastRx : Nat := 0
  /-- fragments of a message under reassembly: MSG_ID, next fragment, payload so far (R496) -/
  frags : Option (Nat × Nat × Bytes) := none
  /-- page digests of the peer still to compare, by page and domain (R504) -/
  resync : List (Nat × Bytes) := []
  resyncAsked : Bool := false
  deriving DecidableEq, Repr

/-- A Herd port (R493, R494): `neighbour` 0xFF until a NEIGHBOUR frame is taken, `usable` where it is the member that the
table puts there. -/
structure HerdPort where
  up : Bool := false
  trainings : Nat := 0
  neighbour : Nat := 0xFF
  usable : Bool := false
  /-- this training has raised HERD_AUTH_FAIL (R494) -/
  barred : Bool := false
  deriving DecidableEq, Repr

structure HerdState where
  epoch : Nat := 0
  members : List Bytes := []
  digest : Bytes := zeros 32
  ports : List (Nat × HerdPort) := []
  peers : List (Nat × Peer) := []
  align : Int := 0
  /-- BEAT_SYNC outstanding: W1 (R507) -/
  syncW1 : Option Nat := none
  /-- relayed requests that wait for their answers, by path (0 mailbox, 1 I3C): target, request, and beat (R460, R506) -/
  relays : List (Nat × (Nat × Bytes × Nat)) := []
  /-- requests of peers that wait to be served: position and request -/
  asked : List (Nat × Bytes) := []
  deriving DecidableEq, Repr

/-! ### Dictionary service, monitors, life records and the calendar (17) -/

/-- A dictionary message (R457). -/
structure Request where
  ver : Nat := 1
  op : Nat
  seq : Nat := 0
  index : Nat
  sub : Nat
  target : Nat := 0xFF
  offset : Nat := 0
  len : Nat := 0
  rsvd : Nat := 0
  data : Bytes := []
  deriving DecidableEq, Repr

/-- A mailbox (R461). -/
structure Mailbox where
  reqData : Bytes := zeros 1024
  rspData : Bytes := zeros 1024
  reqHdr : Bytes := zeros 16
  rspHdr : Bytes := zeros 16
  go : Bool := false
  rspValid : Bool := false
  captured : Bytes := []
  deriving DecidableEq, Repr

/-- A monitor record (R466) as it stood at the end of the beat before `beat`; the bins are listed by number, absent ones 0. -/
structure Monitor where
  samples : Nat := 0
  min : Int := 0
  max : Int := 0
  clearBeat : Nat := 0
  bins : List (Nat × Nat) := []
  /-- the beat of its last sample or clear, and the samples of that beat since the clear at its start: value and u (R467) -/
  beat : Nat := 0
  today : List (Int × Nat) := []
  deriving DecidableEq, Repr

/-- What MRAM keeps for the whole service life (R468). -/
structure LifeRecord where
  seconds : Nat := 0
  cycles : Nat := 0
  jobs : List (Nat × Nat) := []
  events : List (Nat × Nat) := []
  thermal : List (Nat × Nat) := []
  journal : List (Nat × Nat) := []
  domainWrites : List (Nat × Nat) := []
  lcWrites : Nat := 0
  lifeWrites : Nat := 0
  deriving DecidableEq, Repr

/-- A write of one entry: index, subindex, value. -/
structure EntryWrite where
  idx : Nat
  sub : Nat
  value : Bytes
  deriving DecidableEq, Repr

structure DictState where
  boxes : List (Nat × Mailbox) := []
  /-- beat and rank of the path served last (R462) -/
  served : Nat × Nat := (0, 0)
  locked : List Nat := []
  requests : Nat := 0
  errors : Nat := 0
  lastError : Bytes := zeros 8
  monitors : List (Nat × Monitor) := []
  /-- the counts as they stand now, and the copies in MRAM with their sequence numbers and validity -/
  life : LifeRecord := {}
  /-- unit-beats busy of each engine class in this wheel revolution (R466) -/
  busyBeats : List (Nat × Nat) := []
  copyA : Nat × Bool × LifeRecord := (0, true, {})
  copyB : Nat × Bool × LifeRecord := (0, true, {})
  calSeconds : Nat := 0
  calFrac : Nat := 0
  /-- time since the second began, in 1/32,768 s (R398) -/
  calTicks : Nat := 0
  calValid : Bool := false
  calTrim : Int := 0
  calAcc : Int := 0
  calSetBeat : Nat := 0
  calSets : Nat := 0
  bootStaged : Bytes := []
  bootStatus : Nat := 0
  bootRecord : Nat := 0
  bootId : Nat := 0
  bootHeld : Bytes := zeros 48
  /-- writes that messages have made in this beat, with their domains: they take effect at its end (R454, R462) -/
  late : List (Nat × EntryWrite) := []
  deriving DecidableEq, Repr


/-! ### The key vault (11) -/

/-- Expanded material of a key in the expansion cache (R295): `kind` 0 expanded material, 1 traversal state. -/
structure Expansion where
  index : Nat
  domain : Nat
  units : Nat
  pinned : Bool
  /-- the slot of the job that it is kept for until its staging (R18) -/
  waiting : Option Nat := none
  /-- the functions whose states are held for a class-0xD key, most recently used first (R255) -/
  funcs : List Nat := []
  /-- the material itself, part by part (R116, R143, R170, R206, R229) -/
  parts : List Bytes := []
  deriving DecidableEq, Repr

/-- Index or counter values of a stateful or DEV_IV key (R180, R187 to R189, R263). -/
structure CounterState where
  next : Nat
  /-- the committed ceiling -/
  ceilC : Nat
  /-- the ceiling that the open or pending round holds -/
  ceilRound : Nat
  /-- traversal state is built, or the counter record is in place -/
  ready : Bool := true
  /-- a reservation waits for room in the copy area (R309) -/
  waits : Bool := false
  /-- of a class-0x5 key, the randomiser C in the cached signature of each level above the bottom: level, and the leaf that signed
  with it (R180, R182) -/
  upper : List (Nat × (Nat × Bytes)) := []
  deriving DecidableEq, Repr

/-- A slot of the root journal (R307). -/
structure JournalSlot where
  magic : Nat := 0x314A5651
  committed : Bool
  wseq : Nat
  rootSeq : Nat
  nextSeq : Nat
  mac : Bytes
  crc : Nat
  deriving DecidableEq, Repr

/-- A slot write that has started and whose read-back is to come (R308). -/
structure SlotWrite where
  region : Nat
  slot : Nat
  content : JournalSlot
  fails : Nat := 0
  /-- the job that writes it, none for an acceptance or a rotation -/
  job : Option Nat := none
  /-- false where the second attempt waits because PWR_FAIL_N is asserted (R317) -/
  started : Bool := true
  deriving DecidableEq, Repr

structure VaultState where
  /-- the line key of the vault DRAM controller (R292) -/
  lineKey : Bytes := List.replicate 32 0#8
  keys : List (Nat × Key) := []
  /-- GEN and DOMAIN of a FREE entry that has been used (R279, R281) -/
  freed : List (Nat × (Nat × Nat)) := []
  /-- DOMAIN of the pages that a domain has owned: its last owner, which the FREE entries of the page keep (R281) -/
  pageDomain : List (Nat × Nat) := []
  /-- handle-cache lines, group and index, most recently used first (R294) -/
  lines : List (Nat × Nat) := []
  hcHits : Nat := 0
  hcMisses : Nat := 0
  /-- expanded material, most recently used first (R295) -/
  expansions : List Expansion := []
  expHits : Nat := 0
  expMisses : Nat := 0
  counters : List (Nat × CounterState) := []
  dirty : List Nat := []
  /-- the frozen pages of the open or pending round, and the first pages already exported (R309, R310) -/
  frozen : List Nat := []
  roundOpen : Bool := false
  exported : Nat := 0
  rootSeq : Nat := 0
  rootMac : Bytes := zeros 24
  pending : Option (Nat × Bytes) := none
  nextSeq : Nat := 1
  /-- frozen pages that have been copied, with the group whose share holds them and the copy (R309) -/
  copies : List (Nat × (Nat × Bytes)) := []
  /-- VERSION and MAC of the data pages in the committed root and in the open or pending round (R305) -/
  tree : List (Nat × (Nat × Bytes)) := []
  roundTree : List (Nat × (Nat × Bytes)) := []
  journal : List (Nat × JournalSlot) := []
  region : Nat := 0
  slot : Nat := 0
  wseq : Nat := 0
  writing : Option SlotWrite := none
  rotations : Nat := 0
  commits : Nat := 0
  torn : Nat := 0
  lastCommit : Nat := 0
  lastPending : Option Nat := none
  commitReq : Bool := false
  reservedInRound : Bool := false
  /-- a vault is loaded; VAULT_STATE is computed (R321) -/
  loaded : Bool := false
  loadStatus : Nat := 0
  loadCause : Nat := 0
  loadPage : Nat := 0
  loadSeq : Nat := 0
  trainedTemp : Int := 250
  ceCount : Nat := 0
  ueCount : Nat := 0
  tagFails : Nat := 0
  retrains : Nat := 0
  scrubPasses : Nat := 0
  retrainFrom : Option Nat := none
  /-- the beat in which the window of that retraining opened (R293) -/
  retrainOpen : Option Nat := none
  purging : List Nat := []
  /-- first entries of the keys that the sweep of R335 still frees -/
  sweepKeys : List Nat := []
  /-- the beat at which the patrol scrub pass began (R293) -/
  scrubSince : Nat := 0
  deriving DecidableEq, Repr

/-! ### Entropy (13) -/

/-- A noise source (R356 to R359, R376). -/
structure Source where
  state : Nat := 0
  rctFails : Nat := 0
  aptFails : Nat := 0
  requals : Nat := 0
  lastFail : Nat := 0
  failedInRow : Nat := 0
  nextAttempt : Option Nat := none
  /-- the last raw bit and the length of the run that it ends, for the repetition count test (R357) -/
  lastBit : Bool := false
  run : Nat := 0
  deriving DecidableEq, Repr

/-- A DRBG instance (R364, R365). -/
structure Drbg where
  up : Bool := false
  requests : Nat := 0
  /-- Key and V of the CTR_DRBG, 48 bytes; a new instantiation waits for the root DRBG -/
  state : Bytes := []
  anew : Bool := false
  deriving DecidableEq, Repr

/-- A mask unit (R369, R370). -/
structure MaskUnit where
  seeded : Bool := false
  last : Nat := 0
  /-- the sponge as the absorption at beat `last` left it, 200 bytes -/
  sponge : Bytes := []
  heldFrom : Option Nat := none
  deriving DecidableEq, Repr

structure EntropyState where
  sources : List (Nat × Source) := []
  /-- debiased bits of released windows, packed earliest first; the conditioned blocks that wait, and the block before the next one
  (R361) -/
  bits : Bytes := []
  fifo : List Bytes := []
  lastBlock : Option Bytes := none
  /-- the conditioned samples of step 3 of the start-up (R371) -/
  samples : Bytes := []
  state : Nat := 0
  /-- the step of R371 under way, 0 outside the sequence; the beat at which the sequence began and that at which the step
  began; failures of step 3; ENTROPY_STARTUP raised -/
  step : Nat := 0
  startBeat : Nat := 0
  stepBeat : Nat := 0
  stepFails : Nat := 0
  limitOver : Bool := false
  /-- the sequence repeats after a study: step 4 is left out (R375) -/
  afterStudy : Bool := false
  /-- start of conditioning, blocks issued since, and the beat of the last (R361) -/
  condStart : Nat := 0
  condCount : Nat := 0
  condLast : Nat := 0
  /-- Key and V of the root DRBG, 48 bytes (R363) -/
  root : Bytes := []
  /-- the root DRBG reseeds from the first block behind this many, which were issued before the minimum was restored (R360) -/
  rootDue : Option Nat := none
  rootUp : Bool := false
  rootLast : Nat := 0
  rootReseeds : Nat := 0
  rootStopped : Bool := false
  /-- domain instances 0 to 255, internal instances 256 to 263 -/
  instances : List (Nat × Drbg) := []
  /-- internal instances whose comparison failed at class S2 or graver, with the instance that stands in (R364, R377) -/
  standIn : List (Nat × Nat) := []
  masks : List (Nat × MaskUnit) := []
  maskReady : Bool := false
  maskBytes : Nat := 0
  prRequests : Nat := 0
  starved : Nat := 0
  notReady : Nat := 0
  studyState : Nat := 0
  studyMask : Nat := 0
  studyKind : Nat := 0
  studyBits : List (Nat × Bytes) := []
  studyPos : Nat := 0
  studySamples : Nat := 0
  deriving DecidableEq, Repr

/-! ### The whole machine -/

structure State where
  beat : Nat := 0
  /-- the model's own counter of free values drawn (log 3, log 4) -/
  fresh : Nat := 0
  /-- RW, RWC and RWL entries that differ from their defaults, by 256 × index + subindex -/
  settings : List (Nat × Int) := []
  jobs : JobState := {}
  rings : RingState := {}
  wheel : WheelState := {}
  fault : FaultState := {}
  selfTest : SelfTestState := {}
  patch : PatchState := {}
  maint : MaintState := {}
  mode : ModeState := {}
  ao : AoState := {}
  domains : List (Nat × DomRec) := []
  dict : DictState := {}
  vault : VaultState := {}
  streams : List (Nat × Stream) := []
  entropy : EntropyState := {}
  /-- measurement slots MEAS_0 to MEAS_7, absent while all zero (R344) -/
  measure : List (Nat × Bytes) := []
  /-- event counters of the dictionary, by 256 × index + subindex, absent when 0 -/
  counts : List (Nat × Nat) := []
  lcState : Nat := 2
  lcSeq : Nat := 0
  seedGen : Nat := 0
  link : LinkState := {}
  port : PortState := {}
  herd : HerdState := {}
  sec : SecState := {}
  pending : List Instr := []
  deriving DecidableEq, Repr

/-- The machine right after reset. -/
def State.reset : State := {}

end Sys2Proof.Machine
end

