-- ==== Sys2Proof/Machine/Classes.lean ====
section
/-! DEFINITION. The key classes (R278): parameter sets, lengths, entries, expanded material, the costs of stateful trees,
and the usage bits each class keeps (chapters 05 to 11). -/

namespace Sys2Proof.Machine

open Sys2Proof

/-- The `n`-th value of a list, by a PSET counted from 1. -/
def nth (l : List Nat) (pset : Nat) : Nat := if pset = 0 then 0 else l.getD (pset - 1) 0

/-! ### Attribute bits (R282) -/

abbrev aSign : Nat := 0
abbrev aVerify : Nat := 1
abbrev aEncaps : Nat := 2
abbrev aDecaps : Nat := 3
abbrev aEncrypt : Nat := 4
abbrev aDecrypt : Nat := 5
abbrev aWrap : Nat := 6
abbrev aUnwrap : Nat := 7
abbrev aDerive : Nat := 8
abbrev aMacGen : Nat := 9
abbrev aMacVerify : Nat := 10
abbrev aAgree : Nat := 11
abbrev aExport : Nat := 12
abbrev aGenInside : Nat := 16
abbrev aNeverExport : Nat := 17
abbrev aDevIv : Nat := 18
abbrev aStreamOk : Nat := 19
abbrev aEcbOk : Nat := 20
abbrev aPin : Nat := 21
abbrev aHedgedOnly : Nat := 22
abbrev aDetOk : Nat := 23
abbrev aHerd : Nat := 24
abbrev aPlane : Nat := 25

/-- An attribute bit of a key. -/
def Key.attr (k : Key) (b : Nat) : Bool := bit k.attrs b

/-- The mask of a list of bits. -/
def maskOf (l : List Nat) : Nat := l.foldl (fun m b => m ||| 2 ^ b) 0

/-- The usage bits that a class keeps (R537). -/
def usageKept (cls pset : Nat) : Nat :=
  match cls with
  | 1 => maskOf [aEncaps, aDecaps, aWrap]
  | 2 | 3 | 4 | 5 | 6 => maskOf [aSign, aVerify]
  | 7 | 8 => maskOf [aEncaps, aDecaps]
  | 9 => maskOf [aSign, aVerify, aEncrypt, aDecrypt]
  | 10 => maskOf [aSign, aVerify, aAgree]
  | 11 => if pset ≤ 2 then maskOf [aSign, aVerify] else maskOf [aAgree]
  | 12 => if pset ≤ 3 then maskOf [aEncrypt, aDecrypt, aWrap, aUnwrap, aMacGen, aMacVerify] else maskOf [aEncrypt, aDecrypt]
  | 13 => maskOf [aMacGen, aMacVerify, aDerive]
  | 14 => maskOf [aEncrypt, aDecrypt]
  | 15 => if pset ≤ 3 then maskOf [aEncaps, aDecaps] else maskOf [aSign, aVerify]
  | _ => 0

/-- The usage bits among which a public-only entry keeps its row's (R537). -/
def publicUsage : Nat := maskOf [aVerify, aEncaps, aEncrypt, aAgree, aWrap]

/-- The usage bits of ATTRIBUTES. -/
def usageBits : Nat := maskOf [0, 1, 2, 3, 4, 5, 6, 7, 8, 9, 10, 11]

/-- The reserved bits of ATTRIBUTES. -/
def attrReserved (a : Nat) : Bool := bits a 15 13 != 0 || bits a 31 26 != 0 || bits a 63 51 != 0

/-! ### Parameter sets -/

/-- The PSET values of a class (R114, R143, R152, R168, R177, R201, R202, R227, R253). -/
def classPset (cls pset : Nat) : Bool :=
  match cls with
  | 1 | 2 | 7 | 10 => decide (1 ≤ pset) && decide (pset ≤ 3)
  | 3 | 14 => decide (1 ≤ pset) && decide (pset ≤ 2)
  | 4 => decide (1 ≤ pset) && decide (pset ≤ 12)
  | 5 | 11 => decide (1 ≤ pset) && decide (pset ≤ 4)
  | 6 => (decide (1 ≤ pset) && decide (pset ≤ 3)) || (decide (0x0D ≤ pset) && decide (pset ≤ 0x15))
      || (decide (0x81 ≤ pset) && decide (pset ≤ 0x88)) || (decide (0xA1 ≤ pset) && decide (pset ≤ 0xB8))
  | 8 => decide (1 ≤ pset) && decide (pset ≤ 10)
  | 9 => (decide (1 ≤ pset) && decide (pset ≤ 3)) || (decide (0x11 ≤ pset) && decide (pset ≤ 0x13))
  | 12 => (decide (1 ≤ pset) && decide (pset ≤ 3)) || pset == 0x11 || pset == 0x13
  | 13 => decide (0x10 ≤ pset) && decide (pset ≤ 0x40)
  | 15 => (decide (1 ≤ pset) && decide (pset ≤ 3)) || (decide (0x11 ≤ pset) && decide (pset ≤ 0x15))
  | _ => false

/-- `n` of an SLH-DSA set (R168). -/
def slhN (pset : Nat) : Nat := if pset ≤ 4 then 16 else if pset ≤ 8 then 24 else 32

/-- `n` of a class-0x5 family (R177). -/
def lmsN (pset : Nat) : Nat := if pset = 2 ∨ pset = 4 then 24 else 32

/-- `n` of an XMSS or XMSS^MT set; the sets behind the OIDs are those of RFC 8391 and SP 800-208 (log 5). -/
def xmssN (pset : Nat) : Nat :=
  if (0x0D ≤ pset ∧ pset ≤ 0x0F) ∨ (0x13 ≤ pset ∧ pset ≤ 0x15) ∨ (0xA1 ≤ pset ∧ pset ≤ 0xA8) ∨ (0xB1 ≤ pset ∧ pset ≤ 0xB8)
  then 24 else 32

/-- An XMSS or XMSS^MT set hashes with SHAKE256 (log 5). -/
def xmssShake (pset : Nat) : Bool := (decide (0x10 ≤ pset) && decide (pset ≤ 0x15)) || (decide (0xA9 ≤ pset) && decide (pset ≤ 0xB8))

/-- Layers and the height of each layer of an XMSS or XMSS^MT set (log 5). -/
def xmssLayers (pset : Nat) : Nat × Nat :=
  if pset < 0x80 then (1, [10, 16, 20].getD ((pset - 1) % 3) 0)
  else [(2, 10), (4, 5), (2, 20), (4, 10), (8, 5), (3, 20), (6, 10), (12, 5)].getD ((pset - 1) % 8) (1, 0)

/-- The modulus length of an RSA set in bytes (R227). -/
def rsaK (pset : Nat) : Nat := nth [256, 384, 512] (pset % 16)

/-- Lattice half and classical half of a composite pair: class and parameter set of each (R152). -/
def pairHalves (pset : Nat) : (Nat × Nat) × (Nat × Nat) :=
  match pset with
  | 0x01 => ((1, 2), (11, 3))
  | 0x02 => ((1, 3), (10, 2))
  | 0x03 => ((1, 3), (11, 4))
  | 0x11 => ((2, 1), (11, 1))
  | 0x12 => ((2, 2), (10, 1))
  | 0x13 => ((2, 2), (11, 1))
  | 0x14 => ((2, 3), (10, 2))
  | _ => ((2, 3), (11, 2))

/-! ### Lengths -/

/-- Public-key lengths of the single schemes (R114, R143, R168, R182, R201, R202, R227). -/
def publicLen1 (cls pset : Nat) : Nat :=
  match cls with
  | 1 => nth [800, 1184, 1568] pset
  | 2 => nth [1312, 1952, 2592] pset
  | 3 => nth [897, 1793] pset
  | 4 => 2 * slhN pset
  | 5 => 28 + lmsN pset
  | 6 => 4 + 2 * xmssN pset
  | 7 => nth [2249, 4522, 7245] pset
  | 8 => nth [261120, 524160, 1044992, 1047319, 1357824] ((pset + 1) / 2)
  | 9 => rsaK pset + (if pset > 0x10 then 32 else 0)
  | 10 => nth [65, 97, 133] pset
  | 11 => nth [32, 57, 32, 56] pset
  | _ => 0

/-- Public-key lengths; a composite public key is pk_pq ‖ pk_cl (R153). -/
def publicLen (cls pset : Nat) : Nat :=
  if cls = 15 then
    publicLen1 (pairHalves pset).1.1 (pairHalves pset).1.2 + publicLen1 (pairHalves pset).2.1 (pairHalves pset).2.2
  else publicLen1 cls pset

/-- Lengths of stored secrets that are fixed by class and set (R114, R143, R153, R169, R203, R204, R227, R253). -/
def secretLen (cls pset : Nat) : Nat :=
  match cls with
  | 1 => 64
  | 2 | 3 | 7 | 8 | 15 => 32
  | 4 => 3 * slhN pset
  | 5 | 6 => 32
  | 9 => 2 * (rsaK pset / 2) + 1 + (if pset > 0x10 then 32 else 0)
  | 10 => nth [32, 48, 66] pset
  | 11 => nth [32, 57, 32, 56] pset
  | 12 => if pset = 0x11 then 32 else if pset = 0x13 then 64 else nth [16, 24, 32] pset
  | 13 => pset
  | 14 => nth [32, 16] pset
  | _ => 0

/-- The entries of a key that holds a secret (R288). -/
def keySpan (cls pset : Nat) : Nat :=
  match cls with
  | 4 => if pset ≥ 9 then 2 else 1
  | 9 => nth [4, 5, 7] (pset % 16)
  | _ => 1

/-- The entries of a public-only key (R288). -/
def publicSpan (len : Nat) : Nat := ceilDiv len 96

/-- A class that holds no public key (R281). -/
def symmetricClass (cls : Nat) : Bool := cls == 12 || cls == 13 || cls == 14

/-- The stored secret of a key: the head of its sealed bodies. -/
def Key.secret (k : Key) : Bytes := k.body.take (secretLen k.cls k.pset)

/-! ### Stateful trees (R177 to R184) -/

/-- Family of the SHA-256 or SHAKE256 costs of R183: row of the table. -/
def hbsFamily (shake : Bool) (n : Nat) : Nat := (if shake then 2 else 0) + (if n = 24 then 1 else 0)

/-- Height of an LMS typecode (R177). -/
def lmsHeight (t : Nat) : Nat := [5, 10, 15, 20, 25].getD ((t - 5) % 5) 0

/-- Column of an LM-OTS typecode: 0 to 3 for W1, W2, W4 and W8. -/
def otsColumn (t : Nat) : Nat := (t - 1) % 4

/-- The typecodes lie in the family of a PSET (R177). -/
def lmsTypesOk (pset : Nat) (l : Nat × Nat) : Bool :=
  decide (5 * pset ≤ l.1) && decide (l.1 ≤ 5 * pset + 4) && decide (4 * pset - 3 ≤ l.2) && decide (l.2 ≤ 4 * pset)

/-- Beats of one leaf (R183). -/
def leafCost (family column : Nat) : Nat :=
  ([[11, 10, 18, 136, 103], [8, 7, 14, 105, 78], [4, 4, 7, 52, 20], [3, 3, 5, 40, 15]].getD family []).getD column 0

/-- The levels of a stateful key, top first: height and leaf cost. -/
def treeLevels (cls pset : Nat) (levels : List (Nat × Nat)) : List (Nat × Nat) :=
  if cls = 5 then levels.map (fun l => (lmsHeight l.1, leafCost (hbsFamily (pset ≥ 3) (lmsN pset)) (otsColumn l.2)))
  else List.replicate (xmssLayers pset).1 ((xmssLayers pset).2, leafCost (hbsFamily (xmssShake pset) (xmssN pset)) 4)

/-- T_l of R183. -/
def traversal (h : Nat) : Nat := 2 + ceilDiv (h - 4) 2

/-- The sum terms of the signing schedule for the levels below the top (R183). -/
def hbsSignTerms : List (Nat × Nat) → Nat
  | [] => 0
  | [_] => 0
  | (h, c) :: (h', c') :: r => c' + ceilDiv (c * traversal h) (2 ^ h') + hbsSignTerms ((h', c') :: r)

/-- The signing schedule without E (R183). -/
def hbsSign (l : List (Nat × Nat)) : Nat :=
  (match l.getLast? with | some (h, c) => c * traversal h | none => 0) + hbsSignTerms l

/-- The verification schedule without E (R183). -/
def hbsVerify (l : List (Nat × Nat)) : Nat := (l.map (fun x => x.2 + 1)).foldl (· + ·) 0

/-- The work W of generation and of a rebuild (R183). -/
def hbsWork (l : List (Nat × Nat)) : Nat :=
  (l.map (fun x => 2 ^ x.1 * x.2)).foldl (· + ·) 0 + ((l.dropLast).map (·.2)).foldl (· + ·) 0

/-- The total height of a key (R177). -/
def totalHeight (l : List (Nat × Nat)) : Nat := (l.map (·.1)).foldl (· + ·) 0

/-- Length of an LM-OTS signature of RFC 8554 (log 5). -/
def otsSigLen (n column : Nat) : Nat :=
  4 + n * (1 + (if n = 24 then [200, 101, 51, 26] else [265, 133, 67, 34]).getD column 0)

/-- Length of one LMS signature of RFC 8554 (log 5). -/
def lmsSigLen (n : Nat) (l : Nat × Nat) : Nat := 8 + otsSigLen n (otsColumn l.2) + n * lmsHeight l.1

/-- Length of an HSS signature of RFC 8554 (log 5). -/
def hssSigLen (n : Nat) : List (Nat × Nat) → Nat
  | [] => 4
  | [l] => 4 + lmsSigLen n l
  | l :: r => lmsSigLen n l + 24 + n + hssSigLen n r

/-- WOTS+ chains of RFC 8391 for w = 16 (log 5). -/
def wotsLen (n : Nat) : Nat := if n = 24 then 51 else 67

/-- Length of an XMSS or XMSS^MT signature of RFC 8391 (log 5). -/
def xmssSigLen (pset : Nat) : Nat :=
  let n := xmssN pset
  let (d, h) := xmssLayers pset
  (if pset < 0x80 then 4 else ceilDiv (d * h) 8) + n + d * (wotsLen n + h) * n

/-- Signature length of a stateful key. -/
def Key.hbsSigLen (k : Key) : Nat := if k.cls = 5 then hssSigLen (lmsN k.pset) k.levels else xmssSigLen k.pset

/-- The tree levels of a key. -/
def Key.tree (k : Key) : List (Nat × Nat) := treeLevels k.cls k.pset k.levels

/-- The cached signatures of every level above the bottom (R180). -/
def cachedSigs (cls pset : Nat) (levels : List (Nat × Nat)) : Nat :=
  if cls = 5 then ((levels.dropLast).map (lmsSigLen (lmsN pset))).foldl (· + ·) 0
  else ((xmssLayers pset).1 - 1) * ((wotsLen (xmssN pset) + (xmssLayers pset).2) * xmssN pset)

/-- Bytes of the traversal state (R180). -/
def traversalBytes (cls pset : Nat) (levels : List (Nat × Nat)) : Nat :=
  let n := if cls = 5 then lmsN pset else xmssN pset
  let t := treeLevels cls pset levels
  let one := fun (l : List (Nat × Nat)) => (l.map (fun x => (4 * x.1 + 16) * n)).foldl (· + ·) 0
  one t + one (t.drop 1) + cachedSigs cls pset levels + 64

/-! ### Expanded material (R116, R143, R153, R170, R202, R206, R229, R255, R295) -/

/-- A stateful class. -/
def stateful (cls : Nat) : Bool := cls == 5 || cls == 6

/-- 4 KiB units of the expanded material of a class and set, 0 for a class without any; the size of HQC's, and the parts of
the small ones, are not stated (log 6). -/
def expUnits (cls pset : Nat) : Nat :=
  match cls with
  | 1 => ceilDiv (nth [3168, 5856, 9312] pset) 4096
  | 2 => ceilDiv (nth [22016, 36640, 60832] pset) 4096
  | 3 => ceilDiv (nth [58368, 124928] pset) 4096
  | 4 | 9 | 10 | 11 | 13 => 1
  | 7 => 1 + Config.hqcUnits pset
  | 8 => ceilDiv (nth [7540, 9984, 14468, 15028, 17664] ((pset + 1) / 2)) 4096 + ceilDiv (publicLen1 8 pset) 4096
  | 15 => (match (pairHalves pset).1 with
      | (1, p) => ceilDiv (nth [3168, 5856, 9312] p) 4096
      | (_, p) => ceilDiv (nth [22016, 36640, 60832] p) 4096)
  | _ => 0

/-- The units that a key commits when it is pinned or stateful (R296, R297). -/
def Key.units (k : Key) : Nat :=
  if k.state ≠ 1 then 0
  else if stateful k.cls then ceilDiv (traversalBytes k.cls k.pset k.levels) 4096
  else expUnits k.cls k.pset

/-- The class and units that run a class's key generation and its expansion (R87, R117, R145, R170, R206, R229, R255):
class, first and last unit. -/
def genClass (cls pset : Nat) : Nat × Nat × Nat :=
  match cls with
  | 1 | 2 | 15 => (cSwallowtail, 0, 15)
  | 3 => (cSkipper, 0, 3)
  | 4 => if pset % 2 = 0 then (cHawkmoth, 0, 5) else (cHawkmoth, 6, 11)
  | 5 => if pset ≥ 3 then (cHawkmoth, 0, 5) else (cHawkmoth, 6, 11)
  | 6 => if xmssShake pset then (cHawkmoth, 0, 5) else (cHawkmoth, 6, 11)
  | 7 | 8 => (cTussock, 0, 3)
  | 9 | 10 | 11 => (cIbex, 0, 7)
  | _ => (cKeyUnit, 0, 7)

/-- Lengths of the expansion runs; for the classes whose GENERATE has the same length, of both (R136, R151, R162, R176,
R218, R243, R255). -/
def expSched (cls pset : Nat) : Nat :=
  match cls with
  | 1 => nth [14, 20, 28] pset
  | 2 => nth [32, 44, 60] pset
  | 3 => nth [31250, 93750] pset
  | 4 => nth [4320, 1620, 75, 28, 6490, 2360, 110, 40, 4340, 1550, 294, 105] pset
  | 7 => nth [14, 30, 48] pset
  | 8 => if pset % 2 = 1 then nth [11290, 33300, 75600, 69100, 90320] ((pset + 1) / 2)
         else nth [12420, 36630, 83160, 76010, 99350] (pset / 2)
  | 9 => nth [300, 600, 1000] (pset % 16)
  | 10 => nth [90, 200, 610] pset
  | 11 => nth [70, 210, 70, 210] pset
  | 13 => 2
  | 15 => match pset with
    | 0x01 => 72 | 0x02 => 202 | 0x03 => 212 | 0x11 => 72 | 0x12 => 92 | 0x13 => 72 | 0x14 => 202 | _ => 212
  | _ => 2

/-- GENERATE schedules of one chunk (R136, R151, R162, R176, R218, R243, R253). -/
def genSched (cls pset : Nat) : Nat := if cls = 7 then nth [82, 180, 288] pset else if cls = 13 then 2 else expSched cls pset

/-- Mask bytes of key generation (R111, R142, R224). -/
def genMasks (cls pset : Nat) : Nat :=
  match cls with
  | 1 => nth [3072, 4608, 6144] pset
  | 2 => nth [6144, 8192, 11264] pset
  | 3 => nth [65536, 131072] pset
  | 9 => nth [256, 384, 512] (pset % 16)
  | 10 => nth [40, 56, 74] pset
  | 11 => nth [40, 65, 32, 56] pset
  | _ => 0

/-- The masks of GENERATE and of expansion of any class; a composite draws those of both halves (R111, R224). -/
def genMasksOf (cls pset : Nat) : Nat :=
  if cls = 15 then
    genMasks (pairHalves pset).1.1 (pairHalves pset).1.2 + genMasks (pairHalves pset).2.1 (pairHalves pset).2.2
  else genMasks cls pset

/-! ### Counters of stateful and DEV_IV keys -/

/-- Offset of CEIL in the sealed body (R179, R284). -/
def Key.ceilAt (k : Key) : Nat := if stateful k.cls then 32 else 64

/-- CEIL (R186, R263). -/
def Key.ceil (k : Key) : Nat := field k.body k.ceilAt 8

/-- RANGE_LO. -/
def Key.rangeLo (k : Key) : Nat := if stateful k.cls then field k.body 40 8 else 0

/-- RANGE_HI: 2^32 for DEV_IV keys (R263, R303). -/
def Key.rangeHi (k : Key) : Nat := if stateful k.cls then field k.body 48 8 else 2 ^ 32

/-- PART_EPOCH. -/
def Key.partEpoch (k : Key) : Nat := field k.body 56 4

/-- PART_DIGEST. -/
def Key.partDigest (k : Key) : Bytes := slice k.body 60 16

/-- BLOCK of a stateful key. -/
def Key.block (k : Key) : Nat := field k.body 76 4

/-- FIXED of a DEV_IV key. -/
def Key.fixed (k : Key) : Bytes := slice k.body 72 4

/-- Bytes of a body replaced from an offset. -/
def putAt (b : Bytes) (off : Nat) (v : Bytes) : Bytes := b.take off ++ v ++ b.drop (off + v.length)

/-- A key that assigns one-time indices or counter values. -/
def Key.counted (k : Key) : Bool := k.state == 1 && (stateful k.cls || k.attr aDevIv)

/-- A key's handle (R278). -/
def handleOf (domain index gen cls : Nat) : Nat := domain * 2 ^ 56 + index * 2 ^ 31 + gen * 2 ^ 15 + cls * 2 ^ 11

/-- The fields of a handle (R278): domain, index, generation, class, reserved. -/
def handleDomain (h : Nat) : Nat := bits h 63 56

/-- INDEX of a handle. -/
def handleIndex (h : Nat) : Nat := bits h 55 31

/-- GEN of a handle. -/
def handleGen (h : Nat) : Nat := bits h 30 15

/-- CLASS of a handle. -/
def handleClass (h : Nat) : Nat := bits h 14 11

end Sys2Proof.Machine
end

