-- ==== Sys2Proof/Machine/Curves.lean ====
section
/-! DEFINITION. The arithmetic of the curves that the Q9 names and of RSA: modular powers, the prime curves of FIPS 186-5,
edwards25519 and edwards448 of RFC 8032, and curve25519 and curve448 of RFC 7748. The spec names the curves and states what its
operations check on them; their equations and constants are those of the published standards (PRESUMED; log 56). -/

namespace Sys2Proof.Machine

open Sys2Proof

/-! ### Modular arithmetic -/

/-- `b` to the power of the low `w` bits of `e`, modulo `m`. -/
def powBits (m : Nat) : Nat → Nat → Nat → Nat
  | 0, _, _ => 1 % m
  | w + 1, b, e => powBits m w (b * b % m) (e / 2) * (if e % 2 = 1 then b else 1) % m

/-- `b` to the power `e` modulo `m`. -/
def powMod (b e m : Nat) : Nat := powBits m (Nat.log2 e + 1) (b % m) e

/-- The difference of two residues. -/
def subMod (p a b : Nat) : Nat := (a + (p - b % p)) % p

/-- The inverse modulo a prime. -/
def invMod (p a : Nat) : Nat := powMod a (p - 2) p

/-- The steps of the extended Euclidean algorithm on `r0` and `r1`, with the coefficients of `a`. -/
def euclid : Nat → Int → Int → Int → Int → Int
  | 0, _, _, t0, _ => t0
  | n + 1, r0, r1, t0, t1 => if r1 = 0 then t0 else euclid n r1 (r0 % r1) t1 (t0 - (r0 / r1) * t1)

/-- The inverse of `a` modulo any `m` that it is coprime to. -/
def invAny (m a : Nat) : Nat := ((euclid (2 * Nat.log2 m + 4) m (a % m) 0 1) % (m : Int)).toNat

/-- The product of a point by a scalar, by doubling and adding. -/
def scalarMul {α : Type} (add : α → α → α) (zero : α) : Nat → Nat → α → α
  | 0, _, _ => zero
  | w + 1, k, pt => add (if k % 2 = 1 then pt else zero) (scalarMul add zero w (k / 2) (add pt pt))

/-! ### The prime curves (R227, R237) -/

/-- A curve y² = x³ − 3x + b of FIPS 186-5. -/
structure Curve where
  p : Nat
  b : Nat
  n : Nat
  gx : Nat
  gy : Nat
  /-- bytes of a coordinate -/
  len : Nat

/-- P-256, P-384 and P-521. -/
def curveOf (pset : Nat) : Curve :=
  match pset with
  | 1 =>
    { p := 2 ^ 256 - 2 ^ 224 + 2 ^ 192 + 2 ^ 96 - 1, len := 32,
      b := 0x5ac635d8aa3a93e7b3ebbd55769886bc651d06b0cc53b0f63bce3c3e27d2604b,
      n := 0xffffffff00000000ffffffffffffffffbce6faada7179e84f3b9cac2fc632551,
      gx := 0x6b17d1f2e12c4247f8bce6e563a440f277037d812deb33a0f4a13945d898c296,
      gy := 0x4fe342e2fe1a7f9b8ee7eb4a7c0f9e162bce33576b315ececbb6406837bf51f5 }
  | 2 =>
    { p := 2 ^ 384 - 2 ^ 128 - 2 ^ 96 + 2 ^ 32 - 1, len := 48,
      b := 0xb3312fa7e23ee7e4988e056be3f82d19181d9c6efe8141120314088f5013875ac656398d8a2ed19d2a85c8edd3ec2aef,
      n := 0xffffffffffffffffffffffffffffffffffffffffffffffffc7634d81f4372ddf581a0db248b0a77aecec196accc52973,
      gx := 0xaa87ca22be8b05378eb1c71ef320ad746e1d3b628ba79b9859f741e082542a385502f25dbf55296c3a545e3872760ab7,
      gy := 0x3617de4a96262c6f5d9e98bf9292dc29f8f41dbd289a147ce9da3113b5f0b8c00a60b1ce1d7e819d7a431d7c90ea0e5f }
  | _ =>
    { p := 2 ^ 521 - 1, len := 66,
      b := 0x51953eb9618e1c9a1f929a21a0b68540eea2da725b99b315f3b8b489918ef109e156193951ec7e937b1652c0bd3bb1bf073573df883d2c34f1ef451fd46b503f00,
      n := 0x1fffffffffffffffffffffffffffffffffffffffffffffffffffffffffffffffffa51868783bf2f966b7fcc0148f709a5d03bb5c9b8899c47aebb6fb71e91386409,
      gx := 0xc6858e06b70404e9cd9e3ecb662395b4429c648139053fb521f828af606b4d3dbaa14b5e77efe75928fe1dc127a2ffa8de3348b3c1856a429bf97e7e31c2e5bd66,
      gy := 0x11839296a789a3bc0045c8a5fb42c7d1bd998f54449579b446817afbd17273e662c97ee72995ef42640c550b9013fad0761353c7086a272c24088be94769fd16650 }

/-- Addition of points, with none for the identity. -/
def Curve.add (c : Curve) (a b : Option (Nat × Nat)) : Option (Nat × Nat) :=
  match a, b with
  | none, q => q
  | q, none => q
  | some (x1, y1), some (x2, y2) =>
    if x1 = x2 ∧ (y1 + y2) % c.p = 0 then none
    else
      let l := if x1 = x2 then subMod c.p (3 * x1 * x1) 3 * invMod c.p (2 * y1) % c.p
               else subMod c.p y2 y1 * invMod c.p (subMod c.p x2 x1) % c.p
      let x := subMod c.p (l * l) (x1 + x2)
      some (x, subMod c.p (l * subMod c.p x1 x) y1)

/-- The product of a point by a scalar. -/
def Curve.mul (c : Curve) (k : Nat) (pt : Option (Nat × Nat)) : Option (Nat × Nat) := scalarMul c.add none (Nat.log2 k + 1) k pt

/-- The generator. -/
def Curve.base (c : Curve) : Option (Nat × Nat) := some (c.gx, c.gy)

/-- The uncompressed encoding 0x04 ‖ X ‖ Y (R227). -/
def Curve.encode (c : Curve) (pt : Option (Nat × Nat)) : Bytes :=
  match pt with
  | some (x, y) => 4#8 :: (beBytes c.len x ++ beBytes c.len y)
  | none => zeros (1 + 2 * c.len)

/-- The coordinates of an encoded point. -/
def Curve.coords (c : Curve) (b : Bytes) : Nat × Nat := (beNat (slice b 1 c.len), beNat (slice b (1 + c.len) c.len))

/-- A point as the host supplies it is valid: first byte 0x04, coordinates below p, on the curve (R242). -/
def pointOk (pset : Nat) (b : Bytes) : Bool :=
  let c := curveOf pset
  let xy := c.coords b
  byteAt b 0 == 4 && decide (xy.1 < c.p) && decide (xy.2 < c.p)
    && xy.2 * xy.2 % c.p == (xy.1 * xy.1 * xy.1 + c.b + 3 * (c.p - xy.1)) % c.p

/-- A scalar reduced from a longer string: (string, read big-endian, mod (n − 1)) + 1 (R153, R225). -/
def reducedScalar (pset : Nat) (draw : Bytes) : Nat := beNat draw % ((curveOf pset).n - 1) + 1

/-- A stored d that IMPORT_ENVELOPE accepts: neither 0, nor n or more (R242). -/
def scalarOk (pset : Nat) (d : Bytes) : Bool := beNat d != 0 && decide (beNat d < (curveOf pset).n)

/-- The x-coordinate of the product of a peer's point by a scalar (R237). -/
def ecAgree (pset : Nat) (d peer : Bytes) : Bytes :=
  let c := curveOf pset
  match c.mul (beNat d) (some (c.coords peer)) with
  | some (x, _) => beBytes c.len x
  | none => zeros c.len

/-- The public point of a stored d (R227). -/
def ecPublic (pset : Nat) (d : Bytes) : Bytes := (curveOf pset).encode ((curveOf pset).mul (beNat d) (curveOf pset).base)

/-- The leftmost bits of a digest, as many as the order has (R237, FIPS 186-5). -/
def digestInt (n : Nat) (h : Bytes) : Nat := beNat h / 2 ^ (8 * h.length - (Nat.log2 n + 1))

/-- An ECDSA signature r ‖ s over a digest with nonce k (R237). -/
def ecdsaSig (pset : Nat) (d h : Bytes) (k : Nat) : Bytes :=
  let c := curveOf pset
  let r := (((c.mul k c.base).map (·.1)).getD 0) % c.n
  let s := invMod c.n k * (digestInt c.n h + r * beNat d) % c.n
  beBytes c.len r ++ beBytes c.len s

/-- r and s of a signature are neither 0, nor n or more (R242). -/
def ecdsaRange (pset : Nat) (sig : Bytes) : Bool :=
  let c := curveOf pset
  scalarOk pset (sig.take c.len) && scalarOk pset (slice sig c.len c.len)

/-- The equation of ECDSA verification (R237). -/
def ecdsaVerifies (pset : Nat) (pk h sig : Bytes) : Bool :=
  let c := curveOf pset
  let r := beNat (sig.take c.len)
  let w := invMod c.n (beNat (slice sig c.len c.len))
  match c.add (c.mul (digestInt c.n h * w % c.n) c.base) (c.mul (r * w % c.n) (some (c.coords pk))) with
  | some (x, _) => x % c.n == r
  | none => false

/-! #### Deterministic nonces (R238, RFC 6979) -/

/-- HMAC with a hash of R125. -/
def hmacOf (alg : Nat) (key m : Bytes) : Bytes := primOut .hmac [[u8 alg], key, m] (nth [32, 48, 64, 28, 32, 28, 32, 48, 64] alg)

/-- Blocks of V, each the HMAC of the last, until `n` blocks are there: the string and the last V. -/
def nonceBlocks (alg : Nat) (key : Bytes) : Nat → Bytes → Bytes × Bytes
  | 0, v => ([], v)
  | n + 1, v =>
    let v' := hmacOf alg key v
    let r := nonceBlocks alg key n v'
    (v' ++ r.1, r.2)

/-- Candidates for k, the first of which that lies from 1 to n − 1 is taken; `fuel` bounds the search. -/
def nonceSearch (alg n : Nat) : Nat → Bytes → Bytes → Nat
  | 0, _, _ => 1
  | fuel + 1, key, v =>
    let bytes := (Nat.log2 n + 8) / 8
    let hLen := (hmacOf alg key v).length
    let t := nonceBlocks alg key ((bytes + hLen - 1) / hLen) v
    let k := digestInt n (t.1)
    if k ≠ 0 ∧ k < n then k
    else
      let key' := hmacOf alg key (t.2 ++ [0#8])
      nonceSearch alg n fuel key' (hmacOf alg key' t.2)

/-- k of RFC 6979 with the HMAC of a hash (R238). -/
def nonceOf (pset alg : Nat) (d h : Bytes) : Nat :=
  let c := curveOf pset
  let seed := beBytes c.len (beNat d) ++ beBytes c.len (digestInt c.n h % c.n)
  let hLen := (hmacOf alg [] []).length
  let v0 := List.replicate hLen 1#8
  let k1 := hmacOf alg (zeros hLen) (v0 ++ [0#8] ++ seed)
  let v1 := hmacOf alg k1 v0
  let k2 := hmacOf alg k1 (v1 ++ [1#8] ++ seed)
  nonceSearch alg c.n 64 k2 (hmacOf alg k2 v1)

/-! ### The Edwards curves (R227, R239, R240) -/

/-- A curve a·x² + y² = 1 + d·x²·y² of RFC 8032, with the order L of its generator. -/
structure EdCurve where
  p : Nat
  a : Nat
  d : Nat
  order : Nat
  bx : Nat
  by_ : Nat
  /-- bytes of an encoded point -/
  len : Nat

/-- edwards25519 and edwards448. -/
def edCurve (pset : Nat) : EdCurve :=
  match pset with
  | 1 =>
    { p := 2 ^ 255 - 19, a := 2 ^ 255 - 20, len := 32,
      d := 37095705934669439343138083508754565189542113879843219016388785533085940283555,
      order := 2 ^ 252 + 27742317777372353535851937790883648493,
      bx := 15112221349535400772501151409588531511454012693041857206046113283949847762202,
      by_ := 46316835694926478169428394003475163141307993866256225615783033603165251855960 }
  | _ =>
    { p := 2 ^ 448 - 2 ^ 224 - 1, a := 1, len := 57, d := 2 ^ 448 - 2 ^ 224 - 1 - 39081,
      order := 2 ^ 446 - 13818066809895115352007386748515426880336692474882178609894547503885,
      bx := 224580040295924300187604334099896036246789641632564134246125461686950415467406032909029192869357953282578032075146446173674602635247710,
      by_ := 298819210078481492676017930443930673437544040154080242095928241372331506189835876003536878655418784733982303233503462500531545062832660 }

/-- Addition of points. -/
def EdCurve.add (c : EdCurve) (a b : Nat × Nat) : Nat × Nat :=
  let t := c.d * (a.1 * b.1 % c.p) % c.p * (a.2 * b.2 % c.p) % c.p
  ((a.1 * b.2 + a.2 * b.1) * invMod c.p (1 + t) % c.p,
   subMod c.p (a.2 * b.2) (c.a * (a.1 * b.1 % c.p)) * invMod c.p (subMod c.p 1 t) % c.p)

/-- The product of a point by a scalar. -/
def EdCurve.mul (c : EdCurve) (k : Nat) (pt : Nat × Nat) : Nat × Nat := scalarMul c.add (0, 1) (Nat.log2 k + 1) k pt

/-- The encoding of RFC 8032: y, with the low bit of x at the top. -/
def EdCurve.encode (c : EdCurve) (pt : Nat × Nat) : Bytes := leBytes c.len (pt.2 + (pt.1 % 2) * 2 ^ (8 * c.len - 1))

/-- A square root modulo p, if there is one. -/
def EdCurve.sqrt (c : EdCurve) (v : Nat) : Option Nat :=
  let r := if c.p % 4 = 3 then powMod v ((c.p + 1) / 4) c.p
           else
             let r0 := powMod v ((c.p + 3) / 8) c.p
             if r0 * r0 % c.p = v % c.p then r0 else r0 * powMod 2 ((c.p - 1) / 4) c.p % c.p
  if r * r % c.p = v % c.p then some r else none

/-- The strict decoding of R240: none for a y of p or more, a value with no square root, or x = 0 with the sign bit set. -/
def EdCurve.decode (c : EdCurve) (b : Bytes) : Option (Nat × Nat) :=
  let v := leNat (b.take c.len)
  let y := v % 2 ^ (8 * c.len - 1)
  let sign := v / 2 ^ (8 * c.len - 1)
  if c.p ≤ y then none
  else match c.sqrt (subMod c.p 1 (y * y) * invMod c.p (subMod c.p c.a (c.d * (y * y % c.p))) % c.p) with
    | none => none
    | some x => if x = 0 then (if sign = 1 then none else some (0, y)) else some (if x % 2 = sign then x else c.p - x, y)

/-- An A that verification accepts: it decodes, and [8]A is not the identity (R240). -/
def edKeyOk (pset : Nat) (b : Bytes) : Bool :=
  match (edCurve pset).decode b with
  | some a => (edCurve pset).mul 8 a != (0, 1)
  | none => false

/-- The checks that EDDSA_VERIFY makes before the equation (R240): A, R and S. -/
def edInputOk (pset : Nat) (pk sig : Bytes) : Bool :=
  edKeyOk pset pk && ((edCurve pset).decode sig).isSome
    && decide (leNat (slice sig (edCurve pset).len (edCurve pset).len) < (edCurve pset).order)

/-- The clamped scalar of RFC 7748 and RFC 8032: 255-bit curves for an odd set, 448-bit for an even one. -/
def clampScalar (pset : Nat) (b : Bytes) : Nat :=
  if pset % 2 = 1 then (leNat (b.take 32) / 8 * 8) % 2 ^ 254 + 2 ^ 254 else (leNat (b.take 56) / 4 * 4) % 2 ^ 447 + 2 ^ 447

/-- The hash of EdDSA: SHA-512, or SHAKE256 to 114 bytes. -/
def edHash (pset : Nat) (m : Bytes) : Bytes := if pset = 1 then primOut .digest [[3#8], m] 64 else shake256 m 114

/-- The clamped secret scalar and the hash prefix of a seed (R229). -/
def edExpand (pset : Nat) (seed : Bytes) : Nat × Bytes :=
  let h := edHash pset seed
  (clampScalar pset h, h.drop (edCurve pset).len)

/-- The public key of a seed (R227). -/
def edPublic (pset : Nat) (seed : Bytes) : Bytes :=
  (edCurve pset).encode ((edCurve pset).mul (edExpand pset seed).1 ((edCurve pset).bx, (edCurve pset).by_))

/-- The prefix of every hash of a variant (R239): none for pure Ed25519 without a context. -/
def edDom (pset ph : Nat) (ctx : Bytes) : Bytes :=
  if pset = 1 then
    (if ph = 0 ∧ ctx = [] then []
     else ascii "SigEd25519 no Ed25519 collisions".toList ++ [u8 (flag (ph != 0)), u8 ctx.length] ++ ctx)
  else ascii "SigEd448".toList ++ [u8 (flag (ph != 0)), u8 ctx.length] ++ ctx

/-- An EdDSA signature of a message, or of a digest where `ph` is not 0 (R239). -/
def edSign (pset ph : Nat) (seed ctx m : Bytes) : Bytes :=
  let c := edCurve pset
  let x := edExpand pset seed
  let r := leNat (edHash pset (edDom pset ph ctx ++ x.2 ++ m)) % c.order
  let rPt := c.encode (c.mul r (c.bx, c.by_))
  let k := leNat (edHash pset (edDom pset ph ctx ++ rPt ++ edPublic pset seed ++ m)) % c.order
  rPt ++ leBytes c.len ((r + k * x.1) % c.order)

/-- The cofactored equation [8][S]B = [8]R + [8][k]A of R240, on the encodings of A and R. -/
def edVerifies (pset ph : Nat) (pk ctx m sig : Bytes) : Bool :=
  let c := edCurve pset
  let s := leNat (slice sig c.len c.len)
  let k := leNat (edHash pset (edDom pset ph ctx ++ sig.take c.len ++ pk ++ m)) % c.order
  match c.decode pk, c.decode sig with
  | some a, some r => c.mul 8 (c.mul s (c.bx, c.by_)) == c.add (c.mul 8 r) (c.mul 8 (c.mul k a))
  | _, _ => false

/-! ### The Montgomery curves (R227, R241) -/

/-- The prime of X25519 (an odd set) or X448. -/
def xPrime (pset : Nat) : Nat := if pset % 2 = 1 then 2 ^ 255 - 19 else 2 ^ 448 - 2 ^ 224 - 1

/-- Bytes of a coordinate. -/
def xLen (pset : Nat) : Nat := if pset % 2 = 1 then 32 else 56

/-- One step of the ladder of RFC 7748 without its swaps: (x2, z2, x3, z3). -/
def ladderStep (p a24 x1 : Nat) (st : Nat × Nat × Nat × Nat) : Nat × Nat × Nat × Nat :=
  let (x2, z2, x3, z3) := st
  let a := (x2 + z2) % p
  let b := subMod p x2 z2
  let e := subMod p (a * a) (b * b)
  let da := subMod p x3 z3 * a % p
  let cb := (x3 + z3) * b % p
  (a * a % p * (b * b % p) % p, e * ((a * a + a24 * e) % p) % p,
   (da + cb) * (da + cb) % p, x1 * (subMod p da cb * subMod p da cb % p) % p)

/-- The ladder over the bits of a scalar below bit `w`, the highest first. -/
def ladder (p a24 x1 k : Nat) : Nat → Nat × Nat × Nat × Nat → Nat × Nat × Nat × Nat
  | 0, st => st
  | w + 1, st =>
    let swap := fun (t : Nat × Nat × Nat × Nat) => if k.testBit w then (t.2.2.1, t.2.2.2, t.1, t.2.1) else t
    ladder p a24 x1 k w (swap (ladderStep p a24 x1 (swap st)))

/-- The u-coordinate of an encoded u (R241): the top bit of a 32-byte u is cleared, and a non-canonical u is reduced. -/
def xCoord (pset : Nat) (u : Bytes) : Nat :=
  leNat (u.take (xLen pset)) % 2 ^ (if pset % 2 = 1 then 255 else 448) % xPrime pset

/-- X25519 or X448 of a scalar and a u (R241). -/
def xAgree (pset : Nat) (scalar u : Bytes) : Bytes :=
  let p := xPrime pset
  let st := ladder p (if pset % 2 = 1 then 121665 else 39081) (xCoord pset u) (clampScalar pset scalar)
    (if pset % 2 = 1 then 255 else 448) (1, 0, xCoord pset u, 1)
  leBytes (xLen pset) (st.1 * invMod p st.2.1 % p)

/-- The public key of a scalar: the product of the base point. -/
def xPublic (pset : Nat) (scalar : Bytes) : Bytes := xAgree pset scalar [if pset % 2 = 1 then 9#8 else 5#8]

end Sys2Proof.Machine
end

