-- ==== Sys2Proof/Machine/KeyMaterial.lean ====
section
/-! DEFINITION. What the stored secret of a key determines: the values derived from it, the public key, and the expanded material
(R115, R116, R143, R144, R153, R170, R179, R182, R202, R203, R206, R227 to R229, R295). -/

namespace Sys2Proof.Machine

open Sys2Proof

/-- Label of a primitive: class, set and further bytes. -/
def tag (cls pset : Nat) : Bytes := [u8 cls, u8 pset]

/-! ### FN-DSA (R144) -/

/-- The input of SHAKE256 from which candidate `i` of a seed is derived. -/
def fnInput (pset : Nat) (seed : Bytes) (i : Nat) : Bytes := ascii "Quarus-FNKG-1".toList ++ [u8 pset] ++ seed ++ [u8 i]

/-- Candidate `i` of a seed: the SHAKE256 output that FIPS 206 key generation takes. R144 does not say how much of it that is
(log 4). -/
def fnStream (pset : Nat) (seed : Bytes) (i : Nat) : Bytes := shake256 (fnInput pset seed i) (Config.fnStreamLen pset)

/-- The four tests of FIPS 206 key generation, by name. -/
def fnTests : List Bytes := ["norm", "Gram-Schmidt", "invertible", "NTRU"].map (fun v => ascii v.toList)

/-- A candidate passes every test of FIPS 206 key generation: the norm bound, the Gram-Schmidt bound, the invertibility of f and the
solution of the NTRU equation. -/
def fnPasses (pset : Nat) (seed : Bytes) (i : Nat) : Bool :=
  fnTests.all (fun t => Config.primB .checkOk [tag 3 pset, t, fnStream pset seed i])

/-- The candidate that key generation selects: the lowest-numbered of the 16 that passes. -/
def fnCandidate (pset : Nat) (seed : Bytes) : Option Nat := (List.range 16).find? (fnPasses pset seed)

/-- The SHAKE256 output behind the key of a seed. -/
def fnKey (pset : Nat) (seed : Bytes) : Bytes := fnStream pset seed ((fnCandidate pset seed).getD 0)

/-- The coefficients of h in an encoded public key: 14 bits each, behind the header byte (log 57). -/
def fnCoeffs (pset : Nat) (pk : Bytes) : List Nat :=
  let v := beNat (pk.drop 1)
  (List.range (512 * pset)).map (fun i => v / 2 ^ (14 * (512 * pset - 1 - i)) % 2 ^ 14)

/-- Every coefficient of h is below 12,289 (R150). -/
def fnPkOk (pset : Nat) (pk : Bytes) : Bool := (fnCoeffs pset pk).all (fun x => decide (x < 12289))

/-! ### Composite pairs (R152, R153) -/

/-- Class and set of the lattice half. -/
def pqHalf (pset : Nat) : Nat × Nat := (pairHalves pset).1

/-- Class and set of the classical half. -/
def clHalf (pset : Nat) : Nat × Nat := (pairHalves pset).2

/-- The classical length of okm in a pair (R152). -/
def clKeyLen (pset : Nat) : Nat :=
  match pset with
  | 0x01 => 32 | 0x02 => 64 | 0x03 => 56 | 0x11 => 32 | 0x12 => 48 | 0x13 => 32 | 0x14 => 64 | _ => 57

/-- The classical secret of a pair from its random bytes: a P-256 or P-384 scalar is reduced (R153, R155). -/
def clSecret (pset : Nat) (b : Bytes) : Bytes :=
  if (clHalf pset).1 = 10 then beBytes (secretLen 10 (clHalf pset).2) (reducedScalar (clHalf pset).2 b) else b

/-- The lattice seed and the classical key derived from a master seed (R153). -/
def pairKeys (pset : Nat) (master : Bytes) : Bytes × Bytes :=
  let ls := secretLen (pqHalf pset).1 (pqHalf pset).2
  let okm := shake256 (ascii "Quarus-PAIR-1".toList ++ [u8 pset] ++ master) (ls + clKeyLen pset)
  (okm.take ls, clSecret pset (okm.drop ls))

/-! ### RSA (R227, R228) -/

/-- General-e set (R227). -/
def rsaGeneral (pset : Nat) : Bool := decide (0x10 < pset)

/-- p of a stored string. -/
def rsaP (pset : Nat) (x : Bytes) : Nat := beNat (x.take (rsaK pset / 2))

/-- q of a stored string. -/
def rsaQ (pset : Nat) (x : Bytes) : Nat := beNat (slice x (rsaK pset / 2) (rsaK pset / 2))

/-- e of a stored string: 65,537 where E_LEN is 0. -/
def rsaE (pset : Nat) (x : Bytes) : Nat :=
  let n := byteAt x (rsaK pset)
  if n = 0 then 65537 else beNat (slice x (rsaK pset + 1) n)

/-- The public key of p, q and e: n, with e behind it for a general-e set. -/
def rsaPk (pset p q e : Nat) : Bytes := beBytes (rsaK pset) (p * q) ++ (if rsaGeneral pset then beBytes 32 e else [])

/-! ### Stateful trees (R179, R182) -/

/-- SEED ‖ I of tree `j` of level `l`, the top being level 1. -/
def lmsSeed (n l j : Nat) (master : Bytes) : Bytes :=
  shake256 (ascii "Quarus-LMS-1".toList ++ [u8 l] ++ leBytes 8 j ++ master) (n + 16)

/-- SK_SEED ‖ SK_PRF ‖ PUB_SEED. -/
def xmssSeed (pset : Nat) (master : Bytes) : Bytes :=
  shake256 (ascii "Quarus-XMSS-1".toList ++ [u8 pset] ++ master) (3 * xmssN pset)

/-- The derived values that a signature with a one-time index uses: those of the tree of each level that the index lies in. -/
def hbsSeeds (cls pset : Nat) (levels : List (Nat × Nat)) (master : Bytes) (index : Nat) : Bytes :=
  if cls = 5 then
    (List.range levels.length).flatMap (fun l =>
      lmsSeed (lmsN pset) (l + 1) (index / 2 ^ totalHeight (treeLevels 5 pset (levels.drop l))) master)
  else xmssSeed pset master

/-- The HSS public key of RFC 8554: L, the typecodes of the top level, its I and its root. -/
def hssPublic (pset : Nat) (levels : List (Nat × Nat)) (master : Bytes) : Bytes :=
  let n := lmsN pset
  let top := levels.headD (0, 0)
  let x := lmsSeed n 1 0 master
  let types := beBytes 4 top.1 ++ beBytes 4 top.2
  beBytes 4 levels.length ++ types ++ x.drop n ++ primOut .hbsPk [tag 5 pset, types, x] n

/-- OID ‖ root ‖ PUB_SEED. -/
def xmssPublic (pset : Nat) (master : Bytes) : Bytes :=
  let x := xmssSeed pset master
  beBytes 4 (pset % 128) ++ primOut .hbsPk [tag 6 pset, x] (xmssN pset) ++ x.drop (2 * xmssN pset)

/-! ### HQC (R203) -/

/-- sk_seed ‖ pk_seed ‖ σ. -/
def hqcSeeds (pset : Nat) (seed : Bytes) : Bytes :=
  shake256 (ascii "Quarus-HQC-1".toList ++ [u8 pset] ++ seed) (80 + nth [16, 24, 32] pset)

/-! ### Public keys -/

/-- PK.root of an SLH-DSA key. -/
def slhRoot (pset : Nat) (x : Bytes) : Bytes := primOut .publicKey [tag 4 pset, x] (slhN pset)

/-- The public key that a stored secret of a single scheme determines. -/
def publicOf1 (cls pset : Nat) (x : Bytes) (levels : List (Nat × Nat)) : Bytes :=
  match cls with
  | 3 => primOut .publicKey [tag 3 pset, fnKey pset x] (publicLen1 3 pset)
  | 4 => slice x (2 * slhN pset) (slhN pset) ++ slhRoot pset x
  | 5 => hssPublic pset levels x
  | 6 => xmssPublic pset x
  | 7 => primOut .publicKey [tag 7 pset, (hqcSeeds pset x).take 80] (publicLen1 7 pset)
  | 9 => rsaPk pset (rsaP pset x) (rsaQ pset x) (rsaE pset x)
  | 10 => ecPublic pset x
  | 11 => if pset ≤ 2 then edPublic pset x else xPublic pset x
  | _ => primOut .publicKey [tag cls pset, x] (publicLen1 cls pset)

/-- The public key that a stored secret determines; a pair's is pk_pq ‖ pk_cl (R153). -/
def publicOf (cls pset : Nat) (x : Bytes) (levels : List (Nat × Nat)) : Bytes :=
  if cls = 15 then
    publicOf1 (pqHalf pset).1 (pqHalf pset).2 (pairKeys pset x).1 []
      ++ publicOf1 (clHalf pset).1 (clHalf pset).2 (pairKeys pset x).2 []
  else publicOf1 cls pset x levels

/-- The public key of a key: what a public-only entry holds (R289), or what its stored secret determines (R115). -/
def Key.pk (k : Key) : Bytes :=
  if symmetricClass k.cls then []
  else if k.state = 2 then k.body.take (publicLen k.cls k.pset)
  else publicOf k.cls k.pset k.secret k.levels

/-- SHA3-256 of the public key; zero for classes 0xC to 0xE (R303). -/
def Key.pkHash (k : Key) : Bytes := if symmetricClass k.cls then zeros 32 else sha3_256 k.pk

/-! ### Expanded material -/

/-- A part of expanded material that a published scheme computes from a secret, by its name and length. -/
def part (cls pset : Nat) (x : Bytes) (name : String) (n : Nat) : Bytes := primOut .expand [tag cls pset, x, ascii name.toList] n

/-- An LMS signature under the tree of a seed: q, the LM-OTS typecode with C and the chains, the LMS typecode, and the path. -/
def lmsSignature (pset : Nat) (l : Nat × Nat) (x : Bytes) (q : Nat) (c m : Bytes) : Bytes :=
  let n := lmsN pset
  let ots := beBytes 4 l.2
  beBytes 4 q ++ ots ++ c ++ primOut .sign [tag 5 pset, ots, x, beBytes 4 q, c, m] (otsSigLen n (otsColumn l.2) - 4 - c.length)
    ++ beBytes 4 l.1 ++ primOut .sign [tag 5 pset, beBytes 4 l.1, x, beBytes 4 q] (n * lmsHeight l.1)

/-- The LMS public key of the tree of a seed: typecodes, I and root. -/
def lmsPublic (pset : Nat) (l : Nat × Nat) (x : Bytes) : Bytes :=
  let types := beBytes 4 l.1 ++ beBytes 4 l.2
  types ++ x.drop (lmsN pset) ++ primOut .hbsPk [tag 5 pset, types, x] (lmsN pset)

/-- The index of the tree that each level of an HSS key has in use with a one-time index; that of level `k + 1` is the leaf of level `k`
that signs it. -/
def hssTree (pset : Nat) (levels : List (Nat × Nat)) (index k : Nat) : Nat :=
  index / 2 ^ totalHeight (treeLevels 5 pset (levels.drop k))

/-- The signature of level `k` of an HSS key over a message, with its randomiser C. -/
def hssLevel (pset : Nat) (levels : List (Nat × Nat)) (master : Bytes) (index k : Nat) (c m : Bytes) : Bytes :=
  let l := levels.getD k (0, 0)
  lmsSignature pset l (lmsSeed (lmsN pset) (k + 1) (hssTree pset levels index k) master) (hssTree pset levels index (k + 1) % 2 ^ lmsHeight l.1)
    c m

/-- The LMS public key of the tree that level `k` has in use. -/
def hssLevelPk (pset : Nat) (levels : List (Nat × Nat)) (master : Bytes) (index k : Nat) : Bytes :=
  lmsPublic pset (levels.getD k (0, 0)) (lmsSeed (lmsN pset) (k + 1) (hssTree pset levels index k) master)

/-- An HSS signature with a one-time index: Nspk, the signed public key of each lower level's current tree, and the signature of the
bottom one, with the randomiser C of each level. -/
def hssSignature (pset : Nat) (levels : List (Nat × Nat)) (master : Bytes) (index : Nat) (cs : List Bytes) (m : Bytes) : Bytes :=
  beBytes 4 (levels.length - 1) ++ (List.range levels.length).flatMap (fun k =>
    let c := cs.getD k []
    if k + 1 = levels.length then hssLevel pset levels master index k c m
    else
      let pk := hssLevelPk pset levels master index (k + 1)
      hssLevel pset levels master index k c pk ++ pk)

/-- The randomiser of each level for a one-time index: that of the cached signature where the level's leaf signed before, and otherwise
the next n bytes of the draw (R180, R182; DESIGN CHOICE; log 70). -/
def hssRandom (pset : Nat) (levels : List (Nat × Nat)) (upper : List (Nat × (Nat × Bytes))) (index : Nat) (rand : Bytes) : List Bytes :=
  (List.range levels.length).map (fun k =>
    let fresh := slice rand (lmsN pset * k) (lmsN pset)
    match tget upper k with
    | some (q, c) => if q = hssTree pset levels index (k + 1) ∧ k + 1 ≠ levels.length then c else fresh
    | none => fresh)

/-- The randomisers of the cached signatures after a signature with an index. -/
def hssCached (pset : Nat) (levels : List (Nat × Nat)) (index : Nat) (cs : List Bytes) : List (Nat × (Nat × Bytes)) :=
  (List.range (levels.length - 1)).map (fun k => (k, (hssTree pset levels index (k + 1), cs.getD k [])))

/-- The expanded material of an RSA key (R229); the Montgomery constants are those of 64-bit limbs. -/
def rsaParts (pset : Nat) (x : Bytes) : List Bytes :=
  let p := rsaP pset x
  let q := rsaQ pset x
  let half := rsaK pset / 2
  let mont := fun (n len : Nat) => beBytes len (2 ^ (16 * len) % n)
  [beBytes (rsaK pset) (p * q), beBytes half (invAny (p - 1) (rsaE pset x)), beBytes half (invAny (q - 1) (rsaE pset x)),
   beBytes half (invMod p q), mont (p * q) (rsaK pset), mont p half, mont q half, rsaPk pset p q (rsaE pset x)]

/-- The expanded material of a single scheme, part by part (R116, R143, R170, R202, R203, R206, R229). -/
def expandedParts1 (cls pset : Nat) (x : Bytes) : List Bytes :=
  let pk := publicOf1 cls pset x []
  match cls with
  | 1 => [part 1 pset x "A" (nth [1536, 3456, 6144] pset), part 1 pset x "s" (nth [768, 1152, 1536] pset), pk, sha3_256 pk,
          x.drop 32]
  | 2 => [part 2 pset x "A" (736 * nth [16, 30, 56] pset), part 2 pset x "s1" (736 * nth [4, 5, 7] pset),
          part 2 pset x "s2" (736 * nth [4, 6, 8] pset), part 2 pset x "t0" (736 * nth [4, 6, 8] pset), shake256 pk 64,
          part 2 pset x "K" 32, pk]
  | 3 => ["f", "g", "F", "G"].map (fun v => part 3 pset (fnKey pset x) v (4096 * pset))
          ++ [part 3 pset (fnKey pset x) "tree" (nth [40960, 90112] pset), part 3 pset (fnKey pset x) "h" (1024 * pset)]
  | 4 => [slhRoot pset x]
          ++ (if pset % 2 = 0 then []
              else [part 4 pset (slice x (2 * slhN pset) (slhN pset)) "SHA-256" 32]
                ++ (if 5 ≤ pset then [part 4 pset (slice x (2 * slhN pset) (slhN pset)) "SHA-512" 64] else []))
  | 7 => [hqcSeeds pset x, pk]
  | 8 => [part 8 pset x "private" (nth [7540, 9984, 14468, 15028, 17664] ((pset + 1) / 2)), pk]
  | 9 => rsaParts pset x
  | 11 => if pset ≤ 2 then [leBytes (edCurve pset).len (edExpand pset x).1, (edExpand pset x).2, pk] else [pk]
  | _ => [pk]

/-- The expanded material of a key: a pair's is that of both halves with both public keys (R153), and a class-0xD key's is the
states of the functions that have used it (R255), which its record holds beside. -/
def Key.expandedParts (k : Key) : List Bytes :=
  if k.cls = 13 then []
  else if k.cls = 15 then
    let x := pairKeys k.pset k.secret
    expandedParts1 (pqHalf k.pset).1 (pqHalf k.pset).2 x.1 ++ expandedParts1 (clHalf k.pset).1 (clHalf k.pset).2 x.2
  else expandedParts1 k.cls k.pset k.secret

/-- One part of the traversal state of a stateful key: its bytes depend on the key, the level and NEXT, and no file gives their layout
(R180; log 70). -/
def traversalPart (k : Key) (next level : Nat) (name : String) (n : Nat) : Bytes :=
  part k.cls k.pset (k.secret ++ [u8 level] ++ leBytes 8 next) name n

/-- The traversal state of a stateful key (R180): path and tree-hash stacks of every level, the partial next tree of every level below
the top, the cached signature of every level above the bottom (of class 0x5 once its randomiser is drawn), and NEXT with the header. -/
def traversalParts (k : Key) (c : CounterState) : List Bytes :=
  let n := if k.cls = 5 then lmsN k.pset else xmssN k.pset
  let size := fun (l : Nat) => (4 * (k.tree.getD l (0, 0)).1 + 16) * n
  let all := List.range k.tree.length
  all.map (fun l => traversalPart k c.next l "stacks" (size l))
    ++ (all.drop 1).map (fun l => traversalPart k c.next l "next" (size l))
    ++ all.dropLast.map (fun l =>
        if k.cls = 5 then
          match tget c.upper l with
          | some (_, r) => hssLevel k.pset k.levels k.secret c.next l r (hssLevelPk k.pset k.levels k.secret c.next (l + 1))
          | none => zeros (lmsSigLen n (k.levels.getD l (0, 0)))
        else traversalPart k c.next l "signature" ((wotsLen n + (xmssLayers k.pset).2) * n))
    ++ [leBytes 8 c.next ++ traversalPart k c.next 0 "header" 56]

/-! ### Shares (R109, R142, R251) -/

/-- The modulus of the shares of a class: q of its scheme, 2^64 for the fixed-point values of FN-DSA, and a byte for AES. -/
def shareModulus (cls : Nat) : Nat := match cls with | 1 => 3329 | 2 => 8380417 | 12 => 256 | _ => 2 ^ 64

/-- The secret values of a key: the coefficients of s, or of s1, s2 and t0, the words of f, g, F, G and the tree, or the bytes of the
round keys, the first of which are the key's own. -/
def keyShares (cls pset : Nat) : Nat :=
  match cls with
  | 1 => 256 * nth [2, 3, 4] pset
  | 2 => 256 * nth [12, 17, 23] pset
  | 3 => nth [7168, 15360] pset
  | 12 => nth [176, 208, 240] pset
  | _ => 0

/-- The secret values that a schedule makes besides: r, e1, e2 and m or m′ of ML-KEM; y, c·s1, c·s2 and c·t0 of ML-DSA; the target and
the sampled vectors of FN-DSA; and the state of AES. -/
def runShares (op cls pset : Nat) : Nat :=
  match cls with
  | 1 => if [0x0101, 0x0103, 0x0F01, 0x0F02, 0x1004].contains op then 256 * (2 * nth [2, 3, 4] pset + 2) else 0
  | 2 => if [0x0201, 0x0202, 0x0F03, 0x1006].contains op then 256 * nth [16, 22, 30] pset else 0
  | 3 => if [0x0301, 0x0F03].contains op then 4 * nth [512, 1024] pset else 0
  | 12 => 16
  | _ => 0

/-- Secret value `i` of a schedule on a secret `x`: those of the key first, and then those that it makes from the bytes `r` that it
draws and its input. AES shares bytes, and its key as it stands; every other value is what the published scheme computes. -/
def secretValue (cls pset : Nat) (x r input : Bytes) (i : Nat) : Nat :=
  if cls = 12 ∧ i < x.length then byteAt x i
  else if i < keyShares cls pset then Config.primN .expand [tag cls pset, x, leBytes 4 i] % shareModulus cls
  else Config.primN .expand [tag cls pset, x, r, input, leBytes 4 (i - keyShares cls pset)] % shareModulus cls

/-- The second share of a value under a mask: Boolean for AES, arithmetic otherwise. -/
def otherShare (cls v m : Nat) : Nat := if cls = 12 then Nat.xor v m else subMod (shareModulus cls) v m

/-- The two shares of each secret value of a schedule, with the masks of draw `k`. -/
def sharesOf (op cls pset : Nat) (x r input : Bytes) (k : Nat) : List (Nat × Nat) :=
  (List.range (keyShares cls pset + runShares op cls pset)).map (fun i =>
    let m := leNat ((List.range 8).map (fun b => Config.random k (8 * i + b))) % shareModulus cls
    (m, otherShare cls (secretValue cls pset x r input i) m))

end Sys2Proof.Machine
end

