-- ==== Sys2Proof/Machine/Entries.lean ====
section
/-! DEFINITION. The tables of the object dictionary (R453 to R456) and of the 192 fault sources (R407), row by row as
the chapters that own them give them. -/

namespace Sys2Proof.Machine

/-- The data types of R453. -/
inductive Ty where
  | bool | u8 | u16 | u32 | u64 | i32 | enum | time48 | beats64 | bytes (n : Nat) | digest384
  deriving DecidableEq, Repr

/-- The access codes of the manual's notation. -/
inductive Access where
  | ro | rw | rwc | wo | rwl | rwf
  deriving DecidableEq, Repr

/-- One row of an entry table, for subindices `sub` to `subHi`. -/
structure Entry where
  sub : Nat
  subHi : Nat
  ty : Ty
  acc : Access
  dflt : Int
  lo : Int
  hi : Int
  /-- the range excludes values between its ends, or is not an interval (R458, SPARSE) -/
  sparse : Bool := false
  unit : String := ""
  deriving DecidableEq, Repr

/-- The code of a type (R453). -/
def Ty.code : Ty → Nat
  | .bool => 1 | .u8 => 2 | .u16 => 3 | .u32 => 4 | .u64 => 5 | .i32 => 6 | .enum => 7 | .time48 => 8 | .beats64 => 9
  | .bytes _ => 10 | .digest384 => 11

/-- The size of a value (R453). -/
def Ty.size : Ty → Nat
  | .bool => 1 | .u8 => 1 | .u16 => 2 | .u32 => 4 | .u64 => 8 | .i32 => 4 | .enum => 1 | .time48 => 6 | .beats64 => 8
  | .bytes n => n | .digest384 => 48

/-- The code of an access (R458). -/
def Access.code : Access → Nat
  | .ro => 1 | .rw => 2 | .rwc => 3 | .wo => 4 | .rwl => 5 | .rwf => 6

/-- Shorthand for a row of one subindex. -/
def row (sub : Nat) (ty : Ty) (acc : Access) (dflt lo hi : Int) (unit : String := "") (sparse : Bool := false) : Entry :=
  ⟨sub, sub, ty, acc, dflt, lo, hi, sparse, unit⟩

/-- Rows of index 0x1000. -/
def rows1000 : List Entry := [
  /- SUB_COUNT -/ row 0x00 .u8 .ro 10 0 255,
  /- DEVICE_ID -/ row 0x01 (.bytes 32) .ro 0 0 0,
  /- GRADE -/ row 0x02 .enum .ro 0 0 1,
  /- SERIAL -/ row 0x03 .u64 .ro 0 0 18446744073709551615,
  /- LC_STATE -/ row 0x04 .enum .ro 0 0 6,
  /- LC_SEQ -/ row 0x05 .u32 .ro 0 0 4294967295,
  /- SEED_GENERATION -/ row 0x06 .u32 .ro 0 0 4294967295 "seeds",
  /- ID_PK_PQ -/ row 0x07 (.bytes 2592) .ro 0 0 0,
  /- ID_PK_CL -/ row 0x08 (.bytes 97) .ro 0 0 0,
  /- ID_CERT_LEN -/ row 0x09 .u32 .ro 0 0 16384 "bytes",
  /- ID_CERT -/ row 0x0A (.bytes 16384) .ro 0 0 0]

/-- Rows of index 0x1001. -/
def rows1001 : List Entry := [
  /- SUB_COUNT -/ row 0x00 .u8 .ro 9 0 255,
  /- MEAS_0-MEAS_7 -/ ⟨0x01, 0x08, .digest384, .ro, 0, 0, 0, false, ""⟩,
  /- MEAS_EXTEND -/ row 0x09 (.bytes 49) .wo 0 0 0]

/-- Rows of index 0x1100. -/
def rows1100 : List Entry := [
  /- SUB_COUNT -/ row 0x00 .u8 .ro 6 0 255,
  /- MODE -/ row 0x01 .enum .ro 1 1 11,
  /- PREV_MODE -/ row 0x02 .enum .ro 0 0 11,
  /- MODE_BEAT -/ row 0x03 .beats64 .ro 0 0 18446744073709551615 "beats",
  /- QUIESCE_KIND -/ row 0x04 .enum .ro 0 0 3,
  /- RESET_CAUSE -/ row 0x05 .enum .ro 0 0 3,
  /- MODE_CHANGES -/ row 0x06 .u32 .ro 0 0 4294967295 "events"]

/-- Rows of index 0x1101. -/
def rows1101 : List Entry := [
  /- SUB_COUNT -/ row 0x00 .u8 .ro 2 0 255,
  /- STARTUP_BEATS -/ row 0x01 (.bytes 64) .ro 0 0 0 "beats",
  /- SERVICE_BEAT -/ row 0x02 .beats64 .ro 0 0 18446744073709551615 "beats"]

/-- Rows of index 0x1102. -/
def rows1102 : List Entry := [
  /- SUB_COUNT -/ row 0x00 .u8 .ro 5 0 255,
  /- IDLE_ENABLE -/ row 0x01 .bool .rw 1 0 1,
  /- IDLE_DELAY -/ row 0x02 .u32 .rw 10 1 60000 "ms",
  /- IDLE_ENTRIES -/ row 0x03 .u32 .ro 0 0 4294967295 "events",
  /- IDLE_BEATS -/ row 0x04 .beats64 .ro 0 0 18446744073709551615 "beats",
  /- CEREMONY_TIMEOUT -/ row 0x05 .u32 .rwc 600 10 86400 "s"]

/-- Rows of index 0x1103. -/
def rows1103 : List Entry := [
  /- SUB_COUNT -/ row 0x00 .u8 .ro 2 0 255,
  /- DSR_SEQ -/ row 0x01 .u16 .ro 0 0 65535 "records",
  /- DSR_LAST -/ row 0x02 (.bytes 32) .ro 0 0 0]

/-- Rows of index 0x1104. -/
def rows1104 : List Entry := [
  /- SUB_COUNT -/ row 0x00 .u8 .ro 1 0 255,
  /- DSR_ADDR -/ row 0x01 .u64 .rw 0 0 18446744073709551584 "byte address" true]

/-- Rows of index 0x1200. -/
def rows1200 : List Entry := [
  /- SUB_COUNT -/ row 0x00 .u8 .ro 4 0 255,
  /- BEAT_COUNT -/ row 0x01 .beats64 .ro 0 0 18446744073709551615 "beats",
  /- CORE_CLOCK -/ row 0x02 .u32 .ro 1000000000 0 4294967295 "Hz",
  /- BEAT_CYCLES -/ row 0x03 .u8 .ro 128 0 255 "cycles",
  /- PLL_LOCK -/ row 0x04 .bool .ro 0 0 1]

/-- Rows of index 0x1201. -/
def rows1201 : List Entry := [
  /- SUB_COUNT -/ row 0x00 .u8 .ro 5 0 255,
  /- POWER_CAP -/ row 0x01 .u16 .rwl 320 80 320 "0.1 W",
  /- CAP_TIER -/ row 0x02 .u8 .ro 0 0 7,
  /- CAP_TIER_NEXT -/ row 0x03 .u8 .ro 255 0 255 "" true,
  /- TIER_RATED -/ row 0x04 (.bytes 16) .ro 0 0 0 "0.1 W",
  /- TIER_CHANGES -/ row 0x05 .u32 .ro 0 0 4294967295 "events"]

/-- Rows of index 0x2000 + d. -/
def rows2000 : List Entry := [
  /- SUB_COUNT -/ row 0x00 .u8 .ro 19 0 255,
  /- DSTATE -/ row 0x01 .enum .ro 0 0 2,
  /- PLANE -/ row 0x02 .enum .ro 0 0 1,
  /- EPOCH -/ row 0x03 .u32 .ro 0 0 4294967295,
  /- EPOCH_SEQ -/ row 0x04 .u64 .ro 0 0 18446744073709551615,
  /- ORDER_COUNTER -/ row 0x05 .u64 .ro 0 0 18446744073709551615 "orders",
  /- IMPORT_COUNTER -/ row 0x06 .u64 .ro 0 0 18446744073709551615 "envelopes",
  /- IMPORT_CEIL -/ row 0x07 .u64 .ro 0 0 18446744073709551615 "envelopes",
  /- QUORUM_M -/ row 0x08 .u8 .ro 0 2 16 "officers",
  /- OFFICER_MAP -/ row 0x09 .u16 .ro 0 0 65535,
  /- PAIRED_MAP -/ row 0x0A .u16 .ro 0 0 65535,
  /- AUTH_MAP -/ row 0x0B .u8 .ro 0 0 3,
  /- IMPORT_KEY -/ row 0x0C .u64 .ro 0 0 18446744073709551615 "handle",
  /- ENTRY_QUOTA -/ row 0x0D .u32 .rwc 131072 0 33554432 "entries",
  /- EXP_QUOTA -/ row 0x0E .u32 .rwc 8192 0 2097152 "4 KiB units",
  /- STAGING_QUOTA -/ row 0x0F .u32 .rwc 16384 0 2097152 "KiB",
  /- STREAM_QUOTA -/ row 0x10 .u16 .rwc 16 0 4096 "streams",
  /- VIOLATION_RATE -/ row 0x11 .u32 .rwc 1000 10 1000000 "per second",
  /- IMPORT_BLOCK -/ row 0x12 .u32 .rwc 1024 1024 65536 "envelopes",
  /- ENVELOPE_CAUSE -/ row 0x13 .enum .ro 0 0 9]

/-- Rows of index 0x2400 + n. -/
def rows2400 : List Entry := [
  /- SUB_COUNT -/ row 0x00 .u8 .ro 31 0 255,
  /- QP_DOMAIN -/ row 0x01 .u16 .rwc 0 0 65535 "" true,
  /- QP_LOCAL -/ row 0x02 .u8 .rwc 0 0 255,
  /- QP_GROUP -/ row 0x03 .u8 .rwc 0 0 3,
  /- SQ_BASE -/ row 0x04 .u64 .rw 0 0 18446744073709547520 "byte address" true,
  /- CQ_BASE -/ row 0x05 .u64 .rw 0 0 18446744073709547520 "byte address" true,
  /- RING_LOG2 -/ row 0x06 .u8 .rw 6 6 16 "log2 entries",
  /- Q_ENABLE -/ row 0x07 .bool .rw 0 0 1,
  /- MSIX_VECTOR -/ row 0x08 .u8 .rw 1 1 7,
  /- INT_COUNT -/ row 0x09 .u16 .rw 1 1 65535 "completions",
  /- INT_DELAY -/ row 0x0A .u32 .rw 64 1 16777215 "beats",
  /- FETCH_LOW -/ row 0x0B .u8 .rw 8 1 63 "headers",
  /- FETCH_HIGH -/ row 0x0C .u8 .rw 32 2 64 "headers",
  /- DATA_LOW -/ row 0x0D .u16 .rw 64 16 240 "KiB",
  /- DATA_HIGH -/ row 0x0E .u16 .rw 128 64 256 "KiB",
  /- SLOT_RESERVE -/ row 0x0F .u16 .rwc 4 0 4096 "job slots",
  /- INFLIGHT_MAX -/ row 0x10 .u16 .rw 256 1 4096 "job slots",
  /- DMA_RETRY -/ row 0x11 .u8 .rw 3 0 7 "retries",
  /- IDLE_RESCAN -/ row 0x12 .u32 .rw 1024 0 16777215 "beats" true,
  /- START_WAIT -/ row 0x13 .u32 .rw 0 0 4294967295 "beats",
  /- Q_STATE -/ row 0x18 .enum .ro 0 0 3,
  /- SQ_HEAD -/ row 0x19 .u16 .ro 0 0 65535 "entry",
  /- CQ_TAIL -/ row 0x1A .u32 .ro 65536 0 4294967295,
  /- CQ_HEAD -/ row 0x1B .u16 .ro 0 0 65535 "entry",
  /- HALT_CAUSE -/ row 0x1C .enum .ro 0 0 4,
  /- HALT_ADDR -/ row 0x1D .u64 .ro 0 0 18446744073709551615 "byte address",
  /- RETRY_COUNT -/ row 0x1E .u32 .ro 0 0 4294967295 "reads",
  /- VIOLATIONS -/ row 0x1F .u32 .ro 0 0 4294967295 "events"]

/-- Rows of index 0x3000. -/
def rows3000 : List Entry := [
  /- SUB_COUNT -/ row 0x00 .u8 .ro 11 0 255,
  /- WHEEL_ID -/ row 0x01 .u64 .ro 0 0 18446744073709551615,
  /- WHEEL_SOURCE -/ row 0x02 .enum .ro 0 0 3,
  /- WHEEL_DIGEST -/ row 0x03 .digest384 .ro 0 0 0,
  /- WHEEL_POSITION -/ row 0x04 .u16 .ro 0 0 4095 "position",
  /- WHEEL_OFFSET -/ row 0x05 .i32 .ro 0 (-2147483648) 2147483647 "beats",
  /- BOOT_DIGEST -/ row 0x06 .digest384 .ro 0 0 0,
  /- SWAP_STATE -/ row 0x07 .enum .ro 0 0 3,
  /- SWAP_COUNT -/ row 0x08 .u32 .ro 0 0 4294967295 "events",
  /- SWAP_BEAT -/ row 0x09 .beats64 .ro 0 0 18446744073709551615 "beats",
  /- DOMAIN_GROUPS -/ row 0x0A (.bytes 256) .ro 0 0 0,
  /- UNIT_OWNERS -/ row 0x0B (.bytes 64) .ro 0 0 0]

/-- Rows of index 0x3001. -/
def rows3001 : List Entry := [
  /- STAGE_RESET -/ row 0x01 .bool .wo 0 1 1,
  /- STAGE_DATA -/ row 0x02 (.bytes 1024) .wo 0 0 0,
  /- STAGE_LEN -/ row 0x03 .u32 .ro 0 0 4294967295 "bytes",
  /- STAGE_CHECK -/ row 0x04 .enum .ro 0 0 9,
  /- STAGE_DIGEST -/ row 0x05 .digest384 .ro 0 0 0]

/-- Rows of index 0x3010 + g. -/
def rows3010 : List Entry := [
  /- MEMBERS -/ row 0x01 (.bytes 32) .ro 0 0 0,
  /- DRAM_SLICES -/ row 0x02 .u8 .ro 0 0 60 "slices",
  /- HCACHE_UNITS -/ row 0x03 .u16 .ro 0 0 256 "256 entries",
  /- DATA_SHARE -/ row 0x04 .u32 .ro 0 0 4294967295 "KiB",
  /- RIGHTS_WHEEL -/ row 0x05 (.bytes 14) .ro 0 0 0 "cells",
  /- RIGHTS_LIVE -/ row 0x06 (.bytes 14) .ro 0 0 0 "cells",
  /- GRANTED -/ row 0x07 (.bytes 56) .ro 0 0 0 "rights",
  /- BORROWED -/ row 0x08 (.bytes 56) .ro 0 0 0 "rights",
  /- UNUSED -/ row 0x09 (.bytes 56) .ro 0 0 0 "rights",
  /- COUNT_CLEAR -/ row 0x0A .bool .wo 0 1 1]

/-- Rows of index 0x3100. -/
def rows3100 : List Entry := [
  /- SUB_COUNT -/ row 0x00 .u8 .ro 4 0 255,
  /- DEGRADED -/ row 0x01 .bool .ro 0 0 1,
  /- UNUSABLE_COUNT -/ row 0x02 .u8 .ro 0 0 255 "units",
  /- UNIT_RETEST -/ row 0x03 .u16 .wo 0 0 65535,
  /- RETEST_STATE -/ row 0x04 .enum .ro 0 0 4]

/-- Rows of index 0x3101 and its class records. -/
def rows3101 : List Entry := [
  /- SUB_COUNT -/ row 0x00 .u8 .ro 3 0 255,
  /- UNIT_STATE -/ row 0x01 (.bytes 16) .ro 0 0 0,
  /- UNUSABLE_CAUSE -/ row 0x02 (.bytes 16) .ro 0 0 0,
  /- LAST_TEST -/ row 0x03 (.bytes 128) .ro 0 0 0 "beats"]

/-- Rows of index 0x3200. -/
def rows3200 : List Entry := [
  /- SUB_COUNT -/ row 0x00 .u8 .ro 6 0 255,
  /- MLKEM_SETS -/ row 0x01 .u8 .rwc 7 0 7,
  /- MLDSA_SETS -/ row 0x02 .u8 .rwc 7 0 7,
  /- MLDSA_VARIANTS -/ row 0x03 .u8 .rwc 15 0 15,
  /- MLDSA_BLOCK_MAX -/ row 0x04 .u8 .rw 32 4 64 "blocks",
  /- MLDSA_MSG_MAX -/ row 0x05 .u32 .rw 65536 2048 16777216 "bytes",
  /- PH_ALGS -/ row 0x06 .u16 .rwc 4094 0 4094]

/-- Rows of index 0x3201. -/
def rows3201 : List Entry := [
  /- SUB_COUNT -/ row 0x00 .u8 .ro 6 0 255,
  /- SIGN_COUNT -/ row 0x01 .u64 .ro 0 0 18446744073709551615 "signatures",
  /- BLOCKS_TOTAL -/ row 0x02 .u64 .ro 0 0 18446744073709551615 "blocks",
  /- BLOCK_LIMITS -/ row 0x03 .u32 .ro 0 0 4294967295 "jobs",
  /- SELFVERIFY_FAULTS -/ row 0x04 .u32 .ro 0 0 4294967295 "events",
  /- BLOCK_HIST -/ row 0x05 (.bytes 64) .ro 0 0 0 "signatures",
  /- COUNT_CLEAR -/ row 0x06 .bool .wo 0 1 1]

/-- Rows of index 0x3210. -/
def rows3210 : List Entry := [
  /- SUB_COUNT -/ row 0x00 .u8 .ro 8 0 255,
  /- FNDSA_SETS -/ row 0x01 .u8 .rwc 3 0 3,
  /- FNDSA_VARIANTS -/ row 0x02 .u8 .rwc 3 0 3,
  /- FNDSA_BLOCK_MAX -/ row 0x03 .u8 .rw 32 4 64 "blocks",
  /- FNDSA_MSG_MAX -/ row 0x04 .u32 .rw 65536 2048 16777216 "bytes",
  /- FNDSA_PIN -/ row 0x05 .bool .rwc 1 0 1,
  /- HKEM_SETS -/ row 0x06 .u8 .rwc 7 0 7,
  /- CSIG_SETS -/ row 0x07 .u8 .rwc 31 0 31,
  /- CHECK_ZERO_FORCE -/ row 0x08 .bool .rwc 0 0 1]

/-- Rows of index 0x3211. -/
def rows3211 : List Entry := [
  /- SUB_COUNT -/ row 0x00 .u8 .ro 5 0 255,
  /- FNDSA_SIGN_COUNT -/ row 0x01 .u64 .ro 0 0 18446744073709551615 "signatures",
  /- FNDSA_BLOCKS -/ row 0x02 .u64 .ro 0 0 18446744073709551615 "blocks",
  /- FNDSA_BLOCK_LIMITS -/ row 0x03 .u32 .ro 0 0 4294967295 "jobs",
  /- FNDSA_SELFVERIFY_FAULTS -/ row 0x04 .u32 .ro 0 0 4294967295 "events",
  /- COUNT_CLEAR -/ row 0x05 .bool .wo 0 1 1]

/-- Rows of index 0x3220. -/
def rows3220 : List Entry := [
  /- SUB_COUNT -/ row 0x00 .u8 .ro 11 0 255,
  /- SLHDSA_SETS -/ row 0x01 .u16 .rwc 4095 0 4095,
  /- SLHDSA_VARIANTS -/ row 0x02 .u8 .rwc 7 0 7,
  /- SLHDSA_MSG_MAX -/ row 0x03 .u32 .rw 65536 2048 16777216 "bytes",
  /- SLHDSA_PIN -/ row 0x04 .bool .rwc 1 0 1,
  /- HBS_FAMILIES -/ row 0x05 .u8 .rwc 15 0 15,
  /- XMSS_ENABLE -/ row 0x06 .u8 .rwc 3 0 3,
  /- HBS_BLOCK -/ row 0x07 .u32 .rw 1024 64 65536 "indices",
  /- HBS_RESERVE_LOW -/ row 0x08 .u32 .rw 256 0 65536 "indices",
  /- HBS_AUTO -/ row 0x09 .bool .rw 1 0 1,
  /- HBS_MSG_MAX -/ row 0x0A .u32 .rw 65536 2048 16777216 "bytes",
  /- HBS_SLICE -/ row 0x0B .u32 .rw 8192 1024 1048576 "beats"]

/-- Rows of index 0x3221. -/
def rows3221 : List Entry := [
  /- SUB_COUNT -/ row 0x00 .u8 .ro 7 0 255,
  /- SLHDSA_SIGN_COUNT -/ row 0x01 .u64 .ro 0 0 18446744073709551615 "signatures",
  /- HBS_SIGN_COUNT -/ row 0x02 .u64 .ro 0 0 18446744073709551615 "signatures",
  /- HBS_RESERVES -/ row 0x03 .u32 .ro 0 0 4294967295 "blocks",
  /- HBS_PENDING -/ row 0x04 .u32 .ro 0 0 4294967295 "jobs",
  /- HBS_LOST -/ row 0x05 .u64 .ro 0 0 18446744073709551615 "indices",
  /- HBS_SELFVERIFY_FAULTS -/ row 0x06 .u32 .ro 0 0 4294967295 "events",
  /- COUNT_CLEAR -/ row 0x07 .bool .wo 0 1 1]

/-- Rows of index 0x3230. -/
def rows3230 : List Entry := [
  /- SUB_COUNT -/ row 0x00 .u8 .ro 5 0 255,
  /- HQC_SETS -/ row 0x01 .u8 .rwc 7 0 7,
  /- CM_SETS -/ row 0x02 .u16 .rwc 1023 0 1023,
  /- CM_PIN -/ row 0x03 .bool .rwc 1 0 1,
  /- CM_KEYGEN_MAX -/ row 0x04 .u8 .rw 128 32 128 "attempts",
  /- CM_HOST_PK -/ row 0x05 .bool .rwc 1 0 1]

/-- Rows of index 0x3231. -/
def rows3231 : List Entry := [
  /- SUB_COUNT -/ row 0x00 .u8 .ro 5 0 255,
  /- CM_KEYGENS -/ row 0x01 .u32 .ro 0 0 4294967295 "keys",
  /- CM_ATTEMPTS -/ row 0x02 .u64 .ro 0 0 18446744073709551615 "attempts",
  /- CM_KEYGEN_FAULTS -/ row 0x03 .u32 .ro 0 0 4294967295 "events",
  /- PCT_FAULTS -/ row 0x04 .u32 .ro 0 0 4294967295 "events",
  /- COUNT_CLEAR -/ row 0x05 .bool .wo 0 1 1]

/-- Rows of index 0x3240. -/
def rows3240 : List Entry := [
  /- SUB_COUNT -/ row 0x00 .u8 .ro 9 0 255,
  /- RSA_SETS -/ row 0x01 .u8 .rwc 63 0 63,
  /- RSA_PADDINGS -/ row 0x02 .u8 .rwc 7 0 7,
  /- CLASSIC_HASHES -/ row 0x03 .u16 .rwc 1022 0 1022,
  /- EC_CURVES -/ row 0x04 .u8 .rwc 127 0 127,
  /- EC_VARIANTS -/ row 0x05 .u8 .rwc 7 0 7,
  /- CLASSIC_MSG_MAX -/ row 0x06 .u32 .rw 65536 2048 16777216 "bytes",
  /- RSA_CAND_MAX -/ row 0x07 .u32 .rw 65536 4096 65536 "candidates",
  /- IBEX_LONG -/ row 0x08 .u32 .rw 2048 256 1048576 "beats",
  /- XDH_CHECK_ZERO_FORCE -/ row 0x09 .bool .rwc 0 0 1]

/-- Rows of index 0x3241. -/
def rows3241 : List Entry := [
  /- SUB_COUNT -/ row 0x00 .u8 .ro 5 0 255,
  /- RSA_KEYGENS -/ row 0x01 .u32 .ro 0 0 4294967295 "keys",
  /- RSA_CANDIDATES -/ row 0x02 .u64 .ro 0 0 18446744073709551615 "candidates",
  /- CRT_FAULTS -/ row 0x03 .u32 .ro 0 0 4294967295 "events",
  /- COMPARE_FAULTS -/ row 0x04 .u32 .ro 0 0 4294967295 "events",
  /- COUNT_CLEAR -/ row 0x05 .bool .wo 0 1 1]

/-- Rows of index 0x3250. -/
def rows3250 : List Entry := [
  /- SUB_COUNT -/ row 0x00 .u8 .ro 10 0 255,
  /- AES_MODES -/ row 0x01 .u16 .rwc 1023 0 1023,
  /- OTHER_ALGS -/ row 0x02 .u8 .rwc 15 0 15,
  /- DIGEST_FUNCS -/ row 0x03 .u16 .rwc 16382 0 16382,
  /- KDF_ENABLE -/ row 0x04 .u8 .rwc 7 0 7,
  /- MAC_TRUNC_MIN -/ row 0x05 .u8 .rwc 8 8 16 "bytes",
  /- XOF_OUT_MAX -/ row 0x06 .u32 .rw 65536 64 16777216 "bytes",
  /- KDF_OUT_MAX -/ row 0x07 .u32 .rw 1024 16 65536 "bytes",
  /- DEVIV_BLOCK -/ row 0x08 .u64 .rw 1048576 1024 4294967296 "values",
  /- DEVIV_RESERVE_LOW -/ row 0x09 .u32 .rw 262144 0 2147483648 "values",
  /- MUNTJAC_RECOVERY -/ row 0x0A .bool .rwc 0 0 1]

/-- Rows of index 0x3251. -/
def rows3251 : List Entry := [
  /- SUB_COUNT -/ row 0x00 .u8 .ro 7 0 255,
  /- SYM_COMPARE_FAULTS -/ row 0x01 .u32 .ro 0 0 4294967295 "events",
  /- TAG_FAILS -/ row 0x02 .u64 .ro 0 0 18446744073709551615 "jobs",
  /- EXPOSED_BYTES -/ row 0x03 .u64 .ro 0 0 18446744073709551615 "bytes",
  /- DEVIV_RESERVES -/ row 0x04 .u32 .ro 0 0 4294967295 "blocks",
  /- DEVIV_LOST -/ row 0x05 .u64 .ro 0 0 18446744073709551615 "values",
  /- MUNTJAC_JOBS -/ row 0x06 .u32 .ro 0 0 4294967295 "jobs",
  /- COUNT_CLEAR -/ row 0x07 .bool .wo 0 1 1]

/-- Rows of index 0x4000. -/
def rows4000 : List Entry := [
  /- SUB_COUNT -/ row 0x00 .u8 .ro 12 0 255,
  /- VAULT_STATE -/ row 0x01 .enum .ro 0 0 3,
  /- ENTRIES_LIVE -/ row 0x02 .u32 .ro 0 0 4294967295 "entries",
  /- ENTRIES_FREE -/ row 0x03 .u32 .ro 33554432 0 4294967295 "entries",
  /- ENTRIES_RETIRED -/ row 0x04 .u32 .ro 0 0 4294967295 "entries",
  /- PAGES_DIRTY -/ row 0x05 .u32 .ro 0 0 4294967295 "pages",
  /- ROOT_SEQ -/ row 0x06 .u64 .ro 0 0 18446744073709551615,
  /- PENDING_SEQ -/ row 0x07 .u64 .ro 0 0 18446744073709551615,
  /- NEXT_SEQ -/ row 0x08 .u64 .ro 1 0 18446744073709551615,
  /- LAST_COMMIT -/ row 0x09 .beats64 .ro 0 0 18446744073709551615 "beats",
  /- COMMIT_REQ -/ row 0x0A .bool .ro 0 0 1,
  /- EXPORT_LEFT -/ row 0x0B .u32 .ro 0 0 4294967295 "records",
  /- COPY_FREE -/ row 0x0C .u32 .ro 45056 0 4294967295 "pages"]

/-- Rows of index 0x4001. -/
def rows4001 : List Entry := [
  /- SUB_COUNT -/ row 0x00 .u8 .ro 4 0 255,
  /- COMMIT_PERIOD -/ row 0x01 .u32 .rw 100 10 600000 "ms",
  /- COMMIT_MIN -/ row 0x02 .u32 .ro 10 0 4294967295 "ms",
  /- EXPORT_MAX -/ row 0x03 .u16 .rw 1024 1 1024 "records",
  /- ROTATE_COMMITS -/ row 0x04 .u32 .rwc 268435456 1048576 1073741824 "commits"]

/-- Rows of index 0x4002. -/
def rows4002 : List Entry := [
  /- SUB_COUNT -/ row 0x00 .u8 .ro 7 0 255,
  /- VLOAD_LIST -/ row 0x01 .u64 .rw 0 0 18446744073709551615 "byte address",
  /- VLOAD_LEN -/ row 0x02 .u64 .rw 0 4330766336 4330766336 "bytes",
  /- VLOAD_START -/ row 0x03 .enum .wo 0 1 2,
  /- VLOAD_STATUS -/ row 0x04 .u8 .ro 0 0 255,
  /- VLOAD_CAUSE -/ row 0x05 .enum .ro 0 0 7,
  /- VLOAD_PAGE -/ row 0x06 .u32 .ro 0 0 4294967295 "page",
  /- VLOAD_SEQ -/ row 0x07 .u64 .ro 0 0 18446744073709551615]

/-- Rows of index 0x4003. -/
def rows4003 : List Entry := [
  /- SUB_COUNT -/ row 0x00 .u8 .ro 5 0 255,
  /- JOURNAL_REGION -/ row 0x01 .u8 .ro 0 0 15,
  /- JOURNAL_SLOT -/ row 0x02 .u8 .ro 0 0 63,
  /- JOURNAL_WSEQ -/ row 0x03 .u64 .ro 0 0 18446744073709551615,
  /- ROTATIONS -/ row 0x04 .u32 .ro 0 0 4294967295 "events",
  /- TORN_SLOTS -/ row 0x05 .u32 .ro 0 0 4294967295 "slots"]

/-- Rows of index 0x4004. -/
def rows4004 : List Entry := [
  /- SUB_COUNT -/ row 0x00 .u8 .ro 8 0 255,
  /- SCRUB_PERIOD -/ row 0x01 .u32 .rw 86400 3600 604800 "s",
  /- RETRAIN_DELTA -/ row 0x02 .u8 .rw 10 2 20 "°C",
  /- DRAM_TEMP -/ row 0x03 .i32 .ro 0 (-2147483648) 2147483647 "0.1 °C",
  /- CE_COUNT -/ row 0x04 .u64 .ro 0 0 18446744073709551615 "events",
  /- UE_COUNT -/ row 0x05 .u32 .ro 0 0 4294967295 "events",
  /- TAG_FAILS -/ row 0x06 .u32 .ro 0 0 4294967295 "events",
  /- RETRAINS -/ row 0x07 .u32 .ro 0 0 4294967295 "events",
  /- SCRUB_PASSES -/ row 0x08 .u32 .ro 0 0 4294967295 "passes"]

/-- Rows of index 0x4005. -/
def rows4005 : List Entry := [
  /- SUB_COUNT -/ row 0x00 .u8 .ro 6 0 255,
  /- HC_HITS -/ row 0x01 .u64 .ro 0 0 18446744073709551615 "lookups",
  /- HC_MISSES -/ row 0x02 .u64 .ro 0 0 18446744073709551615 "lookups",
  /- EXP_HITS -/ row 0x03 .u64 .ro 0 0 18446744073709551615 "probes",
  /- EXP_MISSES -/ row 0x04 .u64 .ro 0 0 18446744073709551615 "probes",
  /- EXP_PINNED -/ row 0x05 .u32 .ro 0 0 4294967295 "4 KiB units",
  /- COUNT_CLEAR -/ row 0x06 .bool .wo 0 1 1]

/-- Rows of index 0x4006. -/
def rows4006 : List Entry := [
  /- SUB_COUNT -/ row 0x00 .u8 .ro 2 0 255,
  /- DOMAIN_ENTRIES -/ row 0x01 (.bytes 1024) .ro 0 0 0 "entries",
  /- DOMAIN_EXP_UNITS -/ row 0x02 (.bytes 1024) .ro 0 0 0 "4 KiB units"]

/-- Rows of index 0x4800 + d. -/
def rows4800 : List Entry := [
  /- SUB_COUNT -/ row 0x00 .u8 .ro 0 0 255,
  /- OFFICER_0-OFFICER_15 -/ ⟨0x01, 0x10, (.bytes 32), .ro, 0, 0, 0, false, ""⟩,
  /- AUTH_0, AUTH_1 -/ ⟨0x11, 0x12, (.bytes 32), .ro, 0, 0, 0, false, ""⟩,
  /- LAST_ORDER -/ row 0x13 (.bytes 64) .ro 0 0 0,
  /- LAST_ORDER_BEAT -/ row 0x14 .beats64 .ro 0 0 18446744073709551615 "beats",
  /- ATTEST_KEY -/ row 0x20 .u64 .ro 0 0 18446744073709551615 "handle",
  /- ATTEST_PK_HASH -/ row 0x21 (.bytes 32) .ro 0 0 0]

/-- Rows of index 0x5000. -/
def rows5000 : List Entry := [
  /- SUB_COUNT -/ row 0x00 .u8 .ro 11 0 255,
  /- ENTROPY_STATE -/ row 0x01 .enum .ro 0 0 4,
  /- SOURCES_QUALIFIED -/ row 0x02 .u8 .ro 0 0 15,
  /- COND_CAPACITY -/ row 0x03 .u32 .ro 0 0 4294967295 "blocks/s",
  /- ENTROPY_WAIT -/ row 0x04 .u32 .rw 100 1 10000 "ms",
  /- RESEED_INTERVAL -/ row 0x05 .u32 .rwc 1048576 1024 16777216 "requests",
  /- REQUAL_MAX -/ row 0x06 .u8 .rw 16 1 255 "attempts",
  /- REQUAL_PERIOD -/ row 0x07 .u16 .rw 16 1 1000 "ms",
  /- STARTUP_LIMIT -/ row 0x08 .u32 .rw 1000 10 60000 "ms",
  /- ROOT_PERIOD -/ row 0x09 .u32 .ro 7813 0 4294967295 "beats",
  /- ROOT_AGE_MAX -/ row 0x0A .u32 .ro 15625 0 4294967295 "beats",
  /- OWN_REQUESTS -/ row 0x0B .u32 .ro 0 0 4294967295 "requests"]

/-- Rows of index 0x5010 + s. -/
def rows5010 : List Entry := [
  /- SUB_COUNT -/ row 0x00 .u8 .ro 8 0 255,
  /- SRC_STATE -/ row 0x01 .enum .ro 0 0 5,
  /- DESIGN -/ row 0x02 .enum .ro 0 0 1,
  /- RCT_CUTOFF -/ row 0x03 .u16 .ro 0 0 65535 "samples",
  /- APT_CUTOFF -/ row 0x04 .u16 .ro 0 0 65535 "samples",
  /- RCT_FAILS -/ row 0x05 .u32 .ro 0 0 4294967295 "events",
  /- APT_FAILS -/ row 0x06 .u32 .ro 0 0 4294967295 "windows",
  /- REQUALS -/ row 0x07 .u32 .ro 0 0 4294967295 "attempts",
  /- LAST_FAIL -/ row 0x08 .beats64 .ro 0 0 18446744073709551615 "beats"]

/-- Rows of index 0x5020. -/
def rows5020 : List Entry := [
  /- SUB_COUNT -/ row 0x00 .u8 .ro 9 0 255,
  /- ROOT_LAST_RESEED -/ row 0x01 .beats64 .ro 0 0 18446744073709551615 "beats",
  /- ROOT_RESEEDS -/ row 0x02 .u64 .ro 0 0 18446744073709551615 "reseeds",
  /- PR_REQUESTS -/ row 0x03 .u64 .ro 0 0 18446744073709551615 "jobs",
  /- STARVED_JOBS -/ row 0x04 .u32 .ro 0 0 4294967295 "jobs",
  /- NOT_READY_JOBS -/ row 0x05 .u32 .ro 0 0 4294967295 "jobs",
  /- MASK_READY -/ row 0x06 .bool .ro 0 0 1,
  /- MASK_BYTES -/ row 0x07 .u64 .ro 0 0 18446744073709551615 "bytes",
  /- DOMAIN_REQUESTS -/ row 0x08 (.bytes 1024) .ro 0 0 0 "requests",
  /- COUNT_CLEAR -/ row 0x09 .bool .wo 0 1 1]

/-- Rows of index 0x5030. -/
def rows5030 : List Entry := [
  /- SUB_COUNT -/ row 0x00 .u8 .ro 5 0 255,
  /- STUDY_STATE -/ row 0x01 .enum .ro 0 0 2,
  /- STUDY_SELECT -/ row 0x02 .u8 .rw 0 0 3,
  /- STUDY_LEN -/ row 0x03 .u32 .ro 0 0 4294967295 "bits",
  /- STUDY_DATA -/ row 0x04 (.bytes 1024) .ro 0 0 0,
  /- STUDY_EXIT -/ row 0x05 .bool .wo 0 1 1]

/-- Rows of index 0x6000. -/
def rows6000 : List Entry := [
  /- SUB_COUNT -/ row 0x00 .u8 .ro 10 0 255,
  /- TAMPER_ARM -/ row 0x01 .u16 .rwc 0 0 511,
  /- TAMPER_FUSED -/ row 0x02 .u16 .ro 0 0 511,
  /- AO_ERASE_MAP -/ row 0x03 .u32 .ro 0 0 4294967295,
  /- INTRUDED_LATCH -/ row 0x04 .bool .ro 0 0 1,
  /- AO_SUPPLY -/ row 0x05 .enum .ro 0 0 1,
  /- VBAT_MV -/ row 0x06 .u16 .ro 0 0 65535 "mV",
  /- VBAT_LOW_MV -/ row 0x07 .u16 .rw 2600 2550 3000 "mV",
  /- AO_TEMP -/ row 0x08 .i32 .ro 0 (-2147483648) 2147483647 "0.1 °C",
  /- AO_TEMP_LOW -/ row 0x09 .i32 .rwc (-450) (-600) (-300) "0.1 °C",
  /- MESH_MISMATCH_LIMIT -/ row 0x0A .u8 .rwc 2 1 4 "steps"]

/-- Rows of index 0x6010 + m. -/
def rows6010 : List Entry := [
  /- SUB_COUNT -/ row 0x00 .u8 .ro 4 0 255,
  /- MESH_STATE -/ row 0x01 .enum .ro 0 0 3,
  /- LOOP_OK -/ row 0x02 .bool .ro 0 0 1,
  /- MISMATCHES -/ row 0x03 .u32 .ro 0 0 4294967295 "steps",
  /- LAST_MISMATCH -/ row 0x04 .time48 .ro 0 0 281474976710655 "s"]

/-- Rows of index 0x6020 + s. -/
def rows6020 : List Entry := [
  /- SUB_COUNT -/ row 0x00 .u8 .ro 6 0 255,
  /- SENSE_POLARITY -/ row 0x01 .enum .rwc 0 0 1,
  /- SENSE_DEBOUNCE -/ row 0x02 .u8 .rwc 10 1 255 "ms",
  /- SENSE_CHATTER_MAX -/ row 0x03 .u8 .rwc 20 1 255 "transitions/s",
  /- SENSE_LEVEL -/ row 0x04 .bool .ro 0 0 1,
  /- SENSE_STATE -/ row 0x05 .enum .ro 0 0 3,
  /- TRANSITIONS -/ row 0x06 .u32 .ro 0 0 4294967295 "transitions"]

/-- Rows of index 0x6030. -/
def rows6030 : List Entry := [
  /- SUB_COUNT -/ row 0x00 .u8 .ro 7 0 255,
  /- TEMP_HIGH_LIMIT -/ row 0x01 .i32 .rwc 0 1000 1300 "0.1 °C",
  /- TEMP_LOW_LIMIT -/ row 0x02 .i32 .rwc (-450) (-600) (-450) "0.1 °C",
  /- DIE_TEMP_A -/ row 0x03 .i32 .ro 0 (-2147483648) 2147483647 "0.1 °C",
  /- DIE_TEMP_B -/ row 0x04 .i32 .ro 0 (-2147483648) 2147483647 "0.1 °C",
  /- LIGHT_LAST -/ row 0x05 .u8 .ro 0 0 255,
  /- GLITCH_MARGIN -/ row 0x06 .u16 .ro 0 0 65535 "ps",
  /- DETECTOR_TESTS -/ row 0x07 .u32 .ro 0 0 4294967295 "passes"]

/-- Rows of index 0x6040. -/
def rows6040 : List Entry := [
  /- SUB_COUNT -/ row 0x00 .u8 .ro 6 0 255,
  /- AO_LOG_SEQ -/ row 0x01 .u32 .ro 0 0 4294967295 "entries",
  /- AO_LOG_COUNT -/ row 0x02 .u16 .ro 0 0 256 "entries",
  /- AO_LOG_SELECT -/ row 0x03 .u8 .rw 0 0 255 "slot",
  /- AO_LOG_ENTRY -/ row 0x04 (.bytes 16) .ro 0 0 0,
  /- AO_LOG_CHAIN -/ row 0x05 .bool .ro 0 0 1,
  /- AO_LOG_COPIED -/ row 0x06 .u32 .ro 0 0 4294967295]

/-- Rows of index 0x6800 + n. -/
def rows6800 : List Entry := [
  /- SUB_COUNT -/ row 0x00 .u8 .ro 7 0 255,
  /- CLASS -/ row 0x01 .u8 .rwc 0 0 5 "class",
  /- DEFAULT_CLASS -/ row 0x02 .u8 .ro 0 0 5 "class",
  /- CLASS_MIN -/ row 0x03 .u8 .ro 0 0 5 "class",
  /- CLASS_MAX -/ row 0x04 .u8 .ro 0 0 5 "class",
  /- FORCE -/ row 0x05 .bool .wo 0 1 1,
  /- COUNT -/ row 0x06 .u32 .ro 0 0 4294967295 "events",
  /- LAST_BEAT -/ row 0x07 .beats64 .ro 0 0 18446744073709551615 "beats"]

/-- Rows of index 0x6900. -/
def rows6900 : List Entry := [
  /- SUB_COUNT -/ row 0x00 .u8 .ro 5 0 255,
  /- ROLLING_PERIOD -/ row 0x01 .u32 .rw 86400 0 604800 "s" true,
  /- ROLLING_NEXT -/ row 0x02 .u8 .ro 0 0 41 "partition",
  /- ROLLING_PASSES -/ row 0x03 .u32 .ro 0 0 4294967295 "tests",
  /- ROLLING_FAILS -/ row 0x04 .u32 .ro 0 0 4294967295 "tests",
  /- STARTUP_FAILS -/ row 0x05 (.bytes 8) .ro 0 0 0]

/-- Rows of index 0x6901. -/
def rows6901 : List Entry := [
  /- SUB_COUNT -/ row 0x00 .u8 .ro 9 0 255,
  /- PATCH_STAGE_RESET -/ row 0x01 .bool .wo 0 1 1,
  /- PATCH_DATA -/ row 0x02 (.bytes 1024) .wo 0 0 0,
  /- PATCH_LEN -/ row 0x03 .u32 .ro 0 0 4294967295 "bytes",
  /- PATCH_APPLY -/ row 0x04 .bool .wo 0 1 1,
  /- PATCH_STATUS -/ row 0x05 .u8 .ro 0 0 255,
  /- PATCH_VERSION -/ row 0x06 .u32 .ro 0 0 4294967295,
  /- PATCH_MIN_VERSION -/ row 0x07 .u32 .ro 0 0 4294967295,
  /- ROM_ID -/ row 0x08 .u32 .ro 0 0 4294967295,
  /- PATCH_WINDOW_TIMEOUT -/ row 0x09 .u32 .rwc 10000 1000 60000 "ms"]

/-- Rows of index 0x6902. -/
def rows6902 : List Entry := [
  /- SUB_COUNT -/ row 0x00 .u8 .ro 4 0 255,
  /- MAINT_RUNNING -/ row 0x01 .u16 .ro 0 0 511,
  /- MAINT_QUEUED -/ row 0x02 .u16 .ro 0 0 511,
  /- MAINT_WAIT_MAX -/ row 0x03 .u32 .rw 1000 1 60000 "ms",
  /- MAINT_GRANTS -/ row 0x04 (.bytes 72) .ro 0 0 0 "grants"]

/-- Rows of index 0x6903. -/
def rows6903 : List Entry := [
  /- SUB_COUNT -/ row 0x00 .u8 .ro 7 0 255,
  /- FLOG_SEQ -/ row 0x01 .u32 .ro 0 0 4294967295 "records",
  /- FLOG_SELECT -/ row 0x02 .u16 .rw 0 0 1023 "slot",
  /- FLOG_ENTRY -/ row 0x03 (.bytes 32) .ro 0 0 0,
  /- MLOG_SEQ -/ row 0x04 .u32 .ro 0 0 4294967295 "records",
  /- MLOG_SELECT -/ row 0x05 .u8 .rw 0 0 63 "slot",
  /- MLOG_ENTRY -/ row 0x06 (.bytes 32) .ro 0 0 0,
  /- SHADOW_MISMATCHES -/ row 0x07 .u32 .ro 0 0 4294967295 "events"]

/-- Rows of index 0x7000. -/
def rows7000 : List Entry := [
  /- SUB_COUNT -/ row 0x00 .u8 .ro 6 0 255,
  /- MGMT_WRITE -/ row 0x01 .bool .rwl 0 0 1,
  /- RELAY_ENABLE -/ row 0x02 .bool .rwl 0 0 1,
  /- REQUESTS -/ row 0x03 .u64 .ro 0 0 18446744073709551615 "messages",
  /- ERRORS -/ row 0x04 .u32 .ro 0 0 4294967295 "messages",
  /- LAST_ERROR -/ row 0x05 (.bytes 8) .ro 0 0 0,
  /- MON_CLEAR -/ row 0x06 .u32 .wo 0 0 4294967295]

/-- Rows of index 0x7010 + k. -/
def rows7010 : List Entry := [
  /- SUB_COUNT -/ row 0x00 .u8 .ro 128 0 255,
  /- QUEUE_LATENCY -/ ⟨0x01, 0x80, (.bytes 160), .ro, 0, 0, 0, false, "beats"⟩]

/-- Rows of index 0x7020. -/
def rows7020 : List Entry := [
  /- SUB_COUNT -/ row 0x00 .u8 .ro 7 0 255,
  /- OCCUPANCY -/ ⟨0x01, 0x07, (.bytes 160), .ro, 0, 0, 0, false, "unit-beats"⟩]

/-- Rows of index 0x7030. -/
def rows7030 : List Entry := [
  /- SUB_COUNT -/ row 0x00 .u8 .ro 5 0 255,
  /- MON_DIE_TEMP -/ row 0x01 (.bytes 160) .ro 0 0 0 "0.1 °C",
  /- MON_VCORE -/ row 0x02 (.bytes 160) .ro 0 0 0 "mV",
  /- MON_VSRAM -/ row 0x03 (.bytes 160) .ro 0 0 0 "mV",
  /- MON_VBAT -/ row 0x04 (.bytes 160) .ro 0 0 0 "mV",
  /- MON_GLITCH -/ row 0x05 (.bytes 160) .ro 0 0 0 "ps"]

/-- Rows of index 0x7800. -/
def rows7800 : List Entry := [
  /- SUB_COUNT -/ row 0x00 .u8 .ro 8 0 255,
  /- POWER_ON_SECONDS -/ row 0x01 .u64 .ro 0 0 18446744073709551615 "s",
  /- POWER_CYCLES -/ row 0x02 .u32 .ro 0 0 4294967295 "starts",
  /- JOB_COUNTS -/ row 0x03 (.bytes 126) .ro 0 0 0 "1,024 jobs",
  /- EVENT_COUNTS -/ row 0x04 (.bytes 768) .ro 0 0 0 "events",
  /- THERMAL_HIST -/ row 0x05 (.bytes 64) .ro 0 0 0 "s",
  /- JOURNAL_WRITES -/ row 0x06 (.bytes 128) .ro 0 0 0 "writes",
  /- RECORD_WRITES -/ row 0x07 (.bytes 24) .ro 0 0 0 "writes",
  /- WEAR_PEAK -/ row 0x08 .u32 .ro 0 0 4294967295 "ppm"]

/-- Rows of index 0x7810. -/
def rows7810 : List Entry := [
  /- SUB_COUNT -/ row 0x00 .u8 .ro 5 0 255,
  /- CAL_SECONDS -/ row 0x01 .time48 .ro 0 0 281474976710655 "s",
  /- CAL_VALID -/ row 0x02 .bool .ro 0 0 1,
  /- CAL_TRIM -/ row 0x03 .i32 .ro 0 (-2000) 2000 "0.1 ppm",
  /- CAL_SET_BEAT -/ row 0x04 .beats64 .ro 0 0 18446744073709551615 "beats",
  /- CAL_SETS -/ row 0x05 .u32 .ro 0 0 4294967295 "orders"]

/-- Rows of index 0x7880. -/
def rows7880 : List Entry := [
  /- SUB_COUNT -/ row 0x00 .u8 .ro 7 0 255,
  /- BOOT_RESET -/ row 0x01 .bool .wo 0 1 1,
  /- BOOT_DATA -/ row 0x02 (.bytes 1024) .wo 0 0 0,
  /- BOOT_LEN -/ row 0x03 .u32 .ro 0 0 4294967295 "bytes",
  /- BOOT_DIGEST_HELD -/ row 0x04 .digest384 .rwc 0 0 0,
  /- BOOT_STATUS -/ row 0x05 .enum .ro 0 0 5,
  /- BOOT_RECORD -/ row 0x06 .u32 .ro 0 0 4294967295 "record",
  /- BOOT_ID -/ row 0x07 .u64 .ro 0 0 18446744073709551615]

/-- Rows of index 0x8000. -/
def rows8000 : List Entry := [
  /- SUB_COUNT -/ row 0x00 .u8 .ro 14 0 255,
  /- HERD_STATE -/ row 0x01 .enum .ro 0 0 3,
  /- HERD_EPOCH -/ row 0x02 .u32 .ro 0 0 4294967295,
  /- HERD_COUNT -/ row 0x03 .u8 .ro 0 0 8 "members",
  /- POSITION -/ row 0x04 .u8 .ro 255 0 255 "" true,
  /- MEMBERS -/ row 0x05 (.bytes 256) .ro 0 0 0,
  /- MEMBERSHIP_DIGEST -/ row 0x06 (.bytes 32) .ro 0 0 0,
  /- LEADER -/ row 0x07 .u8 .ro 255 0 255 "" true,
  /- WHEEL_ALIGN -/ row 0x08 .i32 .ro 0 (-2147483648) 2147483647 "beats",
  /- HERD_KEEPALIVE -/ row 0x09 .u16 .rw 100 10 1000 "ms",
  /- HERD_RETRY -/ row 0x0A .u16 .rw 1000 100 10000 "ms",
  /- HERD_HELLO_TIMEOUT -/ row 0x0B .u16 .rw 10 1 1000 "ms",
  /- HERD_REKEY_FRAMES -/ row 0x0C .u32 .rw 16777216 65536 4294967295 "frames",
  /- HERD_REKEY_S -/ row 0x0D .u32 .rw 3600 60 86400 "s",
  /- RELAY_TIMEOUT -/ row 0x0E .u16 .rwc 10 1 1000 "ms"]

/-- Rows of index 0x8010 + p. -/
def rows8010 : List Entry := [
  /- SUB_COUNT -/ row 0x00 .u8 .ro 9 0 255,
  /- SESSION_STATE -/ row 0x01 .enum .ro 0 0 3,
  /- ROUTE -/ row 0x02 .enum .ro 0 0 2,
  /- FRAMES_TX -/ row 0x03 .u64 .ro 0 0 18446744073709551615 "frames",
  /- FRAMES_RX -/ row 0x04 .u64 .ro 0 0 18446744073709551615 "frames",
  /- FRAME_FAULTS -/ row 0x05 .u32 .ro 0 0 4294967295 "frames",
  /- AUTH_FAILS -/ row 0x06 .u32 .ro 0 0 4294967295 "events",
  /- REPL_APPLIED -/ row 0x07 .u32 .ro 0 0 4294967295 "frames",
  /- REPL_REFUSED -/ row 0x08 .u32 .ro 0 0 4294967295 "frames",
  /- LAST_RX -/ row 0x09 .beats64 .ro 0 0 18446744073709551615 "beats"]

/-- Rows of index 0x8020 + q. -/
def rows8020 : List Entry := [
  /- SUB_COUNT -/ row 0x00 .u8 .ro 3 0 255,
  /- PORT_UP -/ row 0x01 .bool .ro 0 0 1,
  /- TRAININGS -/ row 0x02 .u32 .ro 0 0 4294967295 "events",
  /- NEIGHBOUR -/ row 0x03 .u8 .ro 255 0 255 "" true]

/-- Rows of index 0x9000. -/
def rows9000 : List Entry := [
  /- SUB_COUNT -/ row 0x00 .u8 .ro 6 0 255,
  /- LINK_SPEED -/ row 0x01 .enum .ro 0 0 5,
  /- LINK_WIDTH -/ row 0x02 .u8 .ro 0 0 8 "lanes" true,
  /- NUM_VFS -/ row 0x03 .u8 .ro 0 0 255 "functions",
  /- LINK_DOWNS -/ row 0x04 .u32 .ro 0 0 4294967295 "events",
  /- CPL_TIMEOUTS -/ row 0x05 .u32 .ro 0 0 4294967295 "reads",
  /- PERST_COUNT -/ row 0x06 .u32 .ro 0 0 4294967295 "events"]

/-- Rows of index 0x9001. -/
def rows9001 : List Entry := [
  /- SUB_COUNT -/ row 0x00 .u8 .ro 5 0 255,
  /- PTM_PAIR_LAST -/ row 0x01 (.bytes 16) .ro 0 0 0 "ns; beats",
  /- PTM_PAIR_PREV -/ row 0x02 (.bytes 16) .ro 0 0 0 "ns; beats",
  /- PTM_UPDATES -/ row 0x03 .u32 .ro 0 0 4294967295 "pairs",
  /- PTM_INTERVAL -/ row 0x04 .u16 .rw 10 1 1000 "ms",
  /- PTM_FAILS -/ row 0x05 .u32 .ro 0 0 4294967295 "dialogues"]

/-- Rows of index 0x9002. -/
def rows9002 : List Entry := [
  /- SUB_COUNT -/ row 0x00 .u8 .ro 3 0 255,
  /- IDE_ENFORCE -/ row 0x01 .u8 .rwc 0 0 3,
  /- IDE_STREAMS -/ row 0x02 (.bytes 9) .ro 0 0 0,
  /- IDE_FAILS -/ row 0x03 .u32 .ro 0 0 4294967295 "TLPs"]

/-- Rows of index 0x9003. -/
def rows9003 : List Entry := [
  /- SUB_COUNT -/ row 0x00 .u8 .ro 4 0 255,
  /- I3C_PID -/ row 0x01 (.bytes 6) .ro 0 0 0,
  /- I3C_DYN_ADDR -/ row 0x02 .u8 .ro 0 0 127,
  /- MCTP_EID -/ row 0x03 .u8 .ro 0 0 255,
  /- MCTP_ERRORS -/ row 0x04 .u32 .ro 0 0 4294967295 "events"]

/-- Rows of index 0x9004. -/
def rows9004 : List Entry := [
  /- SUB_COUNT -/ row 0x00 .u8 .ro 3 0 255,
  /- SPDM_VERSION -/ row 0x01 .u8 .ro 0 18 19,
  /- SPDM_SESSIONS -/ row 0x02 .u8 .ro 0 0 8 "sessions",
  /- SPDM_ERRORS -/ row 0x03 .u32 .ro 0 0 4294967295 "events"]

/-- The table that holds an index, and the index's place in its range (R456). -/
def family (i : Nat) : Option (Nat × Nat) :=
  if 0x2000 ≤ i ∧ i ≤ 0x20FF then some (0x2000, i - 0x2000)
  else if 0x2400 ≤ i ∧ i ≤ 0x27FF then some (0x2400, i - 0x2400)
  else if 0x4800 ≤ i ∧ i ≤ 0x48FF then some (0x4800, i - 0x4800)
  else if 0x6800 ≤ i ∧ i ≤ 0x68BF then some (0x6800, i - 0x6800)
  else if 0x3010 ≤ i ∧ i ≤ 0x301F then some (0x3010, i - 0x3010)
  else if 0x3101 ≤ i ∧ i ≤ 0x3107 then some (0x3101, i - 0x3100)
  else if 0x5010 ≤ i ∧ i ≤ 0x5013 then some (0x5010, i - 0x5010)
  else if 0x6010 ≤ i ∧ i ≤ 0x6014 then some (0x6010, i - 0x6010)
  else if 0x6020 ≤ i ∧ i ≤ 0x6023 then some (0x6020, i - 0x6020)
  else if 0x7010 ≤ i ∧ i ≤ 0x7017 then some (0x7010, i - 0x7010)
  else if 0x8010 ≤ i ∧ i ≤ 0x8017 then some (0x8010, i - 0x8010)
  else if 0x8020 ≤ i ∧ i ≤ 0x8021 then some (0x8020, i - 0x8020)
  else if 0xF000 ≤ i ∧ i ≤ 0xF009 then some (0xF000, i - 0xF000)
  else some (i, 0)

/-- The rows of a table, none for an index that the map does not list (R455, R456). -/
def rowsOf (base : Nat) : List Entry :=
  match base with
  | 0x1000 => rows1000
  | 0x1001 => rows1001
  | 0x1100 => rows1100
  | 0x1101 => rows1101
  | 0x1102 => rows1102
  | 0x1103 => rows1103
  | 0x1104 => rows1104
  | 0x1200 => rows1200
  | 0x1201 => rows1201
  | 0x2000 => rows2000
  | 0x2400 => rows2400
  | 0x3000 => rows3000
  | 0x3001 => rows3001
  | 0x3010 => rows3010
  | 0x3100 => rows3100
  | 0x3101 => rows3101
  | 0x3200 => rows3200
  | 0x3201 => rows3201
  | 0x3210 => rows3210
  | 0x3211 => rows3211
  | 0x3220 => rows3220
  | 0x3221 => rows3221
  | 0x3230 => rows3230
  | 0x3231 => rows3231
  | 0x3240 => rows3240
  | 0x3241 => rows3241
  | 0x3250 => rows3250
  | 0x3251 => rows3251
  | 0x4000 => rows4000
  | 0x4001 => rows4001
  | 0x4002 => rows4002
  | 0x4003 => rows4003
  | 0x4004 => rows4004
  | 0x4005 => rows4005
  | 0x4006 => rows4006
  | 0x4800 => rows4800
  | 0x5000 => rows5000
  | 0x5010 => rows5010
  | 0x5020 => rows5020
  | 0x5030 => rows5030
  | 0x6000 => rows6000
  | 0x6010 => rows6010
  | 0x6020 => rows6020
  | 0x6030 => rows6030
  | 0x6040 => rows6040
  | 0x6800 => rows6800
  | 0x6900 => rows6900
  | 0x6901 => rows6901
  | 0x6902 => rows6902
  | 0x6903 => rows6903
  | 0x7000 => rows7000
  | 0x7010 => rows7010
  | 0x7020 => rows7020
  | 0x7030 => rows7030
  | 0x7800 => rows7800
  | 0x7810 => rows7810
  | 0x7880 => rows7880
  | 0x8000 => rows8000
  | 0x8010 => rows8010
  | 0x8020 => rows8020
  | 0x9000 => rows9000
  | 0x9001 => rows9001
  | 0x9002 => rows9002
  | 0x9003 => rows9003
  | 0x9004 => rows9004
  | 0xF000 => [row 0 .u8 .ro 0 0 255]
  | _ => []

/-- Numeric entries, by table and subindex, for which the tables give no default. -/
def openDefaults : List (Nat × Nat) := [
  (0x1000, 0x02), (0x1000, 0x03), (0x1000, 0x04), (0x1000, 0x05), (0x1100, 0x05), (0x1200, 0x04), (0x2000, 0x02), (0x3000, 0x01), 
  (0x3000, 0x02), (0x3000, 0x04), (0x3010, 0x02), (0x3010, 0x03), (0x3010, 0x04), (0x3100, 0x03), (0x4004, 0x03), (0x5010, 0x02), 
  (0x5010, 0x03), (0x5010, 0x04), (0x6000, 0x02), (0x6000, 0x03), (0x6000, 0x05), (0x6000, 0x06), (0x6000, 0x08), (0x6020, 0x04), 
  (0x6030, 0x03), (0x6030, 0x04), (0x6030, 0x06), (0x6901, 0x08), (0x7000, 0x06)]

/-- A run of fault sources with one default class and one allowed range (R407). -/
structure FaultRow where
  first : Nat
  last : Nat
  dflt : Nat
  min : Nat
  max : Nat
  deriving DecidableEq, Repr

/-- Sources 0x00 to 0x61 (R407 and the rules it names). -/
def faultRows0 : List FaultRow := [
  /- MESH_A_ALARM to MESH_D_ALARM -/ ⟨0x00, 0x03, 5, 3, 5⟩,
  /- MESH_PKG_ALARM -/ ⟨0x04, 0x04, 5, 5, 5⟩,
  /- SENSE_A_ALARM to SENSE_D_ALARM -/ ⟨0x05, 0x08, 5, 0, 5⟩,
  /- SENSE_CHATTER -/ ⟨0x09, 0x09, 5, 3, 5⟩,
  /- ZEROISE_REQUEST -/ ⟨0x0A, 0x0A, 5, 5, 5⟩,
  /- AO_TEMP_LOW -/ ⟨0x0B, 0x0B, 5, 4, 5⟩,
  /- AO_TEMP_HIGH -/ ⟨0x0C, 0x0C, 0, 0, 3⟩,
  /- VBAT_LOW -/ ⟨0x0D, 0x0D, 0, 0, 1⟩,
  /- VBAT_FAIL -/ ⟨0x0E, 0x0E, 5, 5, 5⟩,
  /- AO_CLOCK -/ ⟨0x0F, 0x0F, 0, 0, 3⟩,
  /- POWER_LOSS_ERASE -/ ⟨0x10, 0x10, 0, 0, 3⟩,
  /- AO_ERASE_REPORT -/ ⟨0x11, 0x11, 0, 0, 3⟩,
  /- AO_LOG_CHAIN_FAIL -/ ⟨0x12, 0x12, 3, 0, 4⟩,
  /- MUNTJAC_COMPARE -/ ⟨0x13, 0x13, 3, 3, 5⟩,
  /- FUSE_BURN -/ ⟨0x14, 0x14, 3, 3, 4⟩,
  /- VCORE_LOW_A, VCORE_LOW_B -/ ⟨0x20, 0x21, 5, 4, 5⟩,
  /- VCORE_HIGH_A, VCORE_HIGH_B -/ ⟨0x22, 0x23, 5, 4, 5⟩,
  /- CLK_GLITCH_A, CLK_GLITCH_B -/ ⟨0x24, 0x25, 5, 4, 5⟩,
  /- TEMP_HIGH_A, TEMP_HIGH_B -/ ⟨0x26, 0x27, 4, 3, 5⟩,
  /- TEMP_LOW_A, TEMP_LOW_B -/ ⟨0x28, 0x29, 5, 4, 5⟩,
  /- LIGHT_A, LIGHT_B -/ ⟨0x2A, 0x2B, 5, 3, 5⟩,
  /- SHIELD_A, SHIELD_B -/ ⟨0x2C, 0x2D, 5, 4, 5⟩,
  /- VSRAM_A, VSRAM_B -/ ⟨0x2E, 0x2F, 5, 4, 5⟩,
  /- DETECTOR_TEST -/ ⟨0x30, 0x30, 3, 3, 4⟩,
  /- OPMEM_CE -/ ⟨0x40, 0x40, 0, 0, 1⟩,
  /- OPMEM_UE -/ ⟨0x41, 0x41, 1, 1, 4⟩,
  /- HCACHE_PARITY -/ ⟨0x42, 0x42, 0, 0, 3⟩,
  /- INTAKE_PARITY -/ ⟨0x43, 0x43, 1, 1, 3⟩,
  /- CSTORE_CE -/ ⟨0x44, 0x44, 0, 0, 1⟩,
  /- CSTORE_UE -/ ⟨0x45, 0x45, 3, 2, 5⟩,
  /- MRAM_CE -/ ⟨0x46, 0x46, 0, 0, 1⟩,
  /- MRAM_UE -/ ⟨0x47, 0x47, 3, 3, 5⟩,
  /- FLOG_PARITY -/ ⟨0x48, 0x48, 0, 0, 1⟩,
  /- WHEEL_RAM_PARITY -/ ⟨0x49, 0x49, 3, 3, 4⟩,
  /- VDRAM_CE -/ ⟨0x58, 0x58, 0, 0, 1⟩,
  /- VDRAM_UE -/ ⟨0x59, 0x59, 1, 1, 4⟩,
  /- VDRAM_TAG -/ ⟨0x5A, 0x5A, 3, 3, 5⟩,
  /- VDRAM_TRAIN -/ ⟨0x5B, 0x5B, 3, 3, 4⟩,
  /- LATTICE_SELFVERIFY -/ ⟨0x60, 0x60, 2, 1, 5⟩,
  /- LATTICE_SHARE -/ ⟨0x61, 0x61, 2, 1, 5⟩]

/-- Sources 0x62 to 0x94 (R407 and the rules it names). -/
def faultRows1 : List FaultRow := [
  /- LATTICE_STEP -/ ⟨0x62, 0x62, 2, 2, 5⟩,
  /- LATTICE_CONVERT -/ ⟨0x63, 0x63, 2, 1, 5⟩,
  /- LATTICE_SAMPLE_SHORT -/ ⟨0x64, 0x64, 0, 0, 1⟩,
  /- FNDSA_SELFVERIFY -/ ⟨0x65, 0x65, 2, 1, 5⟩,
  /- FNDSA_KEYGEN_SHORT -/ ⟨0x66, 0x66, 0, 0, 2⟩,
  /- SKIPPER_SHARE -/ ⟨0x67, 0x67, 2, 1, 5⟩,
  /- SKIPPER_STEP -/ ⟨0x68, 0x68, 2, 2, 5⟩,
  /- SKIPPER_SAMPLER -/ ⟨0x69, 0x69, 2, 1, 5⟩,
  /- HBS_SELFVERIFY -/ ⟨0x6A, 0x6A, 2, 1, 5⟩,
  /- HAWKMOTH_STEP -/ ⟨0x6B, 0x6B, 2, 2, 5⟩,
  /- HBS_STATE -/ ⟨0x6C, 0x6C, 1, 1, 3⟩,
  /- HBS_PARTITION_CONFLICT -/ ⟨0x6D, 0x6D, 0, 0, 3⟩,
  /- TUSSOCK_STEP -/ ⟨0x6E, 0x6E, 2, 2, 5⟩,
  /- TUSSOCK_CLMUL -/ ⟨0x6F, 0x6F, 2, 1, 5⟩,
  /- CM_KEYGEN_SHORT -/ ⟨0x70, 0x70, 0, 0, 2⟩,
  /- CODE_PCT -/ ⟨0x71, 0x71, 2, 1, 5⟩,
  /- CODE_SAMPLE_SHORT -/ ⟨0x72, 0x72, 0, 0, 1⟩,
  /- IBEX_STEP -/ ⟨0x73, 0x73, 2, 2, 5⟩,
  /- IBEX_CRT_CHECK -/ ⟨0x74, 0x74, 2, 1, 5⟩,
  /- IBEX_COMPARE -/ ⟨0x75, 0x75, 2, 1, 5⟩,
  /- RSA_KEYGEN_SHORT -/ ⟨0x76, 0x76, 0, 0, 2⟩,
  /- SYM_COMPARE -/ ⟨0x77, 0x77, 2, 1, 5⟩,
  /- SYM_STEP -/ ⟨0x78, 0x78, 2, 2, 5⟩,
  /- SYM_SHARE -/ ⟨0x79, 0x79, 2, 1, 5⟩,
  /- STREAM_STATE -/ ⟨0x7A, 0x7A, 1, 1, 3⟩,
  /- KEYUNIT_STEP -/ ⟨0x7B, 0x7B, 3, 2, 5⟩,
  /- KEYUNIT_PATH -/ ⟨0x7C, 0x7C, 3, 3, 5⟩,
  /- ENTROPY_SOURCE -/ ⟨0x80, 0x80, 0, 0, 3⟩,
  /- ENTROPY_APT -/ ⟨0x81, 0x81, 0, 0, 1⟩,
  /- ENTROPY_SOURCE_RETIRED -/ ⟨0x82, 0x82, 2, 0, 3⟩,
  /- ENTROPY_LOW -/ ⟨0x83, 0x83, 0, 0, 3⟩,
  /- ENTROPY_STARTUP -/ ⟨0x84, 0x84, 3, 3, 4⟩,
  /- CONDITIONER_FAULT -/ ⟨0x85, 0x85, 3, 3, 5⟩,
  /- DRBG_COMPARE -/ ⟨0x86, 0x86, 3, 3, 5⟩,
  /- MASKGEN_FAULT -/ ⟨0x87, 0x87, 3, 3, 5⟩,
  /- VAULT_ENTRY_TAG -/ ⟨0x90, 0x90, 3, 1, 5⟩,
  /- VAULT_IMAGE_REFUSED -/ ⟨0x91, 0x91, 0, 0, 3⟩,
  /- JOURNAL_WRITE -/ ⟨0x92, 0x92, 3, 2, 4⟩,
  /- JOURNAL_TORN -/ ⟨0x93, 0x93, 0, 0, 1⟩,
  /- COPY_AREA_FULL -/ ⟨0x94, 0x94, 0, 0, 1⟩]

/-- Sources 0x95 to 0xB8 (R407 and the rules it names). -/
def faultRows2 : List FaultRow := [
  /- DOMAIN_RECORD_BAD -/ ⟨0x95, 0x95, 0, 0, 4⟩,
  /- LC_RECORD_BAD -/ ⟨0x96, 0x96, 4, 4, 5⟩,
  /- DMA_CHANNEL_HALT -/ ⟨0xA0, 0xA0, 0, 0, 3⟩,
  /- COMPLETION_LOST -/ ⟨0xA1, 0xA1, 0, 0, 3⟩,
  /- PARTNER_VIOLATION -/ ⟨0xA2, 0xA2, 0, 0, 1⟩,
  /- VIOLATION_HALT -/ ⟨0xA3, 0xA3, 0, 0, 3⟩,
  /- PCIE_UNCORRECTABLE -/ ⟨0xA4, 0xA4, 0, 0, 3⟩,
  /- IDE_CHECK_FAIL -/ ⟨0xA5, 0xA5, 0, 0, 3⟩,
  /- SPDM_VIOLATION -/ ⟨0xA6, 0xA6, 0, 0, 1⟩,
  /- MCTP_VIOLATION -/ ⟨0xA7, 0xA7, 0, 0, 1⟩,
  /- HERD_AUTH_FAIL -/ ⟨0xA8, 0xA8, 0, 0, 3⟩,
  /- HERD_FRAME_FAULT -/ ⟨0xA9, 0xA9, 0, 0, 1⟩,
  /- HERD_PEER_LOST -/ ⟨0xAA, 0xAA, 0, 0, 3⟩,
  /- LINK_DOWN -/ ⟨0xAB, 0xAB, 0, 0, 3⟩,
  /- SHADOW_MISMATCH -/ ⟨0xB0, 0xB0, 4, 3, 5⟩,
  /- BIST_UNIT_FAIL -/ ⟨0xB1, 0xB1, 2, 2, 4⟩,
  /- BIST_SINGULAR_FAIL -/ ⟨0xB2, 0xB2, 4, 4, 5⟩,
  /- ROLLING_BIST_FAIL -/ ⟨0xB3, 0xB3, 2, 2, 4⟩,
  /- PATCH_REJECTED -/ ⟨0xB4, 0xB4, 0, 0, 4⟩,
  /- PATCH_TIMEOUT -/ ⟨0xB5, 0xB5, 4, 3, 4⟩,
  /- MAINT_OVERDUE -/ ⟨0xB6, 0xB6, 0, 0, 3⟩,
  /- WHEEL_IMAGE_MISMATCH -/ ⟨0xB8, 0xB8, 0, 0, 3⟩]

/-- Every source that is not reserved (R407). -/
def faultRows : List FaultRow := faultRows0 ++ faultRows1 ++ faultRows2

/-- The row of a source; a reserved number reads class S0 with range S0 to S0 (R407). -/
def faultRow (n : Nat) : FaultRow :=
  (faultRows.find? (fun r => decide (r.first ≤ n) && decide (n ≤ r.last))).getD ⟨n, n, 0, 0, 0⟩

/-- The source is not reserved. -/
def faultDefined (n : Nat) : Bool := faultRows.any (fun r => decide (r.first ≤ n) && decide (n ≤ r.last))

end Sys2Proof.Machine
end

