-- ==== Sys2Proof/Machine/Operands.lean ====
section
/-! DEFINITION. The operand forms: job headers and their check, parameter blocks, scatter-gather entries, handles,
wheel cells, and the cyclic redundancy checks of the spec. -/

namespace Sys2Proof.Machine

open Sys2Proof

/-! ### Cyclic redundancy checks -/

/-- One bit of a CRC-16 with polynomial 0x1021, most significant bit first (R27). -/
def crc16Bit (c : Nat) (b : Bool) : Nat :=
  if xor (c.testBit 15) b then (((c <<< 1) ^^^ 0x1021) &&& 0xFFFF) else ((c <<< 1) &&& 0xFFFF)

/-- One byte of the CRC-16. -/
def crc16Byte (c : Nat) (b : Byte) : Nat :=
  [7, 6, 5, 4, 3, 2, 1, 0].foldl (fun a i => crc16Bit a (b.getLsbD i)) c

/-- CRC-16/CCITT-FALSE (R27). -/
def crc16 (b : Bytes) : Nat := b.foldl crc16Byte 0xFFFF

/-- One bit of the reflected CRC-32 with polynomial 0x04C11DB7 (R307). -/
def crc32Bit (c : Nat) (b : Bool) : Nat := if c.testBit 0 != b then c / 2 ^^^ 0xEDB88320 else c / 2

/-- One byte, its low bit first. -/
def crc32Byte (c : Nat) (b : Byte) : Nat := (List.range 8).foldl (fun a i => crc32Bit a (b.getLsbD i)) c

/-- CRC-32 with initial and final value 0xFFFFFFFF (R307). -/
def crc32 (b : Bytes) : Nat := b.foldl crc32Byte 0xFFFFFFFF ^^^ 0xFFFFFFFF

/-- Bytes 0 to 59 of a journal slot (R307). -/
def JournalSlot.head (c : JournalSlot) : Bytes :=
  leBytes 4 c.magic ++ [if c.committed then 2#8 else 1#8, 0#8, 0#8, 0#8] ++ leBytes 8 c.wseq ++ leBytes 8 c.rootSeq
    ++ leBytes 8 c.nextSeq ++ fit 24 c.mac ++ zeros 4

/-- The 64 bytes of a journal slot. -/
def JournalSlot.bytes (c : JournalSlot) : Bytes := c.head ++ leBytes 4 c.crc

/-- MAGIC and CRC are valid (R308). -/
def JournalSlot.valid (c : JournalSlot) : Bool := c.magic == 0x314A5651 && c.crc == crc32 c.head

/-- A slot with its CRC. -/
def JournalSlot.sealed (c : JournalSlot) : JournalSlot := { c with crc := crc32 c.head }

/-- A slot that a failed read-back or a loss of power leaves in doubt: its CRC is wrong, by a free amount (R308). -/
def JournalSlot.torn (c : JournalSlot) (k : Nat) : JournalSlot :=
  { c with crc := (crc32 c.head + 1 + Config.free k % (2 ^ 32 - 1)) % 2 ^ 32 }

/-- HDR_CHK over bytes 0 to 61 with OWN taken as 0 (R27). -/
def headerCrc (b : Bytes) : Nat := crc16 (slice b 0 5 ++ [u8 (byteAt b 5 % 128)] ++ slice b 6 56)

/-! ### AES in counter mode (R259) -/

/-- One block through AES. -/
def aesBlock (key b : Bytes) : Bytes := primOut .aesEcbEnc [key, b] 16

/-- Counter block `i`: the last 4 bytes count as a big-endian integer (R259). -/
def ctrBlock (iv : Bytes) (i : Nat) : Bytes := iv.take 12 ++ beBytes 4 ((beNat (slice iv 12 4) + i) % 2 ^ 32)

/-- CTR over data. -/
def ctrOut (key iv data : Bytes) : Bytes :=
  xorBytes data ((List.range (ceilDiv data.length 16)).flatMap (fun i => aesBlock key (ctrBlock iv i)))

/-- GCM's encryption and decryption with a 12-byte IV: CTR from block 2 (SP 800-38D; log 2). -/
def gcmCipher (key iv data : Bytes) : Bytes := ctrOut key (iv ++ beBytes 4 2) data

/-! ### CTR_DRBG with AES-256, without a derivation function (R363, R364): the working state is Key ‖ V. The spec names SP 800-90A,
whose functions these are (PRESUMED; log 64) -/

/-- Blocks `1` to `n` of the generator: Key over V + 1, V + 2 and so on. -/
def drbgBlocks (st : Bytes) (n : Nat) : Bytes :=
  (List.range n).flatMap (fun i => aesBlock (st.take 32) (beBytes 16 ((beNat (slice st 32 16) + i + 1) % 2 ^ 128)))

/-- CTR_DRBG_Update with 48 bytes. -/
def drbgUpdate (st data : Bytes) : Bytes := xorBytes (drbgBlocks st 3) data

/-- Instantiation from 48 bytes of entropy with a personalisation string. -/
def drbgNew (entropy label : Bytes) : Bytes := drbgUpdate (zeros 48) (xorBytes (fit 48 entropy) (fit 48 label))

/-- The output of one generate request. -/
def drbgOut (st : Bytes) (n : Nat) : Bytes := fit n (drbgBlocks st (ceilDiv n 16))

/-- The working state after it. -/
def drbgAfter (st : Bytes) (n : Nat) : Bytes :=
  drbgUpdate (fit 32 st ++ beBytes 16 ((beNat (slice st 32 16) + ceilDiv n 16) % 2 ^ 128)) (zeros 48)

/-! ### Job headers (R26) -/

/-- The fields of a 64-byte header. -/
def parseHeader (b : Bytes) : Header where
  opcode := field b 0 2
  pset := byteAt b 2
  hdrVer := byteAt b 3
  flags := field b 4 2
  tag := field b 6 2
  keyHandle := field b 8 8
  auxHandle := field b 16 8
  inLen := field b 24 4
  outLen := field b 28 4
  inAddr := field b 32 8
  outAddr := field b 40 8
  ctxAddr := field b 48 8
  streamId := field b 56 2
  ctxLen := field b 58 2
  reserved := field b 60 2
  crcOk := headerCrc b == field b 62 2

/-- A flag of a header (R28). -/
def Header.has (h : Header) (f : Nat) : Bool := h.flags.testBit f

/-! ### Parameter blocks (R32, R33) -/

/-- The length of a parameter block that a head names: 8 + 16 × TPL + BODY_LEN (R34). -/
def blockLen (b : Bytes) : Nat := 8 + (if bit (byteAt b 1) 0 then 16 else 0) + field b 4 2

/-- The parts of a parameter block. -/
def parseBlock (b : Bytes) : ParamBlock where
  present := true
  flags := byteAt b 1
  options := field b 2 2
  template := if bit (byteAt b 1) 0 then slice b 8 16 else []
  body := slice b (if bit (byteAt b 1) 0 then 24 else 8) (field b 4 2)

/-- TPL: a key template follows the head. -/
def ParamBlock.tpl (p : ParamBlock) : Bool := bit p.flags 0

/-- ATTRIBUTES of the template (R33). -/
def ParamBlock.attributes (p : ParamBlock) : Nat := field p.template 0 8

/-- CLASS of the template. -/
def ParamBlock.cls (p : ParamBlock) : Nat := byteAt p.template 8 % 16

/-- NEW_PSET of the template. -/
def ParamBlock.newPset (p : ParamBlock) : Nat := byteAt p.template 9

/-- CHECK_ZERO (R32). -/
def ParamBlock.checkZero (p : ParamBlock) : Bool := bit p.options 0

/-- OUT_PUBLIC (R32). -/
def ParamBlock.outPublic (p : ParamBlock) : Bool := bit p.options 1

/-! ### Scatter-gather entries (R35) -/

/-- A 16-byte scatter-gather entry. -/
structure SgEntry where
  addr : Nat
  len : Nat
  tag : Nat
  last : Bool
  link : Bool
  zeroFill : Bool
  deriving DecidableEq, Repr

/-- The fields of a scatter-gather entry. -/
def parseSg (b : Bytes) : SgEntry where
  addr := field b 0 8
  len := field b 8 4
  tag := byteAt b 12
  last := bit (byteAt b 13) 0
  link := bit (byteAt b 13) 1
  zeroFill := bit (byteAt b 13) 2

/-- A list address with bits [3:0] taken as zero (R30). -/
def listAddr (a : Nat) : Nat := a - a % 16

/-- The walk of a plain buffer, or the start of the walk of a list. -/
def Walk.start (sg : Bool) (addr len : Nat) : Walk :=
  if sg then { next := listAddr addr, done := false }
  else { total := len, spans := if len = 0 then [] else [{ addr := addr, len := len }] }

/-- One hop of a walk (R36). -/
def Walk.hop (w : Walk) (output : Bool) (domain : Nat) (e : SgEntry) : Walk :=
  let n := w.hops + 1
  if e.tag ≠ domain then { w with hops := n, done := true, err := stSgDomain, errInfo := w.hops }
  else
    let span := !e.link || e.last
    let w1 := if span then
        { w with hops := n, total := w.total + e.len,
                 spans := if e.len = 0 then w.spans
                          else w.spans ++ [{ addr := e.addr, len := e.len, zero := e.zeroFill && !output }],
                 next := (w.next + 16) % 2 ^ 64 }
      else { w with hops := n, next := listAddr e.addr }
    if e.last then { w1 with done := true }
    else if n ≥ 256 then { w1 with done := true, err := stSgHopLimit, errInfo := 256 }
    else w1

/-! ### Wheel cells (R88) -/

/-- A cell of the wheel. -/
structure Cell where
  owner : Nat
  group : Nat
  unit : Nat
  valid : Bool
  deriving DecidableEq, Repr

/-- The fields of a 32-bit cell. -/
def parseCell (v : Nat) : Cell := { owner := bits v 7 0, group := bits v 11 8, unit := bits v 15 12, valid := bit v 31 }

end Sys2Proof.Machine
end

