-- ==== Sys2Proof/Machine/Ops.lean ====
section
/-! DEFINITION. The named operations over the state: accessors of every table, the settings of the dictionary, what the
Q9 sends to the host, the ends of jobs, fault events with their class responses, and mode changes. -/

namespace Sys2Proof.Machine

open Sys2Proof

/-! ### Settings of the dictionary -/

/-- The default of an entry (the tables of the owning chapters; R85 for the first queues, R407 for the classes, R403 for
the temperature limit). -/
def dfltOf (idx sub : Nat) : Int :=
  if 0x2400 ≤ idx ∧ idx ≤ 0x27FF ∧ sub = 1 then (if idx ≤ 0x240F then 0 else 0xFFFF)
  else if 0x2400 ≤ idx ∧ idx ≤ 0x27FF ∧ sub = 2 then (if idx ≤ 0x240F then ((idx - 0x2400 : Nat) : Int) else 0)
  else if 0x6800 ≤ idx ∧ idx ≤ 0x68BF then
    (match sub with
     | 0 => 7 | 1 => (faultRow (idx - 0x6800)).dflt | 2 => (faultRow (idx - 0x6800)).dflt
     | 3 => (faultRow (idx - 0x6800)).min | 4 => (faultRow (idx - 0x6800)).max | _ => 0)
  else if idx = 0x6030 ∧ sub = 1 then (if Config.industrial then 1250 else 1100)
  else if idx = 0x4800 ∧ sub = 0 then 0x21
  else if 0x4800 ≤ idx ∧ idx ≤ 0x48FF ∧ sub = 0 then 0x14
  else match family idx with
    | none => 0
    | some (b, _) => (((rowsOf b).find? (fun e => decide (e.sub ≤ sub) && decide (sub ≤ e.subHi))).map (·.dflt)).getD 0

/-- The key of an entry in the table of settings. -/
def entryKey (idx sub : Nat) : Nat := 256 * idx + sub

/-- The value of a numeric RW, RWC or RWL entry. -/
def State.cfgI (s : State) (idx sub : Nat) : Int := (tget s.settings (entryKey idx sub)).getD (dfltOf idx sub)

/-- The value of an unsigned entry. -/
def State.cfg (s : State) (idx sub : Nat) : Nat := (s.cfgI idx sub).toNat

/-- The settings of the engines' policy that differ from their defaults, which a job keeps from its admission: a change applies to
jobs admitted after it (R139, R164, R197, R220, R247, R276). -/
def State.policyNow (s : State) : List (Nat × Int) :=
  s.settings.filter (fun x => decide (0x3200 * 256 ≤ x.1) && decide (x.1 < 0x3260 * 256))

/-- A policy entry as a job found it at its admission. -/
def Job.cfg (j : Job) (idx sub : Nat) : Nat := ((tget j.policy (entryKey idx sub)).getD (dfltOf idx sub)).toNat

/-- The machine with the policy of a job. -/
def State.asAdmitted (s : State) (j : Job) : State := { s with settings := j.policy }

/-- Sets an entry; a value equal to its default is not listed. -/
def State.setCfg (s : State) (idx sub : Nat) (v : Int) : State :=
  { s with settings := if v = dfltOf idx sub then tdel s.settings (entryKey idx sub)
                       else tput s.settings (entryKey idx sub) v }

/-- Entry `sub` of queue `n` (R85). -/
def State.qcfg (s : State) (n sub : Nat) : Nat := s.cfg (0x2400 + n) sub

/-! ### Tables -/

/-- Queue `n`. -/
def State.queue (s : State) (n : Nat) : Queue := (tget s.rings.queues n).getD {}

/-- Sets queue `n`. -/
def State.setQueue (s : State) (n : Nat) (q : Queue) : State :=
  { s with rings := { s.rings with queues := if q = {} then tdel s.rings.queues n else tput s.rings.queues n q } }

/-- Function `f`: 0 the physical function, `d` the virtual function of domain `d` (R323). -/
def State.func (s : State) (f : Nat) : Func := (tget s.rings.funcs f).getD {}

/-- Sets function `f`. -/
def State.setFunc (s : State) (f : Nat) (v : Func) : State :=
  { s with rings := { s.rings with funcs := if v = {} then tdel s.rings.funcs f else tput s.rings.funcs f v } }

/-- The job in a slot. -/
def State.job? (s : State) (n : Nat) : Option Job := tget s.jobs.slots n

/-- Sets the job in a slot. -/
def State.setJob (s : State) (n : Nat) (j : Job) : State :=
  { s with jobs := { s.jobs with slots := tput s.jobs.slots n j } }

/-- Frees a slot. -/
def State.dropJob (s : State) (n : Nat) : State :=
  { s with jobs := { s.jobs with slots := tdel s.jobs.slots n } }

/-- Applies a change to the job in a slot, if there is one. -/
def State.onJob (s : State) (n : Nat) (f : Job → Job) : State :=
  match s.job? n with
  | some j => s.setJob n (f j)
  | none => s

/-- The key of a unit in the table of units. -/
def unitKey (cls u : Nat) : Nat := 16 * cls + u

/-- Unit `u` of class `cls` (R87). -/
def State.unit (s : State) (cls u : Nat) : EngineUnit := (tget s.jobs.units (unitKey cls u)).getD {}

/-- The cells of a unit are live in a beat: isolation, a mark as unusable and a return to use reach them from the next beat on (R99). -/
def EngineUnit.live (x : EngineUnit) (beat : Nat) : Bool :=
  if beat + 1 = x.liveUntil.1 then x.liveUntil.2 else x.state == 0

/-- A unit comes to another state of isolation in a beat. -/
def EngineUnit.turn (x : EngineUnit) (state beat : Nat) : EngineUnit := { x with state := state, liveUntil := (beat + 1, x.live beat) }

/-- A unit whose registers, operand memory and trap frames are zeroised (R392, R415). -/
def EngineUnit.zeroised (x : EngineUnit) : EngineUnit := { x with shares := [], frames := [] }

/-- Sets unit `u` of class `cls`. -/
def State.setUnit (s : State) (cls u : Nat) (v : EngineUnit) : State :=
  { s with jobs := { s.jobs with units := if v = {} then tdel s.jobs.units (unitKey cls u)
                                          else tput s.jobs.units (unitKey cls u) v } }

/-- The record of a domain; domain 0 is always active (R323). -/
def State.dom (s : State) (d : Nat) : DomRec := (tget s.domains d).getD (if d = 0 then { dstate := 1 } else {})

/-- Sets the record of a domain. -/
def State.setDom (s : State) (d : Nat) (r : DomRec) : State :=
  { s with domains := if r = (if d = 0 then { dstate := 1 } else {}) then tdel s.domains d else tput s.domains d r }

/-- The domain is active (R323). -/
def State.active (s : State) (d : Nat) : Bool := d == 0 || (s.dom d).dstate == 1

/-- The queue of a function with a local number (R52): the queue whose QP_DOMAIN and QP_LOCAL name it. -/
def State.queueOf (s : State) (fn k : Nat) : Option Nat :=
  (List.range 1024).find? (fun n => s.qcfg n 1 == fn && s.qcfg n 2 == k)

/-- A counter kept in a table, absent when 0. -/
def countOf (t : List (Nat × Nat)) (k : Nat) : Nat := (tget t k).getD 0

/-- Adds to a counter of a table; `w` is its width in bits. -/
def countAdd (t : List (Nat × Nat)) (k n w : Nat) : List (Nat × Nat) :=
  if bump w (countOf t k) n = 0 then tdel t k else tput t k (bump w (countOf t k) n)

/-- A copy is written: the other one becomes current, and the content that was current stays in the copy before it. Changes of one
beat are one write (R324). -/
def Copies.write {α : Type} (c : Copies α) (beat : Nat) (old : α) : Copies α :=
  if c.beat = some beat then c else { current := 1 - c.current, seq := c.seq + 1, beat := some beat, other := old }

/-- The current copy fails its check, so that the other one serves (R324). -/
def Copies.fallBack {α : Type} (c : Copies α) (old : α) : Copies α :=
  { current := 1 - c.current, seq := c.seq - 1, beat := none, other := old }

/-- The copies of a domain's record. -/
def State.domCopies (s : State) (d : Nat) : Copies DomRec :=
  (tget s.sec.copies d).getD { other := if d = 0 then { dstate := 1 } else {} }

/-- The record of a domain is written: the inactive copy takes it, and its wear is counted (R324, R468). -/
def State.writeDom (s : State) (d : Nat) (r : DomRec) : State :=
  let c := s.domCopies d
  let life := s.dict.life
  let s1 := { s with sec := { s.sec with copies := tput s.sec.copies d (c.write s.beat (s.dom d)) } }
  (if c.beat = some s.beat then s1
   else { s1 with dict := { s1.dict with life := { life with domainWrites := countAdd life.domainWrites d 1 64 } } }).setDom d r

/-- Every domain's epoch advances; the vault is empty (R334, R346). -/
def State.advanceAll (s : State) : State :=
  (List.range 256).foldl (fun a d =>
    a.writeDom d { a.dom d with epoch := bump 32 (a.dom d).epoch 1, epochSeq := if a.vault.roundOpen then a.vault.nextSeq + 1 else a.vault.nextSeq }) s

/-- The life-cycle record is written: the inactive copy takes it (R345). -/
def State.writeLc (s : State) (lc seed : Nat) : State :=
  let c := s.sec.lcCopies
  { s with lcState := lc, lcSeq := s.lcSeq + 1, seedGen := seed,
           sec := { s.sec with lcCopies := { current := 1 - c.current, seq := s.lcSeq + 1, beat := some s.beat,
                                             other := (s.lcState, s.lcSeq, s.seedGen) } },
           dict := { s.dict with life := { s.dict.life with lcWrites := s.dict.life.lcWrites + 1 } } }

/-- Adds to an event counter of the dictionary. -/
def State.count (s : State) (key n : Nat) : State := { s with counts := countAdd s.counts key n 64 }

/-- Masks drawn by a schedule (R111). -/
def State.useMasks (s : State) (n : Nat) : State :=
  { s with entropy := { s.entropy with maskBytes := bump 64 s.entropy.maskBytes n } }

/-- A fresh free value and the state after the draw. -/
def State.draw (s : State) : Nat × State := (s.fresh, { s with fresh := s.fresh + 1 })

/-- ID_PK_PQ and ID_PK_CL (R348, R354). -/
def idPkPq : Bytes := (List.range 2592).map Config.idPkPq

/-- The uncompressed point of the ECDSA P-384 half. -/
def idPkCl : Bytes := (List.range 97).map Config.idPkCl

/-- The device identity: SHA3-256 of the identity public keys (R348). -/
def deviceIdBytes : Bytes := sha3_256 (idPkPq ++ idPkCl)

/-- Measurement slot `n` is extended with a digest (R344). -/
def State.extend (s : State) (n : Nat) (d : Bytes) : State :=
  { s with measure := tput s.measure n (sha3_384 ((tget s.measure n).getD (zeros 48) ++ d)) }

/-! ### Generators (R363 to R366, R369, R370) -/

/-- The root DRBG generates (R363): instantiated, and last reseeded no more than ROOT_AGE_MAX beats ago. -/
def State.rootCan (s : State) : Bool :=
  s.entropy.rootUp && !s.entropy.rootStopped && decide (s.beat ≤ s.entropy.rootLast + 15625)

/-- The periodic reseed of the root DRBG is due (R363). -/
def State.rootPeriod (s : State) : Bool := s.entropy.rootStopped || decide (s.entropy.rootLast + 7813 ≤ s.beat)

/-- A conditioned block is free for a prediction-resistant request, behind a reseed of the root that is due, and none while the minimum
of sources is lost (R362, R367, R368). -/
def State.prBlock (s : State) : Bool :=
  s.entropy.state == 2 && s.entropy.rootDue.isNone && decide ((if s.rootPeriod then 1 else 0) < s.entropy.fifo.length)

/-- An instance: domain `d`, or 256 + i for internal instance i (R364). -/
def State.drbg (s : State) (i : Nat) : Drbg := (tget s.entropy.instances i).getD {}

/-- Sets an instance. -/
def State.setDrbg (s : State) (i : Nat) (v : Drbg) : State :=
  { s with entropy := { s.entropy with instances := if v = {} then tdel s.entropy.instances i
                                                    else tput s.entropy.instances i v } }

/-- The instance that serves for an internal instance: itself, or its stand-in (R377). -/
def State.serving (s : State) (i : Nat) : Nat := (tget s.entropy.standIn i).getD i

/-- An instance must take root output before it serves: it has reached RESEED_INTERVAL, or a new instantiation waits (R364, R365). -/
def State.mustReseed (s : State) (i : Nat) : Bool := (s.drbg i).anew || decide (s.cfg 0x5000 5 ≤ (s.drbg i).requests)

/-- An instance can serve a request (R365), and none before the start-up has ended (R371). -/
def State.canServe (s : State) (i : Nat) : Bool :=
  decide (2 ≤ s.entropy.state) && (s.drbg (s.serving i)).up && (!s.mustReseed (s.serving i) || s.rootCan)

/-- `n` bytes of root output (R363). -/
def State.rootBytes (s : State) (n : Nat) : Bytes × State :=
  (drbgOut s.entropy.root n, { s with entropy := { s.entropy with root := drbgAfter s.entropy.root n } })

/-- The personalisation string of an instance (R364). -/
def State.drbgLabel (s : State) (i : Nat) : Bytes :=
  if i < 256 then ascii "QDRB1".toList ++ [u8 i] ++ leBytes 4 (s.dom i).epoch else ascii "QIRB1".toList ++ [u8 (i - 256)]

/-- An instance takes 48 bytes of root output: it is reseeded, or instantiated where that is due; its count returns to 0 (R364,
R365). -/
def State.reseed (s : State) (i : Nat) : State :=
  let d := s.drbg i
  let (b, s1) := s.rootBytes 48
  s1.setDrbg i { up := true, requests := 0, anew := false, state := if d.anew then drbgNew b (s.drbgLabel i) else drbgUpdate d.state b }

/-- One request for `n` bytes served, behind a reseed where that is due (R365). -/
def State.serve (s : State) (i n : Nat) : Bytes × State :=
  let k := s.serving i
  let s1 := if s.mustReseed k then s.reseed k else s
  let d := s1.drbg k
  (drbgOut d.state n, s1.setDrbg k { d with requests := d.requests + 1, state := drbgAfter d.state n })

/-- An instance is instantiated anew: at once where the root DRBG generates, and otherwise before it serves again (R364). -/
def State.instantiate (s : State) (i : Nat) : State :=
  let s1 := s.setDrbg i { up := true, anew := true }
  if s.rootCan then s1.reseed i else s1

/-- A comparison fails for an internal instance at class S2 or graver: the first of instances 6 and 7 that stands in for no other
takes its place (R377). -/
def State.moveInstance (s : State) (i : Nat) : State :=
  let used := s.entropy.standIn.map (·.2)
  match ([262, 263].filter (fun k => !used.contains k && k != s.serving i)).head? with
  | some k => { s with entropy := { s.entropy with standIn := tput s.entropy.standIn i k } }
  | none => s

/-! ### The wheel image in force (R94, R103) -/

/-- The cell at position `p`, column `c` (R94, R103). -/
def WheelState.cell (w : WheelState) (p c : Nat) : Cell :=
  match w.image with
  | some b => parseCell (field b (0x400 + 64 * p + 4 * c) 4)
  | none =>
    let cc := classColumns (columnClass c)
    { owner := 0, group := 0, unit := (cc.2 * p + c - cc.1) % classUnits (columnClass c), valid := true }

/-- The group of a domain (R93, R94). -/
def WheelState.groupOf (w : WheelState) (d : Nat) : Nat :=
  match w.image with
  | some b => byteAt b (0x40 + d)
  | none => 0

/-- The owning group of a unit, 0xFF for none (R94). -/
def WheelState.unitOwner (w : WheelState) (cls u : Nat) : Nat :=
  match w.image with
  | some b => byteAt b (0x140 + classBase cls + u)
  | none => if u < classUnits cls then 0 else 0xFF

/-- TIER_COUNT of the image (R95). -/
def WheelState.tierCount (w : WheelState) : Nat :=
  match w.image with
  | some b => byteAt b 5
  | none => 8

/-- RATED_POWER of a tier, in 0.1 W (R95, R98). -/
def WheelState.rated (w : WheelState) (t : Nat) : Nat :=
  match w.image with
  | some b => field b (0x280 + 8 * t) 2
  | none => [320, 285, 249, 214, 178, 142, 107, 71].getD t 0

/-- The mask of a tier keeps the cell at (p, c) (R94, R98). -/
def WheelState.kept (w : WheelState) (t p c : Nat) : Bool :=
  match w.image with
  | some b => bit (field b (0x40400 + 0x2000 * t + 2 * p) 2) c
  | none => decide (p % 8 < 8 - t)

/-- GROUP_COUNT of the image. -/
def WheelState.groupCount (w : WheelState) : Nat :=
  match w.image with
  | some b => byteAt b 6
  | none => 1

/-- DRAM_SLICES of a group (R95, R103). -/
def WheelState.slices (w : WheelState) (g : Nat) : Nat :=
  match w.image with
  | some b => byteAt b (0x180 + 16 * g)
  | none => if g = 0 then 60 else 0

/-- HCACHE_UNITS of a group (R95, R103). -/
def WheelState.hcache (w : WheelState) (g : Nat) : Nat :=
  match w.image with
  | some b => field b (0x180 + 16 * g + 2) 2
  | none => if g = 0 then 256 else 0

/-- WHEEL_ID of the running image (R95, R103). -/
def WheelState.id (w : WheelState) : Nat :=
  match w.image with
  | some b => field b 8 8
  | none => 0

/-- The wheel position of the present beat (R87). -/
def State.position (s : State) : Nat := (((s.beat : Int) + s.wheel.offset) % 4096).toNat

/-- A unit counts as usable for a domain's job: its group owns it and it is not marked unusable (R92). -/
def State.usable (s : State) (d cls u : Nat) : Bool :=
  s.wheel.unitOwner cls u == s.wheel.groupOf d && (s.unit cls u).state != 3

/-- Some unit of a range of a class is usable for the domain (R92). -/
def State.anyUsable (s : State) (d cls lo hi : Nat) : Bool :=
  (List.range (hi + 1 - lo)).any (fun k => s.usable d cls (lo + k))

/-- The lane groups of a range that are usable for the domain (R181). -/
def State.usableGroups (s : State) (d lo hi : Nat) : Nat :=
  ((List.range (hi + 1 - lo)).filter (fun k => s.usable d cHawkmoth (lo + k))).length

/-! ### What the Q9 sends to the host -/

/-- Appends to the record of what has left the block. -/
def State.send (s : State) (m : Sent) : State := { s with rings := { s.rings with sent := s.rings.sent ++ [m] } }

/-- IDE_ENFORCE lets a function transfer: its kind is not enforced, or a Secure stream covers it (R488). -/
def State.ideOk (s : State) (f : Nat) : Bool :=
  !bit (s.cfg 0x9002 1) (if f = 0 then 0 else 1)
    || s.port.ide.any (fun x => x.2.state == 2 && decide (x.2.first ≤ f) && decide (f ≤ x.2.last))

/-- A memory request of a function reaches its control window: the function is there, and IDE_ENFORCE lets it (R477, R488). -/
def State.reachable (s : State) (f : Nat) : Bool := (f == 0 || (s.port.vfEnable && decide (f ≤ s.port.numVfs))) && s.ideOk f

/-- A configuration request is carried out: with the link up, and once step 6 of the start has ended; until then it is answered with
Configuration Request Retry Status (R441). In Lockdown configuration space stays up (R440). -/
def State.takesConfig (s : State) : Bool := s.link.up && (decide (6 < s.mode.step) || s.mode.mode == mLockdown)

/-- The endpoint can send a posted write of a function (R80, R488). -/
def State.canSend (s : State) (f : Nat) : Bool := s.link.up && (s.func f).bme && !(s.func f).d3hot && s.ideOk f

/-- The message of a vector: sent, or kept pending while the vector is masked (R73). -/
def State.signal (s : State) (f v : Nat) : State :=
  let g := s.func f
  if bit g.vecMask v then s.setFunc f { g with vecPending := setBit g.vecPending v } else s.send (.message f v)

/-- Sets a cause of a function event; a cause newly set asserts vector 0 (R76). -/
def State.cause (s : State) (f b : Nat) : State :=
  let g := s.func f
  if bit g.status b then s else (s.setFunc f { g with status := setBit g.status b }).signal f 0

/-! ### Monitors (R466, R467) -/

/-- Bin of a monitor value (R466). -/
def monitorBin (u : Nat) : Nat := if u = 0 then 0 else min 31 (Nat.log2 u + 1)

/-- One sample of a monitor (R466). -/
def Monitor.sample (m : Monitor) (value : Int) (u : Nat) : Monitor :=
  { m with samples := m.samples + 1, min := if m.samples = 0 then value else Min.min m.min value,
           max := if m.samples = 0 then value else Max.max m.max value,
           bins := tput m.bins (monitorBin u) (holdAt 32 (countOf m.bins (monitorBin u) + 1)) }

/-- A record with the samples of its last beat taken in. -/
def Monitor.settled (m : Monitor) : Monitor := { m.today.foldl (fun a x => a.sample x.1 x.2) m with today := [] }

/-- The monitor of a dictionary key. -/
def State.monitor (s : State) (key : Nat) : Monitor := (tget s.dict.monitors key).getD {}

/-- Sets the monitor of a dictionary key. -/
def State.setMonitor (s : State) (key : Nat) (m : Monitor) : State :=
  { s with dict := { s.dict with monitors := tput s.dict.monitors key m } }

/-- The samples of a monitor in the present beat. -/
def State.samplesNow (s : State) (key : Nat) : List (Int × Nat) := if (s.monitor key).beat = s.beat then (s.monitor key).today else []

/-- Samples the monitor of a dictionary key (R466). -/
def State.sampleMonitor (s : State) (key : Nat) (value : Int) (u : Nat) : State :=
  let m := s.monitor key
  s.setMonitor key (if m.beat = s.beat then { m with today := m.today ++ [(value, u)] }
    else { m.settled with beat := s.beat, today := [(value, u)] })

/-- MON_CLEAR empties a monitor at the start of its beat, so that the samples of the beat fall into the emptied record (R467). -/
def State.clearMonitor (s : State) (key : Nat) : State :=
  s.setMonitor key { clearBeat := s.beat, beat := s.beat, today := s.samplesNow key }

/-- A queue's latency record is emptied with what the beat has brought, as the queue changes its owner (R467). -/
def State.emptyMonitor (s : State) (key : Nat) : State := s.setMonitor key { clearBeat := s.beat }

/-- What a read of a monitor shows: the record as it stood at the end of one beat, the last that has ended (R467). -/
def State.monitorShown (s : State) (key : Nat) : Monitor :=
  if (s.monitor key).beat < s.beat then (s.monitor key).settled else s.monitor key

/-- Occupancy of the engine classes over the wheel revolution that ends (R466). -/
def State.sampleOccupancy (s : State) : State :=
  let s1 := ((List.range 8).drop 1).foldl (fun a c =>
    a.sampleMonitor (entryKey 0x7020 c) (countOf s.dict.busyBeats c) (countOf s.dict.busyBeats c)) s
  { s1 with dict := { s1.dict with busyBeats := [] } }

/-! ### Faults: classes, records and logs (R404 to R413) -/

/-- Calendar seconds, zero while the calendar is not valid (R412). -/
def State.calSec (s : State) : Nat := if s.dict.calValid then s.dict.calSeconds else 0

/-- The class of a source, the graver copy where the two disagree (R408, R411). -/
def State.classOf (s : State) (src : Nat) : Nat :=
  max ((s.cfgI (0x6800 + src) 1).toNat) (countOf s.fault.shadowClasses src)

/-- The temperature of the hotter die sensor in 0.1 °C (R468), which retraining follows (R293, log 13). -/
def State.dieTemp (s : State) : Int := max s.ao.dieTempA s.ao.dieTempB

/-- The main die is powered. -/
def State.mainOn (s : State) : Bool := s.mode.mode != mDormant

/-- The calendar's fraction in 1/32,768 s, zero while the calendar is not valid (R398, R469). -/
def DictState.frac (d : DictState) : Nat := if d.calValid then min 32767 (d.calFrac + d.calTicks) else 0

/-- The bytes of an AO log entry before its tag (R398). -/
def aoEntry (s : State) (src action seq : Nat) : Bytes :=
  leBytes 6 s.calSec ++ leBytes 2 (s.dict.frac + (if s.ao.supplyVbat then 32768 else 0)) ++ [u8 src, u8 action] ++ leBytes 2 seq

/-- The tag of the newest entry, four zero bytes before the first (R399). -/
def lastTag (log : List (Nat × Bytes)) : Bytes := ((log.getLast?).map (fun e => slice e.2 12 4)).getD (zeros 4)

/-- Writes and seals an entry of the AO event log (R398, R399). -/
def State.aoLog (s : State) (src action : Nat) : State :=
  let seq := bump 32 s.ao.logSeq 1
  let e := aoEntry s src action seq
  let tag := primOut .cmac [s.ao.logKey, e ++ leBytes 4 seq ++ lastTag s.ao.log] 4
  let kept := if s.ao.log.length < 256 then s.ao.log else s.ao.log.drop 1
  { s with ao := { s.ao with log := kept ++ [(seq, e ++ tag)], logSeq := seq } }

/-- Erases the root seed (R392, R395): both seeds, the latch, and CHECK is written again. -/
def State.eraseSeed (s : State) : State :=
  { s with ao := { s.ao with rootSeed := zeros 48, nextSeed := zeros 48, intruded := true,
                             erasedOff := s.ao.erasedOff || !s.mainOn, checkErr := 0 } }

/-- Which job, unit and detail an event names (R405, R412). -/
structure Named where
  slot : Option Nat := none
  unit : Option (Nat × Nat) := none
  detail : Nat := 0
  forced : Bool := false
  replayed : Bool := false
  /-- the calendar time of an entry that is replayed (R400) -/
  time : Option Nat := none
  /-- the class that a rule gives the event whatever its source's own (R411) -/
  acts : Option Nat := none
  deriving DecidableEq, Repr

/-- The class an event takes effect with (R393, R405, R411): `floor` is the class a rule imposes. -/
def State.effective (s : State) (src floor : Nat) (n : Named) : Nat :=
  let c0 := n.acts.getD (max (s.classOf src) floor)
  let c1 := if s.mode.pwrFail && (src == 0x20 || src == 0x21 || src == 0x2E || src == 0x2F) then min c0 4 else c0
  let c2 := if c1 = 2 && n.unit.isNone then 1 else c1
  if c2 = 1 && n.slot.isNone then 0 else c2

/-- The 32 bytes of a fault record (R412). -/
def FaultRecord.bytes (r : FaultRecord) : Bytes :=
  leBytes 8 r.beat ++ [u8 r.source, u8 r.cls, u8 r.rflags, u8 r.engineClass, u8 r.unit, u8 r.domain]
    ++ leBytes 2 r.queue ++ leBytes 2 r.tag ++ zeros 2 ++ leBytes 4 r.detail ++ leBytes 6 r.calSec ++ leBytes 2 r.seq

/-- The records of this beat that the ring in MRAM holds first: one for each event of class S3 or graver (R413). -/
def FaultState.gravest (f : FaultState) (beat : Nat) : Nat :=
  if f.eventsBeat = beat then (f.events.filter (fun e => decide (3 ≤ e.2.1))).length else 0

/-- A change to the first `n` records of a ring. -/
def markFirst (f : FaultRecord → FaultRecord) (n : Nat) (l : List FaultRecord) : List FaultRecord := (l.take n).map f ++ l.drop n

/-- Writes the records of an event: the fault record log, and for class S3 or graver the ring in MRAM
(R410, R412, R413); no MRAM write starts once PWR_FAIL_N is asserted (R317). -/
def State.logFault (s : State) (src cls : Nat) (n : Named) : State :=
  let union := s.fault.eventsBeat == s.beat && !s.fault.events.isEmpty
  let job := n.slot.bind s.job?
  let seq := bump 32 s.fault.flogSeq 1
  let r : FaultRecord :=
    { beat := s.beat, source := src, cls := cls,
      rflags := flag n.forced + 2 * flag n.replayed + 4 * flag union + 8 * flag job.isSome + 16 * flag n.unit.isSome,
      engineClass := (n.unit.map (·.1)).getD 0, unit := (n.unit.map (·.2)).getD 0,
      domain := (job.map (·.domain)).getD 0, queue := (job.map (·.queue)).getD 0, tag := (job.map (·.hdr.tag)).getD 0,
      detail := n.detail, calSec := n.time.getD s.calSec, seq := seq % 65536 }
  let mark := fun (x : FaultRecord) => if union && x.beat == s.beat && !bit x.rflags 2 then { x with rflags := x.rflags + 4 } else x
  let kept := if s.mode.pwrFail then s.fault.mlog else markFirst mark (s.fault.gravest s.beat) s.fault.mlog
  let keep := decide (3 ≤ cls) && !s.mode.pwrFail
  let fault := { s.fault with
    flog := (r :: s.fault.flog.map mark).take 1024, flogSeq := seq,
    mlog := if keep then (r :: kept).take 64 else kept,
    mlogSeq := if keep then bump 32 s.fault.mlogSeq 1 else s.fault.mlogSeq,
    counts := countAdd s.fault.counts src 1 32, lastBeats := tput s.fault.lastBeats src s.beat,
    events := (if s.fault.eventsBeat = s.beat then s.fault.events else []) ++ [(src, cls, n.slot)],
    eventsBeat := s.beat, alarmOut := s.fault.alarmOut || decide (cls ≥ 3) }
  let life := { s.dict.life with events := tput s.dict.life.events src (holdAt 32 (countOf s.dict.life.events src + 1)) }
  { s with fault := fault, dict := { s.dict with life := life } }

/-! ### The end of a job (R13, R24, R40, R51) -/

/-- Kinds of holds: lanes of a lane group (R108, R223), the lane of a lane job (R250), slices of vault DRAM bandwidth (R212),
a second unit (R162), and the mark of a job that waits for room in the copy area (R309). -/
abbrev hkLanes : Nat := 1
abbrev hkLaneJob : Nat := 2
abbrev hkDram : Nat := 3
abbrev hkUnit : Nat := 4
abbrev hkCopy : Nat := 5
abbrev hkKeyAes : Nat := 6

/-- A unit that the job of a slot holds begins its wipe at a boundary, if it has not begun one (R23, R91). -/
def State.startWipe (s : State) (slot : Nat) (u : Nat × Nat) (boundary : Nat) : State :=
  let x := s.unit u.1 u.2
  if x.busy && x.holder == slot then
    s.setUnit u.1 u.2 { x with wipeEnd := if x.wipeEnd = 0 then boundary + 2 else min x.wipeEnd (boundary + 2) }
  else s

/-- Shared resources of a holder are given back at a boundary; the lane of a lane job is wiped first (R19, R91, R250). -/
def State.freeHolds (s : State) (slot boundary : Nat) : State :=
  let kept := s.jobs.holds.filter (fun h => decide (h.slot ≠ slot) || decide (h.kind = hkLaneJob))
  { s with jobs := { s.jobs with
      holds := kept.map (fun h => if h.slot = slot then { h with till := min h.till (boundary + 2) } else h) } }

/-- A stream context is discarded (R51, R271): what STREAM_DISCARD without unbinding leaves. -/
def State.dropStream (s : State) (d id : Nat) : State :=
  match tget s.streams (65536 * d + id) with
  | some c => { s with streams := tput s.streams (65536 * d + id) c.discarded }
  | none => s

/-- The context that STREAM_INIT names: parameters of its header and body (R271). -/
def initStream (h : Header) (p : ParamBlock) (aad : Bytes) : Stream :=
  { pset := h.pset, kind := field p.body 0 2, handle := h.keyHandle, body := p.body.drop 4, aad := aad }

/-- What a stream job that ends without release leaves of a bound context: after an abort, or a failure once its schedule has started,
nothing of the computation, and otherwise all of it. A STREAM_INIT leaves its own parameters for the computation that the next job
starts (R51, R271, R272). -/
def State.endStream (s : State) (j : Job) (lost : Bool) : State :=
  let key := 65536 * j.domain + j.hdr.streamId
  let own := initStream j.hdr j.pb j.aad
  match tget s.streams key with
  | none => s
  | some c =>
    let c1 := if j.hdr.opcode ≠ 0x1201 then (if lost then c.discarded else c)
      else if lost ∨ (!c.active ∧ { c with aad := j.aad } = own) then own
      else c
    { s with streams := tput s.streams key c1 }

/-- The operations of the 0x12xx group. -/
def Job.isStream (j : Job) : Bool := j.hdr.opcode / 256 == 0x12

/-- Mask bytes that one attempt block draws (R111, R142): a signing job is known by its block length P. -/
def blockMasks (p : Nat) : Nat :=
  match p with
  | 72 => 24576 | 96 => 32768 | 140 => 45056 | 292 => 16384 | 586 => 32768 | _ => 0

/-- A job that begins an attempt block in a beat; after the passing block none begins (R111, R130). -/
def Job.beginsBlock (j : Job) (beat : Nat) : Bool :=
  j.phase == 5 && j.blockLen != 0 && decide (j.firstBlock ≤ beat) && (beat - j.firstBlock) % j.blockLen == 0
    && (match j.result with
      | some r => decide ((beat - j.firstBlock) / j.blockLen < r.blocks)
      | none => decide ((beat - j.firstBlock) / j.blockLen < j.blockMax))

/-- The attempt blocks that begin in this beat draw their masks. R111 fixes the number for each block and says of the beats only that
they are fixed: the model takes a block's first beat (DESIGN CHOICE; log 69). -/
def State.drawBlockMasks (s : State) : State :=
  s.useMasks ((s.jobs.slots.filter (fun x => x.2.beginsBlock s.beat)).map (fun x => blockMasks x.2.blockLen)).sum

/-- Attempt blocks run, released or not (R139, R164). -/
def State.countBlocks (s : State) (j : Job) : State :=
  if j.blockLen = 0 then s
  else s.count (if j.cls = cSkipper then entryKey 0x3211 2 else entryKey 0x3201 2) j.blocks

/-- A transfer that the queue's function may not make: the queue halts at the end of the beat (R80, R480). -/
def State.owe (s : State) (n cause addr : Nat) : State :=
  { s with rings := { s.rings with owed := s.rings.owed ++ [(n, (cause, addr))] } }

/-- The reads of a job, or of a queue and its jobs, are given up, and their retries with them (R50, R79). -/
def State.dropReads (s : State) (gone : DmaRead → Bool) : State :=
  { s with rings := { s.rings with retries := s.rings.retries.filter (fun x => !gone x.read),
                                   issued := s.rings.issued.filter (fun x => !gone x.1) } }

/-- A read is issued in this beat (R79, R479). -/
def State.issue (s : State) (r : DmaRead) : State :=
  { s with rings := { s.rings with issued := s.rings.issued.filter (fun x => x.1 != r) ++ [(r, s.beat)] } }

/-- The beat in which a read that is under way was issued. -/
def State.issuedAt (s : State) (r : DmaRead) : Option Nat := (s.rings.issued.find? (fun x => x.1 == r)).map (·.2)

/-- The read has failed and waits for its retry (R79). -/
def State.waitsRetry (s : State) (r : DmaRead) : Bool := s.rings.retries.any (fun x => x.read == r && x.waiting)

/-- Reads that are called for, each with its address, are issued, but for those that wait for a retry; where the function may issue no
request the queue halts with the address of the first, without retries (R480). -/
def State.askAll (s : State) (n : Nat) (want : List (DmaRead × Nat)) : State :=
  match want.filter (fun x => (s.issuedAt x.1).isNone && !s.waitsRetry x.1) with
  | [] => s
  | x :: r => if s.canSend (s.qcfg n 1) then (x :: r).foldl (fun a y => a.issue y.1) s else s.owe n 1 x.2

/-- The read belongs to the job in a slot. -/
def readOfJob (slot : Nat) : DmaRead → Bool
  | .entry k _ => k.val == slot
  | .data k _ => k.val == slot
  | _ => false

/-- The read belongs to a queue: its headers and parameter blocks. -/
def readOfQueue (n : Nat) : DmaRead → Bool
  | .header q => q.val == n
  | .block q _ => q.val == n
  | _ => false

/-- An index or counter value assigned to a job that ends without release is lost (R197, R276). -/
def State.countLost (s : State) (j : Job) : State :=
  if j.counter.isNone then s
  else if j.hdr.opcode / 256 == 5 || j.hdr.opcode / 256 == 6 then s.count (entryKey 0x3221 5) 1
  else s.count (entryKey 0x3251 5) 1

/-- Operation numbers of the internal jobs, which no code of R38 takes: an expansion run (R18) and a rebuild (R180). -/
abbrev opExpansion : Nat := 0x10000
abbrev opRebuild : Nat := 0x10001

/-- The job runs as slices of subtree tasks (R181): GENERATE of a stateful class, or a rebuild. -/
def Job.sliced (j : Job) : Bool :=
  j.hdr.opcode == opRebuild || (j.hdr.opcode == 0x1001 && (j.pb.cls == 5 || j.pb.cls == 6))

/-- Units that a job keeps from others: its own, the second unit of a composite schedule, and the lane groups of running
slices (R162, R181). -/
def Job.unitsHeld (j : Job) : List (Nat × Nat) :=
  (if 4 ≤ j.phase ∧ j.phase ≤ 5 ∧ !j.sliced then j.unit.toList else [])
    ++ j.unit2.toList ++ j.slices.map (fun x => (3, x.1))

/-- Where bytes go that follow `skip` bytes already written to the spans of a buffer (R35). -/
def cutSpans : List Span → Nat → Bytes → List (Nat × Bytes)
  | [], _, _ => []
  | sp :: r, skip, data =>
    if data.isEmpty then []
    else if sp.len ≤ skip then cutSpans r (skip - sp.len) data
    else (sp.addr + skip, data.take (sp.len - skip)) :: cutSpans r 0 (data.drop (sp.len - skip))

/-- A piece of a buffer among others, in address order. -/
def putPiece (x : Nat × Bytes) : List (Nat × Bytes) → List (Nat × Bytes)
  | [] => [x]
  | y :: r => if x.1 ≤ y.1 then x :: y :: r else y :: putPiece x r

/-- Zeros over the first `n` bytes of a buffer, in address order (R265). -/
def zeroPieces (spans : List Span) (n : Nat) : List (Nat × Bytes) := (cutSpans spans 0 (zeros n)).foldr putPiece []

/-- Output bytes of a job leave for the host (R23). -/
def State.sendOutput (s : State) (slot : Nat) (l : List (Nat × Bytes)) : State :=
  l.foldl (fun a x => a.send (.output slot x.1 x.2)) s

/-- The plaintext that a stream-release decryption has written is overwritten with zeros and reported as exposed (R51, R265).
Where the endpoint cannot send, the refused write halts the queue at the end of the beat (R80). -/
def State.zeroExposed (s : State) (slot : Nat) : State :=
  match s.job? slot with
  | none => s
  | some j =>
    if j.release ≠ 2 ∨ j.written = 0 then s
    else
      let s1 := (s.setJob slot { j with exposed := j.written }).count (entryKey 0x3251 3) (holdAt 32 j.written)
      let pieces := zeroPieces j.outWalk.spans j.written
      if s.canSend j.domain then s1.sendOutput slot pieces else s1.owe j.queue 2 ((pieces.head?.map (·.1)).getD j.hdr.outAddr)

/-- Expanded material is no longer kept for the job of a slot (R18). -/
def State.dropWaiting (s : State) (slot : Nat) : State :=
  { s with vault := { s.vault with expansions := s.vault.expansions.map (fun e =>
      if e.waiting = some slot then { e with waiting := none } else e) } }

/-- The vault commit grant or request of a job ends with it, unless its slot write is under way (R313). -/
def State.dropCommit (s : State) (slot : Nat) : State :=
  if (s.vault.writing.bind (·.job)) = some slot then s
  else { s with maint := { s.maint with
    running := s.maint.running.filter (fun r => !(r.1 == maCommit && r.2.1 == slot)),
    queue := s.maint.queue.filter (fun r => !(r.act == maCommit && r.who == slot)) } }

/-- A window of a signing job runs in a beat: its partner verifies, or wipes what it verified (R131, R132). -/
def Job.windowRuns (j : Job) (beat : Nat) : Bool :=
  j.partner.isSome && j.blockLen != 0 && (match j.result with
    | some r => r.blocks != 0 && decide (j.firstBlock + j.blockLen * r.blocks ≤ beat)
        && decide (beat < j.firstBlock + j.blockLen * r.blocks + j.winLen)
    | none => false)

/-- A job in phase 1 to 6 ends without release, with its status and detail (R13, R24, R40, R51): BEATS counts to the
boundary that ends this beat; every unit it holds is wiped, and reservation and quota are returned. -/
def State.endOwn (s : State) (slot st info boundary : Nat) : State :=
  match s.job? slot with
  | none => s
  | some j =>
    let units := j.unitsHeld
    let held := !units.isEmpty || s.jobs.units.any (fun x => x.2.busy && x.2.holder == slot)
    let j' := { j with status := some st, info := info, endBeat := boundary, phase := if held then 8 else 9,
                       wiped := !held, newIndex := none, newSpan := 0, quotaUnits := 0, commit := (0, 0), scratch := [], stagingUse := 0, windowKiB := 0,
                       wants := false, result := none, tasks := [], suspended := [], saved := [],
                       partner := if j.windowRuns s.beat then j.partner else none, blocks := if j.blockLen = 0 then j.blocks
                                 else min j.blocks ((s.beat + 1 - j.firstBlock) / j.blockLen) }
    let s1 := ((((((s.setJob slot j').freeHolds slot boundary).countBlocks j').countLost j).zeroExposed slot).dropWaiting slot).dropCommit slot
    let s2 := units.foldl (fun a u => a.startWipe slot u boundary) (s1.dropReads (readOfJob slot))
    if j.isStream then s2.endStream j (st == stAborted || st == stAbortedAlarm || decide (5 ≤ j.phase) || j.chunk != 0) else s2

/-- An internal job stops: its slot is freed and its units are wiped (R18, R180). -/
def State.stopInternal (s : State) (slot boundary : Nat) : State :=
  match s.job? slot with
  | none => s
  | some j => ((j.unitsHeld.foldl (fun a u => a.startWipe slot u boundary) s).freeHolds slot boundary).dropJob slot

/-- The unit on which the class check of an envelope runs becomes the envelope's own, so that its completion waits for the
wipe of that unit (R23, R342). -/
def State.takeCheckUnit (s : State) (slot : Nat) : State :=
  match s.job? slot, s.job? (4096 + slot) with
  | some j, some e =>
    match e.unit with
    | some u =>
      if j.phase = 6 ∧ (s.unit u.1 u.2).busy ∧ (s.unit u.1 u.2).holder = 4096 + slot then
        (s.setUnit u.1 u.2 { s.unit u.1 u.2 with holder := slot }).setJob slot { j with unit2 := some u }
      else s
    | none => s
  | _, _ => s

/-- A job ends without release. An expansion that runs for it stops with it, and an expansion that fails ends the job that
waits for it, as does any end of the class check of an envelope (R18, R24, R342). -/
def State.endJob (s : State) (slot st info boundary : Nat) : State :=
  if slot < 4096 then ((s.takeCheckUnit slot).stopInternal (4096 + slot) boundary).endOwn slot st info boundary
  else
    let checked := ((s.job? (slot - 4096)).map (fun j => j.phase == 6)).getD false
    let s1 := (if checked then s.takeCheckUnit (slot - 4096) else s).stopInternal slot boundary
    if slot < 8192 && (st == stEngineFault || checked) then s1.endOwn (slot - 4096) st info boundary else s1

/-- A job that has not yet been decided. -/
def Job.live (j : Job) : Bool := j.phase ≤ 6

/-- What meets a job (R24, R79, R438, R440). -/
inductive Meet where
  | abort
  | alarm
  | quiesce
  | lockdown (src : Nat)
  | halt (addr : Nat)
  deriving DecidableEq, Repr

/-- The job takes its input in more than one chunk (R267). -/
def Job.inChunks (j : Job) : Bool :=
  decide (65536 < j.hdr.inLen) && (j.isStream || (decide (0x0C ≤ j.hdr.opcode / 256) && decide (j.hdr.opcode / 256 ≤ 0x0E)))

/-- A job past release loses its own status to an alarm or to Lockdown, and a stream job its context (R24, R51, R440). -/
def State.overrule (s : State) (slot : Nat) (j : Job) (st info : Nat) : State :=
  let s1 := s.setJob slot { j with status := some st, info := info }
  if j.isStream then s1.dropStream j.domain j.hdr.streamId else s1

/-- The outcome of an event that meets the job in a slot (R24). A bus error is reported in staging, also in that of the next chunk, or
at the boundary of the running chunk, and ends at once any other job that R79 finds in its schedule (R46). A job that passes its checks
and is ended in its own admission beat reports BEATS 1: R13 leaves open whether its words on a job that ends at admission take it in
(DESIGN CHOICE; log 68). -/
def State.meetJob (s : State) (slot : Nat) (m : Meet) : State :=
  match s.job? slot with
  | none => s
  | some j =>
    match m with
    | .abort => if j.live then s.endJob slot stAborted 0 (s.beat + 1) else s
    | .quiesce => if j.phase ≤ 4 then s.endJob slot stQuiesced 0 (s.beat + 1) else s
    | .halt a =>
      if !j.live then s
      else if j.phase ≤ 4 || j.inChunks then
        s.setJob slot { j with dmaErr := some (j.dmaErr.getD a) }
      else s.endJob slot stDmaError a (s.beat + 1)
    | .alarm =>
      if j.live then s.endJob slot stAbortedAlarm 0 (s.beat + 1) else s.overrule slot j stAbortedAlarm 0
    | .lockdown src =>
      if j.live then s.endJob slot stLockedDown src (s.beat + 1) else s.overrule slot j stLockedDown src

/-- The same event for every job of a list of slots. -/
def State.meetAll (s : State) (slots : List Nat) (m : Meet) : State := slots.foldl (fun a n => a.meetJob n m) s

/-- The slots whose job satisfies a test. -/
def State.slotsWhere (s : State) (p : Job → Bool) : List Nat := (s.jobs.slots.filter (fun x => p x.2)).map (·.1)

/-- A job that waits in phase 3 with no usable unit left ends with BLOCK_UNUSABLE (R46, R92). A recovery job of the Muntjac core
waits for no engine unit (R274). -/
def State.endStranded (s : State) : State :=
  (s.slotsWhere (fun j => j.phase == 3 && j.cls != 0 && decide (j.cls ≤ 7) && !s.anyUsable j.domain j.cls j.unitLo j.unitHi)).foldl
    (fun a n => a.endJob n stBlockUnusable 0 (s.beat + 1)) s

/-! ### Mode changes (R437, R450) -/

/-- Some engine unit is marked unusable (R404, R432). -/
def State.degraded (s : State) : Bool := s.jobs.units.any (fun x => x.2.state == 3)

/-- Service or Degraded service, as the units require (R437). -/
def State.serviceMode (s : State) : Nat := if s.degraded then mDegraded else mService

/-- The 32 bytes of a device status record (R450). -/
def State.statusRecord (s : State) (cause src cls : Nat) (final : Bool) (prev : Nat) : Bytes :=
  leBytes 8 s.beat ++ [u8 s.mode.mode, u8 prev, u8 s.lcState, u8 cause, u8 src, u8 cls]
    ++ leBytes 2 (bump 16 s.mode.dsrSeq 1)
    ++ [u8 (flag s.degraded + 2 * flag s.fault.alarmOut + 4 * flag s.vault.commitReq + 8 * flag final)]
    ++ zeros 7 ++ leBytes 6 s.calSec ++ zeros 2

/-- The domains that a device status record goes to (R450). -/
def State.statusDomains (s : State) (cause cls : Nat) : List Nat :=
  if cause = 3 ∨ (cause = 2 ∧ cls < 3) then [0] else (List.range 256).filter s.active

/-- A device status record while the physical function is in D3hot: a PME message goes out and WAKE# is asserted (R480). -/
def State.wakeHost (s : State) : State :=
  if (s.func 0).d3hot then (State.send { s with port := { s.port with wakeOut := true } } (.pcie 0 [])) else s

/-- The record of an event of an earlier beat (R440, R450). -/
def State.statusAt (s : State) (beat cause src cls : Nat) (final : Bool) (prev : Nat) : Bytes :=
  ({ s with beat := beat } : State).statusRecord cause src cls final prev

/-- Writes a device status record: DSR_LAST, then one write to each domain's DSR_ADDR (R405, R450). -/
def State.writeRecord (s : State) (rec0 : Bytes) (cause cls : Nat) (final : Bool) : State :=
  if s.mode.dsrFinal then s else
    let hidden := rec0.set 12 0xFF#8
    let s1 := { s with mode := { s.mode with dsrLast := rec0, dsrSeq := bump 16 s.mode.dsrSeq 1, dsrFinal := final } }
    (s1.statusDomains cause cls).foldl (fun a d =>
      let addr := countOf s.mode.dsrAddr d
      if addr ≠ 0 && (s.func d).bme then
        ((if a.canSend d then a.send (.status d addr (if d ≠ 0 ∧ (cause = 2 ∨ cause = 4) then hidden else rec0)) else a)).cause d 1
      else a) s1.wakeHost

/-- Writes the device status record of an event of this beat. -/
def State.writeStatus (s : State) (cause src cls : Nat) (final : Bool) (prev : Nat) : State :=
  s.writeRecord (s.statusRecord cause src cls final prev) cause cls final

/-- The mode becomes `m` in this beat (R437); QUIESCE_KIND and the mode come from are the caller's. -/
def State.setMode (s : State) (m : Nat) : State :=
  if m = s.mode.mode then s else
    { s with mode := { s.mode with mode := m, prev := s.mode.mode, modeBeat := s.beat, changes := bump 32 s.mode.changes 1,
                                   serviceBeat := if (m = mService ∨ m = mDegraded) ∧ s.mode.serviceBeat = 0 then s.beat
                                                  else s.mode.serviceBeat,
                                   idleBeats := if s.mode.mode = mIdle then s.mode.idleBeats + (s.beat - s.mode.modeBeat)
                                                else s.mode.idleBeats } }

/-- A mode change with its own device status record (R437, R450). -/
def State.changeMode (s : State) (m : Nat) : State :=
  if m = s.mode.mode then s else (s.setMode m).writeStatus 1 0xFF 0 false s.mode.mode

/-- On entry into Quiesce each job in flight meets the S3 row of R24 (R438). -/
def State.drain (s : State) (kind : Nat) : State :=
  s.meetAll (s.slotsWhere (fun j => !(kind == 3 && j.phase == 3 && (j.hdr.opcode == 0x1302 || j.hdr.opcode == 0x1303)))) .quiesce

/-- Enters Quiesce for a reason (R437 to R439), without a device status record. -/
def State.quiesceFor (s : State) (kind : Nat) : State :=
  { (s.setMode mQuiesce) with
    mode := { (s.setMode mQuiesce).mode with quiesceKind := kind, cameFrom := if s.mode.mode = mIdle then s.mode.cameFrom else s.mode.mode,
                                             drained := false, wakeBeat := none } }.drain kind

/-- What zeroisation leaves of a job: no key, draw, input or result (R392). -/
def Job.zeroised (j : Job) : Job :=
  { j with key := none, aux := none, rand := [], input := [], aad := [], scratch := [], result := none, saved := [], wiped := true,
           phase := if j.status.isSome then 9 else j.phase }

/-- A Herd session without its keys (R392). -/
def Peer.zeroised (p : Peer) : Peer :=
  { p with keyTx := [], keyRx := [], saltTx := [], saltRx := [], newKeys := none, draw := [] }

/-- An SPDM transport without the secrets of its sessions (R392). -/
def Spdm.zeroised (x : Spdm) : Spdm := { x with sessions := x.sessions.map (fun y => (y.1, { y.2 with secret := [] })) }

/-- The generators without Key and V and without the mask sponges (R392). -/
def EntropyState.zeroised (e : EntropyState) : EntropyState :=
  { e with root := [], instances := e.instances.map (fun x => (x.1, { x.2 with state := [] })),
           masks := e.masks.map (fun x => (x.1, { x.2 with sponge := [] })) }

/-- Every key-bearing register is clamped, and every unit and memory of keys is zeroised (R392, R440): those of the jobs, the stream
contexts, the expanded keys, the line key, the generators and the sessions. A journal slot write goes on (R317). -/
def State.clamp (s : State) : State :=
  { s with ao := { s.ao with clamped := true },
           jobs := { s.jobs with
             units := s.jobs.units.map (fun x => (x.1, { x.2.zeroised with busy := false, wipeEnd := 0 })),
             slots := s.jobs.slots.map (fun x => (x.1, x.2.zeroised)), holds := [] },
           streams := s.streams.map (fun x => (x.1, x.2.discarded)),
           vault := { s.vault with lineKey := zeros 32, expansions := [] },
           entropy := s.entropy.zeroised,
           herd := { s.herd with peers := s.herd.peers.map (fun x => (x.1, x.2.zeroised)) },
           port := { s.port with spdm := s.port.spdm.map (fun x => (x.1, x.2.zeroised)) } }

/-- The functions that exist: the physical function and those that a domain's state or an enable has set up. -/
def allFuncs : List Nat := List.range 256

/-- The final record of a Lockdown is written once every job that it ended has its completion, and vector 0 of every function is
signalled (R440). -/
def State.finishLockdown (s : State) : State :=
  match s.mode.finalDue with
  | none => s
  | some (beat, src, cls, prev) =>
    if s.jobs.slots.isEmpty then
      let s1 := { s with mode := { s.mode with finalDue := none } }
      allFuncs.foldl (fun a f => a.signal f 0) (s1.writeRecord (s1.statusAt beat (if cls = 5 then 4 else 2) src cls true prev)
        (if cls = 5 then 4 else 2) cls true)
    else s

/-- The lowest-numbered source of the gravest class among this beat's events (R410). -/
def FaultState.lowest (f : FaultState) : Nat :=
  let top := f.events.foldl (fun m e => max m e.2.1) 0
  (f.events.filter (fun e => e.2.1 == top)).foldl (fun m e => min m e.1) 255

/-- Enters Lockdown (R440): jobs end with ABORTED_ALARM when the event set holds an S5 event and otherwise with
LOCKED_DOWN, units are wiped, queued maintenance is dropped, and the final record follows the completions. -/
def State.lockdown (s : State) (src cls : Nat) : State :=
  let jobs := s.slotsWhere (fun _ => true)
  let worst := s.fault.eventsBeat == s.beat && s.fault.events.any (fun e => e.2.1 == 5)
  let s1 := (s.setMode mLockdown).meetAll jobs (if cls = 5 || worst then .alarm else .lockdown src)
  let s2 := s1.clamp
  ({ s2 with maint := { s2.maint with queue := [], running := s2.maint.running.filter (fun r => r.1 == maCommit) },
             mode := { s2.mode with lockdownHold := true, wakeBeat := none, held := [], quiesceKind := 0,
                                    finalDue := if s.mode.dsrFinal then none else some (s.beat, src, cls, s.mode.mode) } }).finishLockdown

/-- The lowest-numbered source of the gravest class among this beat's events that name a job (R410). -/
def State.namedInfo (s : State) (slot : Nat) : Nat :=
  let ev := s.fault.events.filter (fun e => e.2.2 == some slot)
  let top := ev.foldl (fun m e => max m e.2.1) 0
  (ev.filter (fun e => e.2.1 == top)).foldl (fun m e => min m e.1) 255

/-- The job that an event names ends with ENGINE_FAULT, or takes the INFO of the event set, in which the order of the events has no part:
a job that the Quiesce of the same beat has ended is named still (R404, R410). -/
def State.faultJob (s : State) (slot : Nat) : State :=
  match s.job? slot with
  | none => s
  | some j =>
    if j.live then s.endJob slot stEngineFault (s.namedInfo slot) (s.beat + 1)
    else if (j.status = some stEngineFault ∨ j.status = some stQuiesced) ∧ j.endBeat = s.beat + 1 then
      s.setJob slot { j with status := some stEngineFault, info := s.namedInfo slot }
    else s

/-- The staging of a job starts over on another unit (R24); a slice that was to begin with it gives its task back (R181). -/
def State.restage (s : State) (n : Nat) (j : Job) : State :=
  let back := j.slices.map (fun x => (1, x.2.2 - 2 + (j.suspended.map (·.2)).sum))
  let s1 := (s.setJob n { j with phase := 3, unit := none, partner := none, unit2 := none, slices := [], suspended := [], saved := [],
                                 tasks := back ++ j.tasks }).freeHolds n (s.beat + 1)
  j.unitsHeld.foldl (fun a v => a.startWipe n v (s.beat + 1)) s1

/-- A job meets the failure of unit `u` of class `c` that does not name it: it seeks another unit, restarts its staging, or
ends; so do a job whose partner or second unit it was, and the tasks of key generation on it (R24, R133, R162, R181). -/
def State.jobLosesUnit (s : State) (c u src n : Nat) : State :=
  match s.job? n with
  | none => s
  | some j =>
    let running := decide (j.phase = 5)
    if j.phase = 4 ∧ j.sliced ∧ c = cHawkmoth ∧ j.slices.any (fun x => x.1 == u) then s.restage n j
    else if j.unit2 = some (c, u) ∨ (c = cSwallowtail ∧ j.partner = some u) ∨ (c = cHawkmoth ∧ j.slices.any (fun x => x.1 == u)) then
      if j.live then s.endJob n stEngineFault src (s.beat + 1) else s
    else if c = cHawkmoth ∧ j.suspended.any (fun x => x.1 == u) then
      s.setJob n { j with suspended := j.suspended.filter (fun x => x.1 != u), saved := j.saved.filter (fun x => x.1 != u),
                          tasks := (j.suspended.filter (fun x => x.1 == u)).map (fun x => (1, x.2)) ++ j.tasks }
    else if j.unit ≠ some (c, u) ∨ j.sliced then s
    else if j.phase = 4 then s.restage n j
    else if running then s.endJob n stEngineFault src (s.beat + 1)
    else s

/-- Every job meets the failure of a unit (R24). -/
def State.unitFails (s : State) (c u src : Nat) : State :=
  (s.slotsWhere (fun _ => true)).foldl (fun a n => a.jobLosesUnit c u src n) s

/-- A unit is marked unusable (R99, R404, R405). -/
def State.markUnusable (s : State) (c u src : Nat) : State :=
  if c = 0 ∨ c > 7 ∨ (s.unit c u).state = 3 then s else
    let s1 := s.setUnit c u { (s.unit c u).turn 3 s.beat with cause := src }
    (s1.unitFails c u src).endStranded

/-- Service turns into Degraded service, and back, as units fail and return (R404, R437). -/
def State.followUnits (s : State) : State :=
  if s.mode.mode = mService ∨ s.mode.mode = mDegraded then s.setMode s.serviceMode else s

/-- A further S4 or S5 event in the beat of an entry into Lockdown belongs to the event set of the entry (R410, R440): the jobs that the
entry ended, and the final record that waits for them, take the lowest source of the gravest class, and with an S5 event the jobs end
with ABORTED_ALARM. -/
def State.worsen (s : State) (cls : Nat) : State :=
  let src := s.fault.lowest
  let s1 := { s with mode := { s.mode with finalDue := s.mode.finalDue.map (fun (x : Nat × Nat × Nat × Nat) => (x.1, src, max cls x.2.2.1, x.2.2.2)) } }
  s1.meetAll (s1.slotsWhere (fun j => j.status == some stLockedDown)) (if cls = 5 then .alarm else .lockdown src)

/-- The response of the class of an event (R404 to R406, R410). -/
def State.respond (s : State) (src cls : Nat) (n : Named) : State :=
  let prev := s.mode.mode
  let s1 := if cls ≥ 1 then (match n.slot with | some k => s.faultJob k | none => s) else s
  let s2 := if cls ≥ 2 then (match n.unit with | some (c, u) => s1.markUnusable c u src | none => s1) else s1
  let s3 := if cls = 2 then (s2.followUnits).writeStatus 2 src cls false prev else s2
  if cls ≤ 2 then s3
  else if cls = 3 then
    if s.mode.mode = mLockdown ∨ s.mode.mode = mDormant then s3
    else if s.mode.mode = mQuiesce then
      ({ s3 with mode := { s3.mode with quiesceKind := 2 } }).writeStatus 2 src cls false prev
    else (s3.quiesceFor 2).writeStatus 2 src cls false prev
  else
    let s4 := if cls = 5 ∧ src ≠ 0x11 then s3.eraseSeed else s3
    if s.mode.mode = mDormant then s4
    else if s.mode.mode = mLockdown then (if s.mode.modeBeat = s.beat then s4.worsen cls else s4)
    else s4.lockdown src cls

/-- The device wakes from Idle on a wake event (R445). -/
def State.wake (s : State) : State :=
  if s.mode.mode = mIdle ∧ s.mode.wakeBeat = none then { s with mode := { s.mode with wakeBeat := some s.beat } } else s

/-- The event counter of the dictionary that counts a source (R139, R164, R197, R220, R247, R276). -/
def faultCounter (src : Nat) : Option Nat :=
  match src with
  | 0x60 => some (entryKey 0x3201 4)
  | 0x65 => some (entryKey 0x3211 4)
  | 0x6A => some (entryKey 0x3221 6)
  | 0x70 => some (entryKey 0x3231 3)
  | 0x71 => some (entryKey 0x3231 4)
  | 0x74 => some (entryKey 0x3241 3)
  | 0x75 => some (entryKey 0x3241 4)
  | 0x77 => some (entryKey 0x3251 1)
  | _ => none

/-- One more event of a source in the counter of its chapter. -/
def State.countFault (s : State) (src : Nat) : State :=
  match faultCounter src with
  | some k => s.count k 1
  | none => s

/-- One fault event (R404): counted and logged, then answered by its class. `floor` is a class that a rule imposes
whatever the source's own (R324, R411). -/
def State.raiseAt (s : State) (src floor : Nat) (n : Named) : State :=
  if s.mode.mode = mDormant then s else
  let cls := s.effective src floor n
  let s1 := (s.logFault src cls n).countFault src
  let s2 := if src < 0x20 ∨ cls = 5 then
      s1.aoLog src (flag (cls == 5) + 2 * flag (cls == 5) + 4 * flag n.forced + 8 * flag s.mainOn) else s1
  s2.wake.respond src cls n

/-- One fault event of a source at its own class. -/
def State.raise (s : State) (src : Nat) (n : Named := {}) : State := s.raiseAt src 0 n

/-- The comparison of the DRBG engine fails on a request of an internal instance: the output is withheld, and at class S2 or graver a
stand-in takes its place (R364, R366, R377). -/
def State.mismatch (s : State) (i : Nat) : State := (if 2 ≤ s.classOf 0x86 then s.moveInstance i else s).raise 0x86

/-! ### Partner violations and halts (R79, R82, R83) -/

/-- The interrupt status of a halted queue (R79 step 4). -/
def State.signalHalt (s : State) (n : Nat) : State :=
  let f := s.qcfg n 1
  let k := s.qcfg n 2
  if f > 255 then s else
    ((s.setFunc f { s.func f with haltMap := setBit (s.func f).haltMap k })).cause f 0

/-- A queue halts: steps 1 to 4 of R79. Only a RUNNING or STOPPED queue does (R77): a DISABLED one stays DISABLED, and one that
is HALTED keeps HALT_CAUSE and HALT_ADDR of its first halt (DEDUCED: R77 lists no transition from HALTED by a halt condition;
log 25). -/
def State.haltQueue (s : State) (n cause addr : Nat) : State :=
  let q := s.queue n
  if q.state ≠ .running && q.state ≠ .stopped then s else
    let s1 := s.setQueue n { q with state := .halted, haltCause := cause, haltAddr := addr, fetch := .idle, reading := false,
                                    doorbell := false, intake := [], sqHead := (q.intake.head?.map (·.index)).getD q.sqHead }
    let s2 := s1.meetAll (s1.slotsWhere (fun j => j.queue == n)) (.halt addr)
    (s2.dropReads (readOfQueue n)).signalHalt n

/-- The level of a domain's violation bucket (R83). -/
def State.bucket (s : State) (d : Nat) : Nat := ((tget s.rings.buckets d).map (·.1)).getD 0

/-- VIOLATION_RATE of a domain (R83, R326). -/
def State.violationRate (s : State) (d : Nat) : Nat := s.cfg (0x2000 + d) 0x11

/-- A bucket above VIOLATION_RATE halts every RUNNING or STOPPED queue of the domain and is emptied (R83). -/
def State.checkBucket (s : State) (d : Nat) : State :=
  if s.bucket d ≤ s.violationRate d then s else
    let qs := (s.rings.queues.map (·.1)).filter (fun n =>
      s.qcfg n 1 == d && ((s.queue n).state == .running || (s.queue n).state == .stopped))
    let s1 := qs.foldl (fun a n => a.haltQueue n 4 0) s
    let s2 := s1.raise 0xA3
    { s2 with rings := { s2.rings with buckets := tdel s2.rings.buckets d } }

/-- One partner violation of a domain, counted on a queue where one is named, and naming the job whose own failure it is
(R82 to R84). -/
def State.violation (s : State) (d : Nat) (q : Option Nat) (slot : Option Nat := none) : State :=
  let s1 := match q with
    | some n => s.setQueue n { s.queue n with violCount := bump 32 (s.queue n).violCount 1 }
    | none => s
  let b := ((tget s1.rings.buckets d).getD (0, (s.beat, 0)))
  let s2 := { s1 with rings := { s1.rings with buckets := tput s1.rings.buckets d (b.1 + 1, b.2) } }
  (s2.raise 0xA2 { slot := slot }).checkBucket d

end Sys2Proof.Machine
end

