-- ==== Sys2Proof/Machine/JobSpec.lean ====
section
/-! DEFINITION. What the chapters of the engines say of each operation for the checks of admission and staging, in one
form (R28, R34, R38 to R42), and the operations that every job row shares. -/

namespace Sys2Proof.Machine

open Sys2Proof

/-- The column "Key" of R38. -/
inductive KeyMode where
  | vault | either | null
  deriving DecidableEq, Repr

/-- The rules of one operation with a given header and parameter block. -/
structure JobSpec where
  opcodeOk : Bool := true
  psetOk : Bool := true
  /-- flags permitted beyond FENCE and INTR, as a mask of FLAGS -/
  flags : Nat := 0
  flagsOk : Bool := true
  key : KeyMode
  /-- KEY_HANDLE and STREAM_ID satisfy R271 -/
  streamOk : Bool := true
  /-- AUX_HANDLE may be non-null (R39) -/
  aux : Bool := false
  /-- fixed input length, or a lower bound whose breach is LENGTH_MISMATCH, or another shape of IN_LEN -/
  inLen : Option Nat := none
  inMin : Nat := 0
  inOk : Bool := true
  limitOk : Bool := true
  outNeed : Nat := 0
  /-- 0 no context block, 1 optional, 2 required -/
  ctx : Nat := 0
  /-- OPTIONS bits the operation defines -/
  options : Nat := 0
  bodyOk : Bool := true
  /-- the job creates an entry (R40) -/
  creates : Bool := false
  templateOk : Bool := true
  cls : Nat := 0
  lo : Nat := 0
  hi : Nat := 0
  cls2 : Nat := 0
  /-- the lending group must own a usable Keccak lane group; a lane triple is held (R108) -/
  triple : Bool := false
  /-- one hash lane is held: 1 a SHA-2 lane, 2 a Keccak lane (R223) -/
  hash : Nat := 0
  /-- slices of vault DRAM bandwidth that a stream needs, and its window in beats (R212, R213) -/
  slices : Nat := 0
  window : Nat := 0
  /-- the Muntjac core may serve it (R274), with its schedule -/
  muntjac : Option Nat := none
  masked : Bool := false
  drbg : Bool := false
  /-- the usage bit that the key needs, by its number, and that AUX needs (R282) -/
  usage : Option Nat := none
  auxUsage : Option Nat := none
  /-- class and parameter set suit the operation (R42 item 1) -/
  keyOk : Key → Bool := fun _ => true
  auxOk : Key → Bool := fun _ => true
  /-- further attributes (R42 item 5) -/
  attrOk : Key → Bool := fun _ => true
  auxAttrOk : Key → Bool := fun _ => true
  /-- limits that depend on key attributes (R42 item 7) -/
  keyLimitOk : Key → Bool := fun _ => true
  /-- only items 1 to 3 of R42 are checked (R299) -/
  bare : Bool := false
  /-- an index or a counter value is assigned (R187, R263) -/
  counts : Bool := false
  /-- the expanded material of the key is not used (R299) -/
  noExp : Bool := false
  /-- the length of a schedule fixed at the grant (R91), and of one in attempt blocks: P, V and E (R130) -/
  sched : Option Nat := none
  attempts : Option (Nat × Nat × Nat) := none
  /-- beats for which the second unit is reserved (R162) -/
  cls2Len : Nat := 0
  /-- data length where the job runs in chunks of 65,536 bytes (R267) -/
  dataLen : Option Nat := none
  /-- plaintext that an AEAD decryption holds or releases (R264) -/
  plain : Option Nat := none

/-- The mask of one flag. -/
def fmask (b : Nat) : Nat := 2 ^ b

/-- Input may be a list, output may be a list (R38). -/
def fIn : Nat := fmask flSgIn

/-- SG_OUT. -/
def fOut : Nat := fmask flSgOut

/-- TO_VAULT. -/
def fVault : Nat := fmask flToVault

/-- DET. -/
def fDet : Nat := fmask flDet

/-- PREHASH. -/
def fPre : Nat := fmask flPrehash

/-- CTX_IS_AAD. -/
def fAad : Nat := fmask flCtxIsAad

/-- The null handle (R278). -/
def Header.nullKey (h : Header) : Bool := h.keyHandle == 0

/-- The result stays in the vault. -/
def Header.tv (h : Header) : Bool := h.has flToVault

/-- A sealed body that holds a stored secret, left-aligned and zero-padded (R284, R169, R228). -/
def secretBody (cls pset : Nat) (b : Bytes) : Bytes := fit (80 * keySpan cls pset) b

/-! ### Keys as the job rows use them -/

/-- The key at an index. -/
def State.key? (s : State) (i : Nat) : Option Key := tget s.vault.keys i

/-- The secret of the key that staging moved into operand memory. -/
def Job.secret (j : Job) : Bytes := (j.key.map Key.secret).getD []

/-- The public key of that key. -/
def Job.keyPk (j : Job) : Bytes := (j.key.map Key.pk).getD []

/-- The secret of the key of AUX_HANDLE. -/
def Job.auxSecret (j : Job) : Bytes := (j.aux.map Key.secret).getD []

/-- The public key of the key of AUX_HANDLE. -/
def Job.auxPk (j : Job) : Bytes := (j.aux.map Key.pk).getD []

/-- The public key a verification or encapsulation uses: the staged key's, or the head of the input (R118, R123). -/
def Job.peerKey (j : Job) (len : Nat) : Bytes := if j.hdr.nullKey then j.input.take len else j.keyPk

/-- The input after a public key supplied by the host. -/
def Job.afterKey (j : Job) (len : Nat) : Bytes := if j.hdr.nullKey then j.input.drop len else j.input

/-! ### Running a schedule (R19 to R25) -/

/-- The job of a slot whose schedule is to run: phase 5 in or after its first schedule beat, the operation asked for, no result
yet. -/
def State.running (s : State) (slot op : Nat) : Option Job :=
  match s.job? slot with
  | some j => if j.phase = 5 ∧ j.hdr.opcode = op ∧ j.result.isNone ∧ j.granted + 2 ≤ s.beat then some j else none
  | none => none

/-- The schedule of a job has its length and its result, which the release takes (R21, R23). -/
def State.finish (s : State) (slot len : Nat) (r : Result) : State :=
  s.onJob slot (fun j => { j with schedLen := len, blocks := if r.blocks = 0 then j.blocks else r.blocks, result := some r })

/-- Runs the schedule of one operation, where a job of it is staged. -/
def State.runOp (s : State) (slot op : Nat) (f : State → Job → State) : Host.Outcome State Fault Refusal :=
  match s.running slot op with
  | some j => .next (f s j)
  | none => .next s

/-- The first bytes of what staging drew for the job (R366). -/
def Job.random (j : Job) (n : Nat) : Bytes := fit n j.rand

/-- The entry that a released job creates (R40). -/
def newEntry (j : Job) (st : Nat) (secret out : Bytes) : Result :=
  { status := st, out := out, entryClass := j.pb.cls, entryPset := j.pb.newPset,
    entryBody := secretBody j.pb.cls j.pb.newPset secret }

/-- A result that becomes a new entry, or the output, as TO_VAULT says (R40). -/
def vaultOrOut (j : Job) (secret before : Bytes) : Result :=
  if j.hdr.tv then newEntry j stUncommitted secret before else { status := stOk, out := before ++ secret }

/-- A result that a check decides (R21): a status without output where it fails. -/
def Result.when (ok : Bool) (st : Nat) (r : Result) : Result := if ok then r else { status := st }

/-- FIXED as staging drew it for a new DEV_IV key, behind whatever the schedule draws (R262, R366). -/
def Job.fixedDraw (j : Job) : Bytes := fit 4 (j.rand.drop (j.rand.length - 4))

/-- The first attempt that passes, counted from 0, among `n` (R130). -/
def firstAttempt (p : Nat → Bool) (n : Nat) : Option Nat := (List.range n).find? p

/-- Beats of absorption of a message beyond 2,048 bytes at a rate (R128, R173, R244). -/
def absorbAt (rate len : Nat) : Nat := if len ≤ 2048 ∨ rate = 0 then 0 else ceilDiv (len - 2048) rate

/-- The absorption beats of a long message (R128). -/
def absorb (len : Nat) : Nat := absorbAt 2720 len

/-- A schedule in attempt blocks (R130, R134, R148): `per` attempts a block, lengths P, V and E, the other half's length and
the beats that combine the two (R162), the result of the first attempt that passes, and the counter of signatures with the
bumps of a release by block count. Its masks are drawn block by block (R111), and are counted as the blocks run. -/
def State.signBlocks (s : State) (slot : Nat) (j : Job) (per p v e cl tail : Nat) (passes : Nat → Bool)
    (sig : Nat → Bytes) (bumps : Nat → List (Nat × Nat)) : State :=
  match firstAttempt passes (per * j.blockMax) with
  | some a =>
    let b := a / per + 1
    s.finish slot (e + max (p * b + v) cl + tail) { status := stOk, out := sig a, blocks := b, bumps := bumps b }
  | none => s.finish slot (e + max (p * j.blockMax) cl) { status := stSignBlockLimit, blocks := j.blockMax }

/-! ### Context strings and pre-hash functions (R125) -/

/-- Digest length of a PH_ALG (R125). -/
def phLen (a : Nat) : Nat := nth [32, 48, 64, 28, 32, 28, 32, 48, 64, 32, 64] a

/-- OPTIONS bits [11:8], PH_ALG (R125). -/
def phMask : Nat := 0x0F00

/-- PH_ALG of a parameter block. -/
def ParamBlock.ph (p : ParamBlock) : Nat := bits p.options 11 8

/-- The context string of a body (R125). -/
def ParamBlock.ctxStr (p : ParamBlock) : Bytes := slice p.body 1 (byteAt p.body 0)

/-- The checks of R125 on body and PH_ALG; `most` bounds CTX_STR_LEN and `algs` enables PH_ALG values. -/
def ctxStrOk (h : Header) (p : ParamBlock) (most algs : Nat) : Bool :=
  if !p.present then !h.has flPrehash
  else decide (p.body.length = 1 + byteAt p.body 0) && decide (byteAt p.body 0 ≤ most)
    && (if h.has flPrehash then decide (1 ≤ p.ph) && decide (p.ph ≤ 11) && bit algs p.ph else p.ph == 0)

/-- The message representative M′ of FIPS 204, 205 and 206 (R125, R146, R172), with a prefix of the context string. -/
def messageRep (h : Header) (p : ParamBlock) (pre m : Bytes) : Bytes :=
  let c := pre ++ p.ctxStr
  if h.has flPrehash then [1#8, u8 c.length] ++ c ++ primOut .oid [[u8 p.ph]] 11 ++ m
  else [0#8, u8 c.length] ++ c ++ m

/-- The length of M′ for a message of a length. -/
def messageRepLen (h : Header) (p : ParamBlock) (pre n : Nat) : Nat :=
  2 + pre + p.ctxStr.length + (if h.has flPrehash then 11 else 0) + n

/-- The specification of a signing operation with a context string (R123, R124, R125). -/
def ctxSignSpec (h : Header) (p : ParamBlock) (cls pset msgMax : Nat) (algs sigLen : Nat) (flags : Nat) : JobSpec :=
  { key := .vault, flags := flags ||| fIn ||| fOut ||| fPre, ctx := if h.has flPrehash then 2 else 1, options := phMask,
    bodyOk := ctxStrOk h p 255 algs,
    inLen := if h.has flPrehash ∧ 1 ≤ p.ph ∧ p.ph ≤ 11 then some (phLen p.ph) else none,
    limitOk := h.has flPrehash || decide (h.inLen ≤ msgMax), outNeed := sigLen, usage := some aSign,
    keyOk := fun k => k.cls == cls && k.pset == pset && k.state == 1,
    attrOk := fun k => !h.has flDet || (k.attr aDetOk && !k.attr aHedgedOnly) }

/-- The specification of a verification with a context string (R123 to R125, R129). -/
def ctxVerifySpec (h : Header) (p : ParamBlock) (cls pset msgMax algs sigLen : Nat) : JobSpec :=
  let head := (if h.nullKey then publicLen cls pset else 0) + sigLen
  { key := .either, flags := fIn ||| fPre, ctx := if h.has flPrehash then 2 else 1, options := phMask,
    bodyOk := ctxStrOk h p 255 algs,
    inLen := if h.has flPrehash ∧ 1 ≤ p.ph ∧ p.ph ≤ 11 then some (head + phLen p.ph) else none,
    inMin := head, limitOk := h.has flPrehash || decide (h.inLen ≤ head + msgMax), usage := some aVerify,
    keyOk := fun k => k.cls == cls && k.pset == pset }

/-! ### Templates (R33, R122, R208, R232, R261) -/

/-- The template of a 32-byte secret kept in the vault: AES-256 or a 32-byte MAC and KDF secret (R122). -/
def template32 (p : ParamBlock) : Bool := (p.cls == 0xC && p.newPset == 0x03) || (p.cls == 0xD && p.newPset == 0x20)

/-- The template of a secret of a length: R122 for 32 bytes, otherwise class 0xC or 0xD of that key length (R232). -/
def templateFor (p : ParamBlock) (len : Nat) : Bool :=
  if len = 32 then template32 p
  else (p.cls == 0xC || p.cls == 0xD) && classPset p.cls p.newPset && secretLen p.cls p.newPset == len

end Sys2Proof.Machine
end

