-- ==== Sys2Proof/Machine/Lattice.lean ====
section
/-! DEFINITION. ML-KEM and ML-DSA on the Swallowtail cores (05). -/

namespace Sys2Proof.Machine

open Sys2Proof

/-! ### ML-KEM (R114, R118 to R122) -/

/-- Ciphertext length of an ML-KEM set (R114). -/
def kemCt (pset : Nat) : Nat := nth [768, 1088, 1568] pset

/-- The rules that the ML-KEM operations share. -/
def mlkemBase (s : State) (h : Header) : JobSpec :=
  { key := .vault, psetOk := classPset 1 h.pset && bit (s.cfg 0x3200 1) (h.pset - 1),
    cls := cSwallowtail, hi := 15, triple := true, keyOk := fun k => k.cls == 1 && k.pset == h.pset }

/-- MLKEM_ENCAPS (R118, R119, R122, R136). -/
def mlkemEncapsSpec (s : State) (h : Header) (p : ParamBlock) : JobSpec :=
  { mlkemBase s h with
    key := .either, flags := fVault ||| fOut ||| fIn,
    inLen := some (if h.nullKey then publicLen 1 h.pset else 0),
    outNeed := kemCt h.pset + (if h.tv then 0 else 32),
    ctx := if h.tv then 2 else 0, creates := h.tv, templateOk := template32 p, bodyOk := p.body.isEmpty,
    masked := true, drbg := true, usage := some aEncaps, sched := some (nth [14, 20, 28] h.pset) }

/-- MLKEM_CHECK_EK (R118, R120). -/
def mlkemCheckSpec (s : State) (h : Header) : JobSpec :=
  { mlkemBase s h with
    key := .null, flags := fIn, inLen := some (publicLen 1 h.pset), sched := some (nth [4, 5, 6] h.pset) }

/-- MLKEM_DECAPS (R118, R121). -/
def mlkemDecapsSpec (s : State) (h : Header) (p : ParamBlock) : JobSpec :=
  { mlkemBase s h with
    flags := fVault ||| fIn ||| fOut, inLen := some (kemCt h.pset), outNeed := if h.tv then 0 else 32,
    ctx := if h.tv then 2 else 0, creates := h.tv, templateOk := template32 p, bodyOk := p.body.isEmpty,
    masked := true, usage := some aDecaps, sched := some (nth [18, 24, 34] h.pset),
    keyOk := fun k => k.cls == 1 && k.pset == h.pset && k.state == 1 }

/-- Every 12-bit coefficient of a run of bytes is below 3,329 (R120). -/
def coeffsOk : Bytes → Bool
  | a :: b :: c :: r =>
    decide (a.toNat + 256 * (b.toNat % 16) < 3329) && decide (b.toNat / 16 + 16 * c.toNat < 3329) && coeffsOk r
  | _ => true

/-- The modulus check of FIPS 203 on an encapsulation key: its coefficients precede the 32 bytes of ρ (R120). -/
def ekOk (ek : Bytes) : Bool := coeffsOk (ek.take (ek.length - 32))

/-- The ciphertext of an ML-KEM encapsulation with randomness m. -/
def mlkemCipher (pset : Nat) (ek m : Bytes) : Bytes := primOut .kemCipher [tag 1 pset, ek, m] (kemCt pset)

/-- The shared secret of an ML-KEM encapsulation. -/
def mlkemSecret (pset : Nat) (ek m : Bytes) : Bytes := primOut .kemSecret [tag 1 pset, ek, m] 32

/-- The key that a decapsulation returns, K′ or the implicit-rejection key (R121). -/
def mlkemRecover (pset : Nat) (dk c : Bytes) : Bytes := primOut .recover [tag 1 pset, dk, c] 32

/-- MLKEM_ENCAPS (R118, R120): a host key out of range ends with INPUT_RANGE and no output. -/
def execMlkemEncaps (slot : Fin 4096) (s : State) : Host.Outcome State Fault Refusal :=
  s.runOp slot.val 0x0101 fun s j =>
    let n := publicLen 1 j.hdr.pset
    let ek := j.peerKey n
    let m := j.random 32
    ((s.finish slot.val (nth [14, 20, 28] j.hdr.pset)
      (Result.when (!j.hdr.nullKey || ekOk ek) stInputRange
        (vaultOrOut j (mlkemSecret j.hdr.pset ek m) (mlkemCipher j.hdr.pset ek m))))).useMasks
      (nth [3584, 5376, 7168] j.hdr.pset)

/-- MLKEM_CHECK_EK (R120). -/
def execMlkemCheckEk (slot : Fin 4096) (s : State) : Host.Outcome State Fault Refusal :=
  s.runOp slot.val 0x0102 fun s j =>
    s.finish slot.val (nth [4, 5, 6] j.hdr.pset) { status := if ekOk j.input then stOk else stInputRange }

/-- MLKEM_DECAPS (R121): every ciphertext of the right length ends with OK. -/
def execMlkemDecaps (slot : Fin 4096) (s : State) : Host.Outcome State Fault Refusal :=
  s.runOp slot.val 0x0103 fun s j =>
    (s.finish slot.val (nth [18, 24, 34] j.hdr.pset) (vaultOrOut j (mlkemRecover j.hdr.pset j.secret j.input) [])).useMasks
      (nth [5120, 7680, 10240] j.hdr.pset)

/-! ### ML-DSA (R123 to R134) -/

/-- Signature length of an ML-DSA set (R114). -/
def dsaSig (pset : Nat) : Nat := nth [2420, 3309, 4627] pset

/-- Block length P (R136). -/
def dsaP (pset : Nat) : Nat := nth [72, 96, 140] pset

/-- Self-verification and verification length V (R136). -/
def dsaV (pset : Nat) : Nat := nth [16, 20, 28] pset

/-- An ML-DSA set that is defined and enabled (R114, R139). -/
def dsaPset (s : State) (pset : Nat) : Bool := classPset 2 pset && bit (s.cfg 0x3200 2) (pset - 1)

/-- The variant flags of MLDSA_VARIANTS permit the header's (R139). -/
def dsaVariant (s : State) (h : Header) : Bool :=
  (if h.has flPrehash then bit (s.cfg 0x3200 3) 1 else bit (s.cfg 0x3200 3) 0) && (!h.has flDet || bit (s.cfg 0x3200 3) 3)

/-- The absorption of a message of a length (R128). -/
def dsaE (h : Header) (p : ParamBlock) (n : Nat) : Nat := absorb (messageRepLen h p 0 n)

/-- MLDSA_SIGN (R123 to R126, R130). -/
def mldsaSignSpec (s : State) (h : Header) (p : ParamBlock) : JobSpec :=
  { ctxSignSpec h p 2 h.pset (s.cfg 0x3200 5) (s.cfg 0x3200 6) (dsaSig h.pset) fDet with
    psetOk := dsaPset s h.pset, flagsOk := dsaVariant s h, cls := cSwallowtail, hi := 15, triple := true,
    masked := true, drbg := !h.has flDet, attempts := some (dsaP h.pset, dsaV h.pset, dsaE h p h.inLen) }

/-- MLDSA_SIGN_MU (R123, R124, R127). -/
def mldsaSignMuSpec (s : State) (h : Header) : JobSpec :=
  { key := .vault, opcodeOk := bit (s.cfg 0x3200 3) 2, psetOk := dsaPset s h.pset, flags := fDet ||| fIn ||| fOut,
    flagsOk := !h.has flDet || bit (s.cfg 0x3200 3) 3, inLen := some 64, outNeed := dsaSig h.pset,
    cls := cSwallowtail, hi := 15, triple := true, masked := true, drbg := !h.has flDet, usage := some aSign,
    keyOk := fun k => k.cls == 2 && k.pset == h.pset && k.state == 1,
    attrOk := fun k => !h.has flDet || (k.attr aDetOk && !k.attr aHedgedOnly),
    attempts := some (dsaP h.pset, dsaV h.pset, 0) }

/-- MLDSA_VERIFY (R123 to R125, R129). -/
def mldsaVerifySpec (s : State) (h : Header) (p : ParamBlock) : JobSpec :=
  let head := (if h.nullKey then publicLen 2 h.pset else 0) + dsaSig h.pset
  { ctxVerifySpec h p 2 h.pset (s.cfg 0x3200 5) (s.cfg 0x3200 6) (dsaSig h.pset) with
    psetOk := dsaPset s h.pset, flagsOk := dsaVariant s h, cls := cSwallowtail, hi := 15, triple := true,
    sched := some (dsaV h.pset + dsaE h p (h.inLen - head)) }

/-- MLDSA_VERIFY_MU (R123, R124, R127). -/
def mldsaVerifyMuSpec (s : State) (h : Header) : JobSpec :=
  { key := .either, opcodeOk := bit (s.cfg 0x3200 3) 2, psetOk := dsaPset s h.pset, flags := fIn,
    inLen := some ((if h.nullKey then publicLen 2 h.pset else 0) + dsaSig h.pset + 64),
    cls := cSwallowtail, hi := 15, triple := true, usage := some aVerify,
    keyOk := fun k => k.cls == 2 && k.pset == h.pset, sched := some (dsaV h.pset) }

/-- μ of a message representative under a public key (R127). -/
def dsaMu (pk m : Bytes) : Bytes := shake256 (shake256 pk 64 ++ m) 64

/-- The per-signature randomness: 32 drawn bytes, or zeros with DET (R126). -/
def dsaRnd (j : Job) : Bytes := if j.hdr.has flDet then zeros 32 else j.random 32

/-- FIPS 204 accepts attempt `a` (counted from 0) of a signature. -/
def dsaPasses (pset : Nat) (sk mu rnd : Bytes) (a : Nat) : Bool :=
  Config.primB .attemptOk [tag 2 pset, sk, mu, rnd, leBytes 4 a]

/-- The signature of attempt `a`. -/
def dsaSignature (pset : Nat) (sk mu rnd : Bytes) (a : Nat) : Bytes :=
  primOut .sign [tag 2 pset, sk, mu, rnd, leBytes 4 a] (dsaSig pset)

/-- SIGN_COUNT and BLOCK_HIST of a released signature (R139). -/
def dsaBumps (b : Nat) : List (Nat × Nat) := [(entryKey 0x3201 1, 1), (entryKey 0x3201 (0x50 + min b 8), 1)]

/-- ML-DSA signing of μ in attempt blocks (R130, R134). -/
def State.dsaRun (s : State) (slot : Nat) (j : Job) (mu : Bytes) (e : Nat) : State :=
  s.signBlocks slot j 4 (dsaP j.hdr.pset) (dsaV j.hdr.pset) e 0 0
    (dsaPasses j.hdr.pset j.secret mu (dsaRnd j)) (dsaSignature j.hdr.pset j.secret mu (dsaRnd j)) dsaBumps

/-- MLDSA_SIGN (R130). -/
def execMldsaSign (slot : Fin 4096) (s : State) : Host.Outcome State Fault Refusal :=
  s.runOp slot.val 0x0201 fun s j =>
    s.dsaRun slot.val j (dsaMu j.keyPk (messageRep j.hdr j.pb [] j.input)) (dsaE j.hdr j.pb j.hdr.inLen)

/-- MLDSA_SIGN_MU (R127). -/
def execMldsaSignMu (slot : Fin 4096) (s : State) : Host.Outcome State Fault Refusal :=
  s.runOp slot.val 0x0202 fun s j => s.dsaRun slot.val j j.input 0

/-- The signature verifies over μ (R129). -/
def dsaVerifies (pset : Nat) (pk mu sig : Bytes) : Bool := Config.primB .verify [tag 2 pset, pk, mu, sig]

/-- MLDSA_VERIFY (R129). -/
def execMldsaVerify (slot : Fin 4096) (s : State) : Host.Outcome State Fault Refusal :=
  s.runOp slot.val 0x0203 fun s j =>
    let n := publicLen 2 j.hdr.pset
    let pk := j.peerKey n
    let rest := j.afterKey n
    let m := rest.drop (dsaSig j.hdr.pset)
    s.finish slot.val (dsaV j.hdr.pset + dsaE j.hdr j.pb m.length)
      { status := if dsaVerifies j.hdr.pset pk (dsaMu pk (messageRep j.hdr j.pb [] m)) (rest.take (dsaSig j.hdr.pset))
                  then stOk else stVerifyFail }

/-- MLDSA_VERIFY_MU (R127). -/
def execMldsaVerifyMu (slot : Fin 4096) (s : State) : Host.Outcome State Fault Refusal :=
  s.runOp slot.val 0x0204 fun s j =>
    let n := publicLen 2 j.hdr.pset
    let rest := j.afterKey n
    s.finish slot.val (dsaV j.hdr.pset)
      { status := if dsaVerifies j.hdr.pset (j.peerKey n) (rest.drop (dsaSig j.hdr.pset)) (rest.take (dsaSig j.hdr.pset))
                  then stOk else stVerifyFail }

end Sys2Proof.Machine
end

