-- ==== Sys2Proof/Machine/Classical.lean ====
section
/-! DEFINITION. RSA and elliptic curves on the Ibex cores (09). -/

namespace Sys2Proof.Machine

open Sys2Proof

/-- HASH of a body (R231, R237). -/
def ParamBlock.hash (p : ParamBlock) : Nat := byteAt p.body 0

/-- SALT_LEN (R231). -/
def ParamBlock.saltLen (p : ParamBlock) : Nat := byteAt p.body 1

/-- LABEL_LEN (R231). -/
def ParamBlock.labelLen (p : ParamBlock) : Nat := field p.body 2 2

/-- HASH is 1 to 9 and enabled (R231, R247). -/
def hashOk (s : State) (p : ParamBlock) : Bool := decide (1 ≤ p.hash) && decide (p.hash ≤ 9) && bit (s.cfg 0x3240 3) p.hash

/-- The hash lane that a hash needs: 1 SHA-2, 2 Keccak (R223). -/
def hashLane (alg : Nat) : Nat := if alg ≤ 5 then 1 else 2

/-- Absorption rate of a hash for a single pass (R244). -/
def hashRate (alg : Nat) : Nat := if alg = 1 ∨ alg = 4 then 512 else if alg ≤ 5 then 768 else 2720

/-- E of a message, none with PREHASH (R244). -/
def classicE (h : Header) (alg n : Nat) : Nat := if h.has flPrehash then 0 else absorbAt (hashRate alg) n

/-! ### RSA (R227 to R236) -/

/-- An RSA set that is defined and enabled (R227, R247). -/
def rsaPset (s : State) (pset : Nat) : Bool :=
  classPset 9 pset && bit (s.cfg 0x3240 1) (if pset < 0x10 then pset - 1 else pset - 0x11 + 3)

/-- Private-operation schedule (R243). -/
def rsaPrivate (pset : Nat) : Nat :=
  if rsaGeneral pset then nth [946, 2608, 5590] (pset % 16) else nth [520, 1650, 3900] pset

/-- Public-operation schedule (R243). -/
def rsaPublic (pset : Nat) : Nat := if rsaGeneral pset then nth [450, 1010, 1780] (pset % 16) else nth [24, 52, 90] pset

/-- Mask bytes of a private operation (R224). -/
def rsaMasks (pset : Nat) : Nat := nth [272, 400, 528] (pset % 16)

/-- Which RSA operation: 0 OAEP encrypt, 1 OAEP decrypt, 2 PSS sign, 3 PSS verify, 4 v1.5 sign, 5 v1.5 verify. -/
def rsaKind (h : Header) : Nat := h.opcode - 0x0901

/-- The body checks of R231. -/
def rsaBodyOk (s : State) (h : Header) (p : ParamBlock) : Bool :=
  let kind := rsaKind h
  decide (p.body.length = 4 + p.labelLen) && decide (p.labelLen ≤ 256) && hashOk s p
    && (if kind = 2 then decide (p.saltLen + phLen p.hash + 2 ≤ rsaK h.pset)
        else if kind = 3 then p.saltLen == 0xFF || decide (p.saltLen + phLen p.hash + 2 ≤ rsaK h.pset)
        else p.saltLen == 0)
    && (decide (kind ≤ 1) || p.labelLen == 0)

/-- The rules that RSA operations share (R230, R247). -/
def rsaBase (s : State) (h : Header) (p : ParamBlock) : JobSpec :=
  { key := .vault, opcodeOk := bit (s.cfg 0x3240 2) (rsaKind h / 2), psetOk := rsaPset s h.pset, ctx := 2,
    bodyOk := rsaBodyOk s h p, cls := cIbex, hi := 7, hash := hashLane p.hash,
    keyOk := fun k => k.cls == 9 && k.pset == h.pset }

/-- The head that a host key takes of the input. -/
def rsaHead (h : Header) : Nat := if h.nullKey then publicLen 9 h.pset else 0

/-- HASH of a body is one of R231; a HASH that the body check refuses has no length, and sets no limit (R242). -/
def ParamBlock.hashKnown (p : ParamBlock) : Bool := decide (1 ≤ p.hash) && decide (p.hash ≤ 9)

/-- RSA_OAEP_ENCRYPT (R230, R231). -/
def rsaEncryptSpec (s : State) (h : Header) (p : ParamBlock) : JobSpec :=
  { rsaBase s h p with
    key := .either, flags := fIn ||| fOut, inMin := rsaHead h,
    limitOk := !p.hashKnown || decide (h.inLen + 2 * phLen p.hash + 2 ≤ rsaHead h + rsaK h.pset), outNeed := rsaK h.pset, drbg := true,
    usage := some aEncrypt, sched := some (rsaPublic h.pset) }

/-- RSA_OAEP_DECRYPT (R230, R232); the message may take k − 2hLen − 2 bytes. -/
def rsaDecryptSpec (s : State) (h : Header) (p : ParamBlock) : JobSpec :=
  { rsaBase s h p with
    flags := fVault ||| fIn ||| fOut, inLen := some (rsaK h.pset),
    outNeed := if h.tv || !p.hashKnown then 0 else rsaK h.pset - 2 * phLen p.hash - 2, creates := h.tv,
    templateOk := (p.cls == 0xC || p.cls == 0xD) && templateFor p (secretLen p.cls p.newPset), masked := true,
    usage := some aDecrypt, sched := some (rsaPrivate h.pset),
    keyOk := fun k => k.cls == 9 && k.pset == h.pset && k.state == 1 }

/-- A digest or message of signature operations within its limits (R231, R242); a HASH that the body check refuses has no length. -/
def messageOk (s : State) (h : Header) (head alg : Nat) : Bool :=
  if h.has flPrehash then decide (alg = 0 ∨ 9 < alg) || h.inLen == head + phLen alg else decide (h.inLen ≤ head + s.cfg 0x3240 6)

/-- RSA_PSS_SIGN and RSA_V15_SIGN (R230). -/
def rsaSignSpec (s : State) (h : Header) (p : ParamBlock) : JobSpec :=
  { rsaBase s h p with
    flags := fIn ||| fOut ||| fPre, limitOk := messageOk s h 0 p.hash, outNeed := rsaK h.pset, masked := true,
    drbg := h.opcode == 0x0903 && p.saltLen != 0, usage := some aSign,
    sched := some (rsaPrivate h.pset + classicE h p.hash h.inLen),
    keyOk := fun k => k.cls == 9 && k.pset == h.pset && k.state == 1 }

/-- RSA_PSS_VERIFY and RSA_V15_VERIFY (R230). -/
def rsaVerifySpec (s : State) (h : Header) (p : ParamBlock) : JobSpec :=
  let head := rsaHead h + rsaK h.pset
  { rsaBase s h p with
    key := .either, flags := fIn ||| fPre, inMin := head, limitOk := messageOk s h head p.hash, usage := some aVerify,
    sched := some (rsaPublic h.pset + classicE h p.hash (h.inLen - head)) }

/-- The checks of a host key (R233): MODULUS_INVALID before INPUT_RANGE. -/
def rsaPkStatus (pset : Nat) (pk : Bytes) : Option Nat :=
  let n := pk.take (rsaK pset)
  let e := beNat (pk.drop (rsaK pset))
  if beNat n % 2 = 0 ∨ byteAt n 0 < 128 then some stModulusInvalid
  else if rsaGeneral pset && (e % 2 == 0 || decide (e ≤ 65536)) then some stInputRange
  else none

/-- A representative that is 0, or the modulus or more (R242). -/
def rsaRange (pk x : Bytes) : Bool := beNat x == 0 || decide (beNat (pk.take x.length) ≤ beNat x)

/-- RSA_OAEP_ENCRYPT (R230). -/
def execRsaOaepEncrypt (slot : Fin 4096) (s : State) : Host.Outcome State Fault Refusal :=
  s.runOp slot.val 0x0901 fun s j =>
    let n := publicLen 9 j.hdr.pset
    let pk := j.peerKey n
    s.finish slot.val (rsaPublic j.hdr.pset)
      (match if j.hdr.nullKey then rsaPkStatus j.hdr.pset pk else none with
       | some st => { status := st }
       | none => { status := stOk, out := primOut .oaepEncode [tag 9 j.hdr.pset, pk, j.pb.body, j.afterKey n,
                                            j.random (phLen j.pb.hash)] (rsaK j.hdr.pset) })

/-- RSA_OAEP_DECRYPT (R232): one status for every decoding failure. -/
def execRsaOaepDecrypt (slot : Fin 4096) (s : State) : Host.Outcome State Fault Refusal :=
  s.runOp slot.val 0x0902 fun s j =>
    let args := [tag 9 j.hdr.pset, j.secret, j.pb.body, j.input]
    let len := min (Config.primN .oaepDecode args) (rsaK j.hdr.pset - 2 * phLen j.pb.hash - 2)
    let m := primOut .oaepDecode args len
    (s.finish slot.val (rsaPrivate j.hdr.pset)
      (if rsaRange j.keyPk j.input then { status := stInputRange }
       else if !Config.primB .oaepOk args || (j.hdr.tv && len != secretLen j.pb.cls j.pb.newPset) then { status := stDecodeFail }
       else vaultOrOut j m [])).useMasks (rsaMasks j.hdr.pset)

/-- An RSA signature (R230): the whole body, the salt drawn for PSS. -/
def State.rsaSign (s : State) (slot : Nat) (j : Job) : State :=
  (s.finish slot (rsaPrivate j.hdr.pset + classicE j.hdr j.pb.hash j.hdr.inLen)
    { status := stOk,
      out := primOut .sign [tag 9 j.hdr.pset ++ [u8 (rsaKind j.hdr / 2), u8 (flag (j.hdr.has flPrehash))], j.secret, j.pb.body, j.input,
               if j.hdr.opcode = 0x0903 then j.random j.pb.saltLen else []] (rsaK j.hdr.pset) }).useMasks (rsaMasks j.hdr.pset)

/-- An RSA verification (R230, R233, R242). -/
def State.rsaVerify (s : State) (slot : Nat) (j : Job) : State :=
  let n := publicLen 9 j.hdr.pset
  let pk := j.peerKey n
  let rest := j.afterKey n
  let k := rsaK j.hdr.pset
  s.finish slot (rsaPublic j.hdr.pset + classicE j.hdr j.pb.hash (rest.length - k))
    { status := match if j.hdr.nullKey then rsaPkStatus j.hdr.pset pk else none with
        | some st => st
        | none =>
          if rsaRange pk (rest.take k) then stInputRange
          else if Config.primB .verify [tag 9 j.hdr.pset ++ [u8 (rsaKind j.hdr / 2), u8 (flag (j.hdr.has flPrehash))], pk, j.pb.body,
                    rest.drop k, rest.take k] then stOk else stVerifyFail }

/-- RSA_PSS_SIGN (R230). -/
def execRsaPssSign (slot : Fin 4096) (s : State) : Host.Outcome State Fault Refusal :=
  s.runOp slot.val 0x0903 fun s j => s.rsaSign slot.val j

/-- RSA_PSS_VERIFY (R230). -/
def execRsaPssVerify (slot : Fin 4096) (s : State) : Host.Outcome State Fault Refusal :=
  s.runOp slot.val 0x0904 fun s j => s.rsaVerify slot.val j

/-- RSA_V15_SIGN (R230). -/
def execRsaV15Sign (slot : Fin 4096) (s : State) : Host.Outcome State Fault Refusal :=
  s.runOp slot.val 0x0905 fun s j => s.rsaSign slot.val j

/-- RSA_V15_VERIFY (R230). -/
def execRsaV15Verify (slot : Fin 4096) (s : State) : Host.Outcome State Fault Refusal :=
  s.runOp slot.val 0x0906 fun s j => s.rsaVerify slot.val j

/-! ### Weierstrass curves (R237, R238) -/

/-- A curve that is defined and enabled (R227, R247). -/
def ecPset (s : State) (pset : Nat) : Bool := classPset 10 pset && bit (s.cfg 0x3240 4) (pset - 1)

/-- Field and order length of a curve. -/
def ecLen (pset : Nat) : Nat := nth [32, 48, 66] pset

/-- Mask bytes of ECDSA signing and of ECDH (R224). -/
def ecMasks (pset : Nat) (signing : Bool) : Nat := if signing then nth [72, 104, 140] pset else nth [40, 56, 74] pset

/-- The four-byte ECDSA body (R237). -/
def ecBodyOk (s : State) (p : ParamBlock) : Bool := p.body.length == 4 && allZero (p.body.drop 1) && hashOk s p

/-- ECDSA_SIGN (R237, R238). -/
def ecdsaSignSpec (s : State) (h : Header) (p : ParamBlock) : JobSpec :=
  { key := .vault, psetOk := ecPset s h.pset, flags := fDet ||| fPre ||| fIn ||| fOut,
    flagsOk := !h.has flDet || bit (s.cfg 0x3240 5) 0, limitOk := messageOk s h 0 p.hash, outNeed := 2 * ecLen h.pset,
    ctx := 2, bodyOk := ecBodyOk s p, cls := cIbex, hi := 7, hash := hashLane p.hash, masked := true, drbg := !h.has flDet,
    usage := some aSign, keyOk := fun k => k.cls == 10 && k.pset == h.pset && k.state == 1,
    attrOk := fun k => !h.has flDet || (k.attr aDetOk && !k.attr aHedgedOnly),
    sched := some (nth [100, 230, 700] h.pset + classicE h p.hash h.inLen) }

/-- ECDSA_VERIFY (R237). -/
def ecdsaVerifySpec (s : State) (h : Header) (p : ParamBlock) : JobSpec :=
  let head := (if h.nullKey then publicLen 10 h.pset else 0) + 2 * ecLen h.pset
  { key := .either, psetOk := ecPset s h.pset, flags := fPre ||| fIn, inMin := head, limitOk := messageOk s h head p.hash,
    ctx := 2, bodyOk := ecBodyOk s p, cls := cIbex, hi := 7, hash := hashLane p.hash, usage := some aVerify,
    keyOk := fun k => k.cls == 10 && k.pset == h.pset,
    sched := some (nth [150, 340, 1040] h.pset + classicE h p.hash (h.inLen - head)) }

/-- ECDH (R237, R39): the peer point is the input unless AUX_HANDLE names it. -/
def ecdhSpec (s : State) (h : Header) (p : ParamBlock) : JobSpec :=
  { key := .vault, aux := true, psetOk := ecPset s h.pset, flags := fVault ||| fIn ||| fOut,
    inLen := some (if h.auxHandle = 0 then publicLen 10 h.pset else 0), outNeed := if h.tv then 0 else ecLen h.pset,
    ctx := if h.tv then 2 else 1, options := 1, creates := h.tv, templateOk := templateFor p (ecLen h.pset),
    bodyOk := p.body.isEmpty, cls := cIbex, hi := 7, masked := true, usage := some aAgree,
    keyOk := fun k => k.cls == 10 && k.pset == h.pset && k.state == 1, auxOk := fun k => k.cls == 10 && k.pset == h.pset,
    sched := some (nth [90, 200, 610] h.pset) }

/-- EC_CHECK_POINT (R237). -/
def ecCheckSpec (s : State) (h : Header) : JobSpec :=
  { key := .null, psetOk := ecPset s h.pset, flags := fIn, inLen := some (publicLen 10 h.pset), cls := cIbex, hi := 7,
    sched := some (nth [6, 8, 12] h.pset) }

/-- The digest that ECDSA signs: D with PREHASH, and otherwise that of the message (R237). -/
def Job.digest (j : Job) (m : Bytes) : Bytes :=
  if j.hdr.has flPrehash then m else primOut .digest [[u8 j.pb.hash], m] (phLen j.pb.hash)

/-- ECDSA_SIGN (R225, R238). -/
def execEcdsaSign (slot : Fin 4096) (s : State) : Host.Outcome State Fault Refusal :=
  s.runOp slot.val 0x0A01 fun s j =>
    (s.finish slot.val (nth [100, 230, 700] j.hdr.pset + classicE j.hdr j.pb.hash j.hdr.inLen)
      { status := stOk,
        out := ecdsaSig j.hdr.pset j.secret (j.digest j.input)
          (if j.hdr.has flDet then nonceOf j.hdr.pset j.pb.hash j.secret (j.digest j.input)
           else reducedScalar j.hdr.pset (j.random (nth [40, 56, 74] j.hdr.pset))) }).useMasks
      (ecMasks j.hdr.pset true)

/-- ECDSA_VERIFY (R237, R242): the point, then the range of r and s, then the equation. -/
def execEcdsaVerify (slot : Fin 4096) (s : State) : Host.Outcome State Fault Refusal :=
  s.runOp slot.val 0x0A02 fun s j =>
    let n := publicLen 10 j.hdr.pset
    let pk := j.peerKey n
    let rest := j.afterKey n
    let k := 2 * ecLen j.hdr.pset
    s.finish slot.val (nth [150, 340, 1040] j.hdr.pset + classicE j.hdr j.pb.hash (rest.length - k))
      { status :=
          if j.hdr.nullKey && !pointOk j.hdr.pset pk then stPointInvalid
          else if !ecdsaRange j.hdr.pset (rest.take k) then stInputRange
          else if ecdsaVerifies j.hdr.pset pk (j.digest (rest.drop k)) (rest.take k) then stOk else stVerifyFail }

/-- ECDH (R237, R241). -/
def execEcdh (slot : Fin 4096) (s : State) : Host.Outcome State Fault Refusal :=
  s.runOp slot.val 0x0A03 fun s j =>
    let peer := if j.hdr.auxHandle = 0 then j.input else j.auxPk
    (s.finish slot.val (nth [90, 200, 610] j.hdr.pset)
      (Result.when (j.hdr.auxHandle != 0 || pointOk j.hdr.pset peer) stPointInvalid
        (vaultOrOut j (ecAgree j.hdr.pset j.secret peer) []))).useMasks
      (ecMasks j.hdr.pset false)

/-- EC_CHECK_POINT (R237). -/
def execEcCheckPoint (slot : Fin 4096) (s : State) : Host.Outcome State Fault Refusal :=
  s.runOp slot.val 0x0A04 fun s j =>
    s.finish slot.val (nth [6, 8, 12] j.hdr.pset) { status := if pointOk j.hdr.pset j.input then stOk else stPointInvalid }

/-! ### Edwards and Montgomery curves (R239 to R241) -/

/-- A class-0xB set that is defined and enabled (R227, R247). -/
def edPset (s : State) (lo hi pset : Nat) : Bool :=
  decide (lo ≤ pset) && decide (pset ≤ hi) && bit (s.cfg 0x3240 4) (pset + 2)

/-- The variant of a job is enabled (R239, R247). -/
def edVariant (s : State) (h : Header) (p : ParamBlock) : Bool :=
  if h.has flPrehash then bit (s.cfg 0x3240 5) 1
  else if h.pset = 1 ∧ p.ctxStr ≠ [] then bit (s.cfg 0x3240 5) 2 else true

/-- The PH_ALG of a variant (R239). -/
def edPh (h : Header) : Nat := if !h.has flPrehash then 0 else if h.pset = 1 then 3 else 11

/-- The body of EdDSA (R125, R239). -/
def edBodyOk (h : Header) (p : ParamBlock) : Bool := ctxStrOk h p 255 0xFFFF && (!p.present || p.ph == edPh h)

/-- Signature length of an Edwards set (R237). -/
def edSig (pset : Nat) : Nat := nth [64, 114] pset

/-- E of EdDSA: two passes for signing (R244). -/
def edE (h : Header) (n : Nat) (signing : Bool) : Nat :=
  if h.has flPrehash then 0
  else absorbAt ((if h.pset = 1 then 384 else 1360) * (if signing then 1 else 2)) n

/-- EDDSA_SIGN (R237, R239). -/
def eddsaSignSpec (s : State) (h : Header) (p : ParamBlock) : JobSpec :=
  { key := .vault, psetOk := edPset s 1 2 h.pset, flags := fPre ||| fIn ||| fOut, flagsOk := edVariant s h p,
    limitOk := if h.has flPrehash then h.inLen == 64 else decide (h.inLen ≤ s.cfg 0x3240 6),
    outNeed := edSig h.pset, ctx := if h.has flPrehash then 2 else 1, options := phMask, bodyOk := edBodyOk h p,
    cls := cIbex, hi := 7, hash := if h.pset = 1 then 1 else 2, masked := true, usage := some aSign,
    keyOk := fun k => k.cls == 11 && k.pset == h.pset && k.state == 1,
    sched := some (nth [80, 250] h.pset + edE h h.inLen true) }

/-- EDDSA_VERIFY (R237, R240). -/
def eddsaVerifySpec (s : State) (h : Header) (p : ParamBlock) : JobSpec :=
  let head := (if h.nullKey then publicLen 11 h.pset else 0) + edSig h.pset
  { key := .either, psetOk := edPset s 1 2 h.pset, flags := fPre ||| fIn, flagsOk := edVariant s h p,
    inMin := head, limitOk := if h.has flPrehash then h.inLen == head + 64 else decide (h.inLen ≤ head + s.cfg 0x3240 6),
    ctx := if h.has flPrehash then 2 else 1, options := phMask, bodyOk := edBodyOk h p, cls := cIbex, hi := 7,
    hash := if h.pset = 1 then 1 else 2, usage := some aVerify, keyOk := fun k => k.cls == 11 && k.pset == h.pset,
    sched := some (nth [120, 360] h.pset + edE h (h.inLen - head) false) }

/-- XDH (R237, R241). -/
def xdhSpec (s : State) (h : Header) (p : ParamBlock) : JobSpec :=
  let len := nth [32, 57, 32, 56] h.pset
  { key := .vault, aux := true, psetOk := edPset s 3 4 h.pset, flags := fVault ||| fIn ||| fOut,
    inLen := some (if h.auxHandle = 0 then len else 0), outNeed := if h.tv then 0 else len, ctx := if h.tv then 2 else 1,
    options := 1, creates := h.tv, templateOk := templateFor p len, bodyOk := p.body.isEmpty, cls := cIbex, hi := 7,
    masked := true, usage := some aAgree, keyOk := fun k => k.cls == 11 && k.pset == h.pset && k.state == 1,
    auxOk := fun k => k.cls == 11 && k.pset == h.pset, sched := some (nth [0, 0, 70, 210] h.pset) }

/-- EDDSA_SIGN (R239). -/
def execEddsaSign (slot : Fin 4096) (s : State) : Host.Outcome State Fault Refusal :=
  s.runOp slot.val 0x0B01 fun s j =>
    (s.finish slot.val (nth [80, 250] j.hdr.pset + edE j.hdr j.hdr.inLen true)
      { status := stOk,
        out := edSign j.hdr.pset (edPh j.hdr) j.secret j.pb.ctxStr j.input }).useMasks
      (nth [40, 65] j.hdr.pset)

/-- EDDSA_VERIFY (R240). -/
def execEddsaVerify (slot : Fin 4096) (s : State) : Host.Outcome State Fault Refusal :=
  s.runOp slot.val 0x0B02 fun s j =>
    let n := publicLen 11 j.hdr.pset
    let pk := j.peerKey n
    let rest := j.afterKey n
    let sig := rest.take (edSig j.hdr.pset)
    let c := edCurve j.hdr.pset
    let m := rest.drop (edSig j.hdr.pset)
    s.finish slot.val (nth [120, 360] j.hdr.pset + edE j.hdr m.length false)
      { status :=
          if !edKeyOk j.hdr.pset pk || (c.decode sig).isNone then stPointInvalid
          else if c.order ≤ leNat (slice sig c.len c.len) then stInputRange
          else if edVerifies j.hdr.pset (edPh j.hdr) pk j.pb.ctxStr m sig then stOk
          else stVerifyFail }

/-- XDH (R241). -/
def execXdh (slot : Fin 4096) (s : State) : Host.Outcome State Fault Refusal :=
  s.runOp slot.val 0x0B03 fun s j =>
    let peer := if j.hdr.auxHandle = 0 then j.input else j.auxPk
    let out := xAgree j.hdr.pset j.secret peer
    (s.finish slot.val (nth [0, 0, 70, 210] j.hdr.pset)
      (Result.when (!((j.pb.checkZero || j.cfg 0x3240 9 == 1) && allZero out)) stInputRange (vaultOrOut j out []))).useMasks
      (nth [0, 0, 32, 56] j.hdr.pset)

end Sys2Proof.Machine
end

