-- ==== Sys2Proof/Machine/Code.lean ====
section
/-! DEFINITION. HQC and Classic McEliece on the Tussock cores (08). -/

namespace Sys2Proof.Machine

open Sys2Proof

/-- Set number of a Classic McEliece PSET: the f variant shares its base set's sizes (R202). -/
def cmSet (pset : Nat) : Nat := (pset + 1) / 2

/-- Ciphertext length (R201, R202). -/
def codeCt (cls pset : Nat) : Nat := if cls = 7 then nth [4433, 8978, 14421] pset else nth [96, 156, 208, 194, 208] (cmSet pset)

/-- Shared-secret length (R201, R202). -/
def codeK (cls : Nat) : Nat := if cls = 7 then 64 else 32

/-- Encapsulation schedule (R218). -/
def codeEncaps (cls pset : Nat) : Nat := if cls = 7 then nth [28, 62, 100] pset else nth [100, 170, 200, 200, 240] (cmSet pset)

/-- Decapsulation schedule (R218). -/
def codeDecaps (cls pset : Nat) : Nat := if cls = 7 then nth [40, 88, 140] pset else nth [300, 590, 1140, 1100, 1400] (cmSet pset)

/-- DRBG draw of an encapsulation (R201, R209). -/
def codeDraw (cls pset : Nat) : Nat := if cls = 7 then nth [32, 40, 48] pset else 32

/-- Stream share S of a Classic McEliece set (R212). -/
def cmShare (pset : Nat) : Nat := nth [30, 30, 60, 60, 60] (cmSet pset)

/-- Stream window W of a Classic McEliece set (R212). -/
def cmWindow (pset : Nat) : Nat := nth [64, 129, 129, 129, 167] (cmSet pset)

/-- A set that is defined and enabled (R201, R202, R220). -/
def codePset (s : State) (cls pset : Nat) : Bool :=
  classPset cls pset && (if cls = 7 then bit (s.cfg 0x3230 1) (pset - 1) else bit (s.cfg 0x3230 2) (pset - 1))

/-- The TO_VAULT template of R208. -/
def codeTemplate (cls : Nat) (p : ParamBlock) : Bool := if cls = 7 then p.cls == 0xD && p.newPset == 0x40 else template32 p

/-- HQC_ENCAPS and CM_ENCAPS (R207 to R209, R212, R213, R220). -/
def codeEncapsSpec (s : State) (h : Header) (p : ParamBlock) (cls : Nat) : JobSpec :=
  { key := .either, psetOk := codePset s cls h.pset, flags := fVault ||| fIn ||| fOut,
    flagsOk := cls == 7 || !h.nullKey || s.cfg 0x3230 5 == 1,
    inLen := some (if h.nullKey then publicLen cls h.pset else 0),
    outNeed := codeCt cls h.pset + (if h.tv then 0 else codeK cls), ctx := if h.tv then 2 else 0, creates := h.tv,
    templateOk := codeTemplate cls p, bodyOk := p.body.isEmpty, cls := cTussock, hi := 3, triple := true,
    slices := if cls = 8 then cmShare h.pset else 0, window := if cls = 8 then cmWindow h.pset else 0,
    drbg := true, usage := some aEncaps, keyOk := fun k => k.cls == cls && k.pset == h.pset,
    sched := some (codeEncaps cls h.pset) }

/-- HQC_DECAPS and CM_DECAPS (R207, R210). -/
def codeDecapsSpec (s : State) (h : Header) (p : ParamBlock) (cls : Nat) : JobSpec :=
  { key := .vault, psetOk := codePset s cls h.pset, flags := fVault ||| fIn ||| fOut, inLen := some (codeCt cls h.pset),
    outNeed := if h.tv then 0 else codeK cls, ctx := if h.tv then 2 else 0, creates := h.tv,
    templateOk := codeTemplate cls p, bodyOk := p.body.isEmpty, cls := cTussock, hi := 3, triple := true, usage := some aDecaps,
    keyOk := fun k => k.cls == cls && k.pset == h.pset && k.state == 1, sched := some (codeDecaps cls h.pset) }

/-- The top `n` bits of a byte are zero. -/
def topZero (b : Byte) (n : Nat) : Bool := b.toNat / 2 ^ (8 - n) == 0

/-- The padding bits of a host public key are zero (R211): the last bits of HQC's s, and of each row of mceliece6960119. -/
def paddingOk (cls pset : Nat) (pk : Bytes) : Bool :=
  if cls = 7 then topZero (pk.getLastD 0#8) (nth [3, 5, 3] pset)
  else if cmSet pset = 4 then (List.range 1547).all (fun r => topZero (pk.getD (677 * r + 676) 0#8) 3)
  else true

/-- An encapsulation (R207, R211). -/
def State.codeEncapsRun (s : State) (slot : Nat) (j : Job) (cls : Nat) : State :=
  let pk := j.peerKey (publicLen cls j.hdr.pset)
  let r := j.random (codeDraw cls j.hdr.pset)
  s.finish slot (codeEncaps cls j.hdr.pset)
    (Result.when (!j.hdr.nullKey || paddingOk cls j.hdr.pset pk) stInputRange
      (vaultOrOut j (primOut .kemSecret [tag cls j.hdr.pset, pk, r] (codeK cls))
        (primOut .kemCipher [tag cls j.hdr.pset, pk, r] (codeCt cls j.hdr.pset))))

/-- A decapsulation: always OK (R210). -/
def State.codeDecapsRun (s : State) (slot : Nat) (j : Job) (cls : Nat) : State :=
  s.finish slot (codeDecaps cls j.hdr.pset)
    (vaultOrOut j (primOut .recover [tag cls j.hdr.pset, if cls = 7 then hqcSeeds j.hdr.pset j.secret else j.secret, j.input] (codeK cls)) [])

/-- HQC_ENCAPS (R207). -/
def execHqcEncaps (slot : Fin 4096) (s : State) : Host.Outcome State Fault Refusal :=
  s.runOp slot.val 0x0701 fun s j => s.codeEncapsRun slot.val j 7

/-- HQC_DECAPS (R210). -/
def execHqcDecaps (slot : Fin 4096) (s : State) : Host.Outcome State Fault Refusal :=
  s.runOp slot.val 0x0702 fun s j => s.codeDecapsRun slot.val j 7

/-- CM_ENCAPS (R212). -/
def execCmEncaps (slot : Fin 4096) (s : State) : Host.Outcome State Fault Refusal :=
  s.runOp slot.val 0x0801 fun s j => s.codeEncapsRun slot.val j 8

/-- CM_DECAPS (R210). -/
def execCmDecaps (slot : Fin 4096) (s : State) : Host.Outcome State Fault Refusal :=
  s.runOp slot.val 0x0802 fun s j => s.codeDecapsRun slot.val j 8

end Sys2Proof.Machine
end

