-- ==== Sys2Proof/Machine/VaultOps.lean ====
section
/-! DEFINITION. Operations over the vault that many commands share (11): entries, pages, caches, one-time indices and
counters, reservations and the commit request. -/

namespace Sys2Proof.Machine

open Sys2Proof

/-- Sets a key. -/
def State.setKey (s : State) (i : Nat) (k : Key) : State :=
  { s with vault := { s.vault with keys := tput s.vault.keys i k } }

/-- The counter values of a key. -/
def State.counter? (s : State) (i : Nat) : Option CounterState := tget s.vault.counters i

/-- Sets the counter values of a key. -/
def State.setCounter (s : State) (i : Nat) (c : CounterState) : State :=
  { s with vault := { s.vault with counters := tput s.vault.counters i c } }

/-! ### The entry (R281, R285) -/

/-- KMAC256 with an output length in bytes and a customisation string (R343). -/
def kmac256 (key x : Bytes) (n : Nat) (custom : List Char) : Bytes := primOut .kmac [[13#8], key, x, ascii custom] n

/-- The device root key (R343). -/
def State.drk (s : State) : Bytes :=
  kmac256 ((List.range 32).map Config.duk) (s.ao.rootSeed ++ [u8 s.lcState]) 32 "QDRK1".toList

/-- The identity seal key (R343). -/
def identitySealKey : Bytes := kmac256 ((List.range 32).map Config.duk) [] 32 "QIDS1".toList

/-- The vault seal key (R343). -/
def State.sealKey (s : State) : Bytes := kmac256 s.drk [] 32 "QVSK1".toList

/-- The domain wrap key (R343). -/
def State.wrapKey (s : State) (d : Nat) : Bytes :=
  kmac256 s.drk ([u8 d] ++ leBytes 4 (s.dom d).epoch) 32 "QDWK1".toList

/-- The entry key of an index and generation (R343). -/
def State.entryKeyOf (s : State) (d i gen : Nat) (md : Bytes) : Bytes :=
  kmac256 (s.wrapKey d) (leBytes 4 i ++ leBytes 2 gen ++ md) 32 "QENT1".toList

/-- MD of a selection of measurement slots, empty for none (R344). -/
def State.measDigest (s : State) (bind : Nat) : Bytes :=
  if bind = 0 then []
  else sha3_384 ([u8 bind] ++ (bitList 8 bind).flatMap (fun n => (tget s.measure n).getD (zeros 48)))

/-- MEAS_CHECK of an MD (R281, R344). -/
def measCheckOf (md : Bytes) : Bytes := if md.isEmpty then zeros 4 else (sha3_256 md).take 4

/-- Bytes 0 to 15 of an entry (R281). -/
def entryHead (k : Key) (cont : Bool) : Bytes :=
  [u8 (k.cls + 16 * flag cont + 32 * k.state), u8 k.pset] ++ leBytes 2 k.gen ++ leBytes 4 k.version ++ leBytes 8 k.attrs

/-- Bytes 112 to 127 of entry `pos` of a key (R281); PK_TAG of a loaded key is the one that its image holds. -/
def entryTail (k : Key) (pos : Nat) : Bytes :=
  [u8 k.domain, u8 (if pos = 0 then k.span else pos)] ++ zeros 2 ++ k.measCheck
    ++ (if symmetricClass k.cls then zeros 8 else if !k.pkTag.isEmpty then k.pkTag else (k.pkHash).take 8)

/-- The sealed form of an 80-byte body: AES-256-GCM ciphertext and tag (R285); unsealing applies the same keystream. -/
def gcmSeal (key iv aad body : Bytes) : Bytes :=
  let c := gcmCipher key iv body
  c ++ primOut .gcmTag [key, iv, aad, c] 16

/-- The body under a sealed form. -/
def gcmOpen (key iv sealed : Bytes) : Bytes := gcmCipher key iv (sealed.take 80)

/-- The tag of a sealed form passes. -/
def gcmTagOk (key iv aad sealed : Bytes) : Bool :=
  primOut .gcmTag [key, iv, aad, sealed.take 80] 16 == slice sealed 80 16

/-- The IV of an entry (R285). -/
def entryIv (i version : Nat) : Bytes := leBytes 4 i ++ leBytes 4 version ++ ascii "QVE1".toList

/-- Bytes 16 to 111: sealed body and tag, or public-key bytes (R281, R285, R289). -/
def State.entryBody (s : State) (i : Nat) (k : Key) (pos : Nat) : Bytes :=
  if k.state = 2 then fit 96 (slice k.body (96 * pos) 96)
  else if !k.sealed.isEmpty then slice k.sealed (96 * pos) 96
  else gcmSeal (s.entryKeyOf k.domain (i + pos) k.gen k.md) (entryIv (i + pos) k.version)
      (entryHead k (pos != 0) ++ entryTail k pos) (fit 80 (slice k.body (80 * pos) 80))

/-- The 128 bytes of an entry without a live key: GEN and DOMAIN, and STATE (R281). -/
def idleEntry (state gen domain : Nat) : Bytes :=
  [u8 (32 * state), 0#8] ++ leBytes 2 gen ++ zeros 108 ++ [u8 domain] ++ zeros 15

/-- The key that covers an index, with its first entry. -/
def State.keyAt (s : State) (i : Nat) : Option (Nat × Key) :=
  s.vault.keys.find? (fun x => decide (x.1 ≤ i) && decide (i < x.1 + x.2.span))

/-- The domain that a data page belongs to (R290). -/
def State.pageOwner (s : State) (p : Nat) : Option Nat :=
  (s.vault.keys.find? (fun x => x.1 / 32 == p)).map (·.2.domain)

/-- The 128 bytes of the entry at an index. -/
def State.entryBytes (s : State) (i : Nat) : Bytes :=
  match s.keyAt i with
  | some (f, k) =>
    if k.state = 3 then idleEntry 3 k.gen k.domain
    else entryHead k (i != f) ++ s.entryBody f k (i - f) ++ entryTail k (i - f)
  | none =>
    idleEntry 0 (((tget s.vault.freed i).map (·.1)).getD 1) ((tget s.vault.pageDomain (i / 32)).getD 0)

/-- The 4,096 bytes of a data page. -/
def State.pageBytes (s : State) (p : Nat) : Bytes := (List.range 32).flatMap (fun o => s.entryBytes (32 * p + o))

/-! ### Dirty pages and the copy area (R309) -/

/-- Adds to an ascending list without repeats. -/
def insertNat : List Nat → Nat → List Nat
  | [], n => [n]
  | k :: r, n => if n < k then n :: k :: r else if k = n then k :: r else k :: insertNat r n

/-- A frozen page that has not been exported and has no copy yet. -/
def State.needsCopy (s : State) (p : Nat) : Bool :=
  (s.vault.frozen.drop s.vault.exported).contains p && (tget s.vault.copies p).isNone

/-- The sum of DRAM_SLICES over the groups of the image (R309). -/
def State.sliceSum (s : State) : Nat := (List.range s.wheel.groupCount).foldl (fun a g => a + s.wheel.slices g) 0

/-- The copy-area share of a group (R309). -/
def State.copyShare (s : State) (g : Nat) : Nat :=
  let total := s.sliceSum
  let base := fun g => if total = 0 then 0 else 45056 * s.wheel.slices g / total
  let used := (List.range s.wheel.groupCount).foldl (fun a g => a + base g) 0
  base g + (if g = s.wheel.groupOf 0 then 45056 - used else 0)

/-- The pages that a group's copies take. -/
def State.copiesOf (s : State) (g : Nat) : Nat := (s.vault.copies.filter (fun x => x.2.1 == g)).length

/-- A change to a page of a domain finds no room for its copy (R309). -/
def State.copyFull (s : State) (d p : Nat) : Bool :=
  s.needsCopy p && decide (s.copyShare (s.wheel.groupOf d) ≤ s.copiesOf (s.wheel.groupOf d))

/-- A page is about to change: copied first where it is frozen and not exported, and then dirty (R309). -/
def State.touch (s : State) (d i : Nat) : State :=
  let p := i / 32
  let s1 := if s.needsCopy p then
      { s with vault := { s.vault with copies := tput s.vault.copies p (s.wheel.groupOf d, s.pageBytes p) } }
    else s
  { s1 with vault := { s1.vault with dirty := insertNat s1.vault.dirty p } }

/-! ### The commit request (R313) -/

/-- Raises the commit request, with its device status record; while a round is open or pending, a reservation is
remembered until its COMMITTED slot is written (R188, R313). -/
def State.requestCommit (s : State) : State :=
  if s.vault.roundOpen || s.vault.pending.isSome then { s with vault := { s.vault with reservedInRound := true } }
  else if s.vault.commitReq then s
  else ({ s with vault := { s.vault with commitReq := true } }).wake.writeStatus 3 0xFF 0 false s.mode.mode

/-! ### Reservations and assignment (R186 to R189, R263) -/

/-- The reservation block of a key (R179, R263, R276). -/
def State.blockOf (s : State) (k : Key) : Nat := if stateful k.cls then k.block else s.cfg 0x3250 8

/-- The low mark of a key (R188, R263). -/
def State.lowMark (s : State) (k : Key) : Nat := if stateful k.cls then s.cfg 0x3220 8 else s.cfg 0x3250 9

/-- A reservation is outstanding: CEIL > CEIL_C (R188). -/
def State.outstandingBlock (s : State) (i : Nat) (k : Key) : Bool :=
  match s.counter? i with
  | some c => decide (c.ceilC < k.ceil)
  | none => false

/-- A reservation can be made now (R188, R286, R309). -/
def State.canReserve (s : State) (i : Nat) (k : Key) : Bool :=
  k.counted && !s.outstandingBlock i k && decide (k.ceil < k.rangeHi) && k.version != 0xFFFFFFFF

/-- A reservation finds no room for the copy of its page: it waits, and the first wait raises COPY_AREA_FULL (R309). -/
def State.waitCopy (s : State) (i : Nat) : State :=
  match s.counter? i with
  | some c => if c.waits then s else (s.setCounter i { c with waits := true }).raise 0x94
  | none => s

/-- Makes a reservation (R188, R286); one whose copy finds no room waits (R309). -/
def State.reserve (s : State) (i : Nat) : State :=
  match s.key? i with
  | none => s
  | some k =>
    if !s.canReserve i k then s
    else if s.copyFull k.domain (i / 32) then s.waitCopy i
    else
      let k' := { k with version := k.version + 1, durable := false, inRound := false,
                         body := putAt k.body k.ceilAt (leBytes 8 (min (k.ceil + s.blockOf k) k.rangeHi)) }
      let s0 := match s.counter? i with | some c => s.setCounter i { c with waits := false } | none => s
      let s1 := (s0.touch k.domain i).setKey i k'
      let s2 := if stateful k.cls then s1.count (entryKey 0x3221 3) 1 else s1.count (entryKey 0x3251 4) 1
      s2.requestCommit

/-- The automatic reservation (R188, R263). -/
def State.autoReserve (s : State) (i : Nat) : State :=
  match s.key? i, s.counter? i with
  | some k, some c =>
    if (!stateful k.cls || s.cfg 0x3220 9 == 1) && decide (c.ceilC - c.next ≤ s.lowMark k) then s.reserve i else s
  | _, _ => s

/-- Jobs of a key that have passed the test of R187 and have not been assigned their value. -/
def State.passedJobs (s : State) (i : Nat) : Nat :=
  (s.slotsWhere (fun j => j.wants && j.keyIndex == some i && j.phase == 5)).length

/-- The test of R187 (R263 for DEV_IV keys): the status that ends the job, or none. -/
def State.indexTest (s : State) (i : Nat) (k : Key) : Option Nat :=
  match s.counter? i with
  | none => some stReservePending
  | some c =>
    let p := s.passedJobs i
    if k.rangeHi ≤ c.next + p then some (if stateful k.cls then stHbsExhausted else stKeyExhausted)
    else if c.ceilC ≤ c.next + p then
      -- a version that cannot advance ends with exhaustion once its committed values are spent (R286)
      some (if k.version = 0xFFFFFFFF ∧ k.ceil ≤ c.ceilC then (if stateful k.cls then stHbsExhausted else stKeyExhausted)
            else stReservePending)
    else none

/-- The traversal state that the cache holds of a stateful key follows its counters (R180). -/
def State.refreshTraversal (s : State) (i : Nat) : State :=
  match s.key? i, s.counter? i with
  | some k, some c =>
    if stateful k.cls then
      { s with vault := { s.vault with expansions := s.vault.expansions.map (fun e =>
          if e.index = i then { e with parts := traversalParts k c } else e) } }
    else s
  | _, _ => s

/-- NEXT is assigned to a job in its first schedule beat (R187, R263). -/
def State.assign (s : State) (slot : Nat) : State :=
  match s.job? slot with
  | some j =>
    match j.wants, j.keyIndex with
    | true, some i =>
      match s.counter? i with
      | some c =>
        (((s.setJob slot { j with counter := some c.next, wants := false }).setCounter i { c with next := c.next + 1 }).refreshTraversal i).autoReserve i
      | none => s
    | _, _ => s
  | none => s

/-- Removes a key's expansion. -/
def State.dropExpansion (s : State) (i : Nat) : State :=
  { s with vault := { s.vault with expansions := s.vault.expansions.filter (fun e => e.index != i) } }

/-- Puts a job into a list in the order of grant: number of its grant, and slot. -/
def byGrant : List (Nat × Nat) → Nat × Nat → List (Nat × Nat)
  | [], x => [x]
  | y :: r, x => if x.1 < y.1 then x :: y :: r else y :: byGrant r x

/-- The jobs that have passed the test of R187 and have not been assigned their value, in the order of grant. -/
def State.owedIndex (s : State) (p : Job → Bool) : List Nat :=
  ((s.jobs.slots.filter (fun x => x.2.wants && x.2.phase == 5 && p x.2)).foldl (fun l x => byGrant l (x.2.grantNo, x.1)) []).map (·.2)

/-- Every job in or past its first schedule beat has its value (R187, R263). -/
def State.assignDue (s : State) : State := (s.owedIndex (fun j => decide (j.granted + 2 ≤ s.beat))).foldl State.assign s

/-- Every job of a key that has passed the test keeps the value that is next for it (R194). -/
def State.assignKey (s : State) (i : Nat) : State := (s.owedIndex (fun j => j.keyIndex == some i)).foldl State.assign s

/-- The traversal state of a key, or its counter record, is lost: it is rebuilt at the committed ceiling, as after an Assembly (R180,
R198; DEDUCED; log 62). -/
def State.loseTraversal (s0 : State) (i : Nat) : State :=
  let s := s0.assignKey i
  match s.counter? i with
  | some c => (s.setCounter i { c with next := c.ceilC, ready := false }).dropExpansion i
  | none => s

/-! ### The handle cache (R294) -/

/-- A lookup of an entry by a group: a hit or a miss, and the line in front. -/
def State.lookup (s : State) (g i : Nat) : State :=
  let hit := s.vault.lines.contains (g, i)
  let lines := (g, i) :: s.vault.lines.filter (fun x => x != (g, i))
  let mine := lines.filter (fun x => x.1 == g)
  let kept := if mine.length ≤ 256 * s.wheel.hcache g then lines
    else match mine.getLast? with
      | some l => lines.filter (fun x => x != l)
      | none => lines
  { s with vault := { s.vault with lines := kept,
                                   hcHits := bump 64 s.vault.hcHits (flag hit),
                                   hcMisses := bump 64 s.vault.hcMisses (flag !hit) } }

/-- The lookups of the entries that the handle of a job in staging names: every entry of the key, or the one at its index. -/
def State.lookupHandle (s : State) (g handle : Nat) : State :=
  let i := handleIndex handle
  if handle = 0 then s
  else match s.keyAt i with
    | some (f, k) => (List.range k.span).foldl (fun a o => a.lookup g (f + o)) s
    | none => s.lookup g i

/-! ### The expansion cache (R295 to R297) -/

/-- EXP_QUOTA of a domain (R326). -/
def State.expQuota (s : State) (d : Nat) : Nat := s.cfg (0x2000 + d) 0x0E

/-- The live keys of a domain. -/
def State.liveKeys (s : State) (d : Nat) : List (Nat × Key) :=
  s.vault.keys.filter (fun x => x.2.domain == d && (x.2.state == 1 || x.2.state == 2))

/-- The DEV_IV keys of a domain. -/
def State.devIvKeys (s : State) (d : Nat) : Nat := ((s.liveKeys d).filter (fun x => x.2.state == 1 && x.2.attr aDevIv)).length

/-- The units of the pinned and stateful keys of a domain (R297). -/
def State.pinnedUnits (s : State) (d : Nat) : Nat :=
  ((s.liveKeys d).filter (fun x => stateful x.2.cls || x.2.attr aPin)).foldl (fun a x => a + x.2.units) 0

/-- The units of the counter records of a domain's DEV_IV keys, 64 to a unit, which are always pinned (R263). -/
def State.counterUnits (s : State) (d : Nat) : Nat := ceilDiv (s.devIvKeys d) 64

/-- The pinned commitment of a domain (R297). -/
def State.commitment (s : State) (d : Nat) : Nat := s.pinnedUnits d + s.counterUnits d

/-- The expansion units that the material of a list and counter records take (R263, R295). -/
def unitsOf (l : List Expansion) : Nat := l.foldl (fun n e => n + e.units) 0

/-- The commitment once a further key, and the keys that jobs in flight are to create, are there (R296): `x` is what the key adds. -/
def State.committed (s : State) (d : Nat) (x : Nat × Nat) : Nat :=
  let mine := s.jobs.slots.filter (fun y => y.2.domain == d)
  s.pinnedUnits d + mine.foldl (fun a y => a + y.2.commit.1) x.1
    + ceilDiv (s.devIvKeys d + mine.foldl (fun a y => a + y.2.commit.2) x.2) 64

/-- What a new key adds to the pinned commitment: units, and DEV_IV keys (R296). -/
def newCommit (cls pset attrs : Nat) (levels : List (Nat × Nat)) : Nat × Nat :=
  (if stateful cls then ceilDiv (traversalBytes cls pset levels) 4096 else if bit attrs aPin then expUnits cls pset else 0,
   flag (bit attrs aDevIv))

/-- The new key is pinned, stateful or under DEV_IV (R296). -/
def commits (cls attrs : Nat) : Bool := stateful cls || bit attrs aPin || bit attrs aDevIv

/-- Units that the candidates and primes of RSA generations hold in the domain's quota (R234): one for each. -/
def State.heldUnits (s : State) (d : Nat) : Nat :=
  (s.slotsWhere (fun j => j.domain == d && j.hdr.opcode == 0x1001 && j.pb.cls == 9 && !j.scratch.isEmpty)).length

/-- Units that the unpinned material of a domain may take: those of its quota above the commitment and the held candidates, within the
2,097,152 units of the cache (R291, R297). -/
def State.expLimit (s : State) (d : Nat) : Nat :=
  let others := (s.vault.expansions.filter (fun e => e.domain != d || e.pinned)).foldl (fun a e => a + e.units) 0
  min (s.expQuota d - s.commitment d - s.heldUnits d) (2097152 - others)

/-- The expansion of a key in the cache. -/
def State.expansion? (s : State) (i : Nat) : Option Expansion := s.vault.expansions.find? (fun e => e.index == i)

/-- Unpinned units that a domain's cache holds. -/
def unpinnedUnits (l : List Expansion) (d : Nat) : Nat :=
  (l.filter (fun e => e.domain == d && !e.pinned)).foldl (fun a e => a + e.units) 0

/-- Evicts the domain's least recently used unpinned material until `room` units fit below `limit` (R295). -/
def evict : Nat → List Expansion → Nat → Nat → Nat → List Expansion
  | 0, l, _, _, _ => l
  | n + 1, l, d, room, limit =>
    if unpinnedUnits l d + room ≤ limit then l
    else match (l.filter (fun e => e.domain == d && !e.pinned && e.waiting.isNone)).getLast? with
      | some v => evict n (l.filter (fun e => e.index != v.index)) d room limit
      | none => l

/-- Room for `units` of unpinned material of a domain can be made (R297): units kept for waiting jobs stay. -/
def State.expRoom (s : State) (d units : Nat) : Bool :=
  decide (((s.vault.expansions.filter (fun e => e.domain == d && !e.pinned && e.waiting.isSome)).foldl (fun a e => a + e.units) 0)
    + units ≤ s.expLimit d)

/-- The domain's unpinned material gives way to what has been taken of its quota (R234, R295). -/
def State.makeRoom (s : State) (d : Nat) : State :=
  { s with vault := { s.vault with expansions := evict s.vault.expansions.length s.vault.expansions d 0 (s.expLimit d) } }

/-- Counter values that begin at a value: NEXT, CEIL_C and the ceiling of the round. -/
def counterAt (n : Nat) : CounterState := { next := n, ceilC := n, ceilRound := n }

/-- Puts a key's expanded material into the cache (R18, R295). The class-0x8 public keys of expansions are held to the expansion quota
alone, not to the 2 GiB of the staging area, of which the spec says nothing here (R206; DESIGN CHOICE; log 71). -/
def State.addExpansion (s : State) (i : Nat) (k : Key) (waiting : Option Nat) : State :=
  let pinned := k.attr aPin || stateful k.cls
  let e : Expansion := { index := i, domain := k.domain, units := k.units, pinned := pinned, waiting := waiting,
                            parts := if stateful k.cls then traversalParts k ((s.counter? i).getD (counterAt k.rangeLo)) else k.expandedParts }
  let l := s.vault.expansions.filter (fun x => x.index != i)
  let room := evict l.length l k.domain k.units (s.expLimit k.domain)
  if k.units = 0 then s
  else if pinned then (State.makeRoom { s with vault := { s.vault with expansions := e :: l } } k.domain)
  else if s.expRoom k.domain k.units then { s with vault := { s.vault with expansions := e :: room } }
  else s

/-- What a GENERATE or a class check has computed stays in the cache; a class-0xD key has no state before its first use (R255,
R295, R342). -/
def State.leaveExpansion (s : State) (i : Nat) (k : Key) : State := if k.cls = 13 then s else s.addExpansion i k none

/-- Moves a key's expansion to the front of the cache, and of a class-0xD key the states of the function that is used; its keeping for
a job ends (R18, R255, R295). -/
def State.useExpansion (s : State) (i slot fn : Nat) : State :=
  match s.expansion? i with
  | some e =>
    let e' := { e with waiting := if e.waiting = some slot then none else e.waiting,
                       funcs := if e.funcs.contains fn then fn :: e.funcs.filter (fun f => f != fn) else e.funcs }
    { s with vault := { s.vault with expansions := e' :: s.vault.expansions.filter (fun x => x.index != i) } }
  | none => s

/-! ### Placement (R290) and entry quota (R40) -/

/-- Runs of entries in use: keys, and reservations of jobs in flight: index, span, domain. -/
def State.occupied (s : State) : List (Nat × Nat × Nat) :=
  s.vault.keys.map (fun x => (x.1, x.2.span, x.2.domain))
    ++ s.jobs.slots.filterMap (fun x => x.2.newIndex.map (fun i => (i, x.2.newSpan, x.2.domain)))

/-- A run of `n` entries from `i` meets no run in use. -/
def runFree (occ : List (Nat × Nat × Nat)) (i n : Nat) : Bool :=
  occ.all (fun o => decide (i + n ≤ o.1) || decide (o.1 + o.2.1 ≤ i))

/-- The lowest run of `n` free entries in a page. -/
def runIn (occ : List (Nat × Nat × Nat)) (p n : Nat) : Option Nat :=
  ((List.range (33 - n)).map (fun o => 32 * p + o)).find? (fun i => runFree occ i n)

/-- The pages of a list of runs, ascending. -/
def pagesOf (occ : List (Nat × Nat × Nat)) : List Nat := occ.foldl (fun a o => insertNat a (o.1 / 32)) []

/-- The run that a new key of `n` entries of a domain takes (R290). -/
def State.placeKey (s : State) (d n : Nat) : Option Nat :=
  let occ := s.occupied
  let own := pagesOf (occ.filter (fun o => o.2.2 == d))
  match own.findSome? (fun p => runIn occ p n) with
  | some i => some i
  | none =>
    let used := pagesOf occ
    match (List.range (used.length + 1)).find? (fun p => !used.contains p) with
    | some p => if p < 1048576 then some (32 * p) else none
    | none => none

/-- The current generation of a run of entries: the highest of theirs (R279, R280; log 7). -/
def State.genOf (s : State) (i n : Nat) : Nat :=
  (List.range n).foldl (fun a o => max a (((tget s.vault.freed (i + o)).map (·.1)).getD 1)) 1

/-- Entries of a domain's live keys (R321). -/
def State.entriesLive (s : State) (d : Nat) : Nat := (s.liveKeys d).foldl (fun a x => a + x.2.span) 0

/-- Entries that a domain's live keys and reservations take of its quota (R40, R326). -/
def State.entriesUsed (s : State) (d : Nat) : Nat :=
  s.entriesLive d
    + (s.slotsWhere (fun _ => true)).foldl (fun a n =>
        match s.job? n with
        | some j => if j.domain = d then a + j.quotaUnits else a
        | none => a) 0

/-! ### Creating and destroying keys -/

/-- Counter values of a new key (R186, R192, R263). The traversal state of a replicated key is ready with its entry: the spec names a
rebuild after Assembly alone (DESIGN CHOICE; log 32). -/
def State.startCounter (s : State) (i : Nat) (k : Key) : State :=
  if k.counted then s.setCounter i (counterAt k.rangeLo) else s

/-- A new key is written (R40, R283): page dirty, counters begun. -/
def State.createKey (s : State) (i : Nat) (k : Key) : State :=
  let s1 := (s.touch k.domain i).setKey i k
  let freed := (List.range k.span).foldl (fun t o => tdel t (i + o)) s1.vault.freed
  ({ s1 with vault := { s1.vault with freed := freed, pageDomain := tput s1.vault.pageDomain (i / 32) k.domain } }).startCounter i k

/-- Every entry of a key becomes FREE with GEN advanced, or RETIRED (R279, R280, R300); a registration as owner attestation key
ends with it (R349). -/
def State.destroyKey (s : State) (i : Nat) : State :=
  match s.key? i with
  | none => s
  | some k =>
    let s1 := s.touch k.domain i
    let v := { s1.vault with
      counters := tdel s1.vault.counters i,
      expansions := s1.vault.expansions.filter (fun e => e.index != i),
      lines := s1.vault.lines.filter (fun x => decide (x.2 < i) || decide (i + k.span ≤ x.2)) }
    let sec := if s.sec.attestKey ≠ 0 ∧ handleIndex s.sec.attestKey = i then { s1.sec with attestKey := 0, attestHash := zeros 32 } else s1.sec
    if k.gen ≥ 0xFFFF then
      { s1 with sec := sec, vault := { v with keys := (List.range k.span).foldl (fun t o =>
          tput t (i + o) { cls := 0, state := 3, gen := k.gen, domain := k.domain, span := 1 }) v.keys } }
    else
      { s1 with sec := sec, vault := { v with
          keys := tdel v.keys i,
          freed := (List.range k.span).foldl (fun t o => tput t (i + o) (k.gen + 1, k.domain)) v.freed } }

/-- The attributes of a new entry (R40 step 3, R145, R170, R179, R206, R283, R537). -/
def State.newAttrs (s : State) (d queueGroup cls pset attrs : Nat) (genInside : Bool) : Nat :=
  let a1 := clearBits attrs (usageBits - usageKept cls pset)
  let a2 := clearBits a1 (2 ^ aGenInside + 2 ^ aPlane)
  let a3 := a2 + 2 ^ aGenInside * flag genInside + 2 ^ aPlane * flag (d == 0)
  let a4 := if stateful cls then a3 ||| 2 ^ aNeverExport else a3
  let a5 := if bit a4 aNeverExport then clearBits a4 (2 ^ aExport) else a4
  let pin := (cls == 3 && s.cfg 0x3210 5 == 1) || (cls == 4 && s.cfg 0x3220 4 == 1) || (cls == 8 && s.cfg 0x3230 3 == 1)
  let a6 := if pin then a5 ||| 2 ^ aPin else a5
  let a7 := if bits a6 43 40 = 0 then a6 + 2 ^ (40 + queueGroup) else a6
  if bits a7 50 44 = 0 then a7 + 2 ^ 47 else a7

end Sys2Proof.Machine
end

