-- ==== Sys2Proof/Machine/HashSig.lean ====
section
/-! DEFINITION. Hash-based signatures and one-time state (07). -/

namespace Sys2Proof.Machine

open Sys2Proof

/-! ### SLH-DSA (R168 to R176) -/

/-- Signature length of an SLH-DSA set (R168). -/
def slhSig (pset : Nat) : Nat :=
  nth [7856, 7856, 17088, 17088, 16224, 16224, 35664, 35664, 29792, 29792, 49856, 49856] pset

/-- Signing schedule without E (R176). -/
def slhSign (pset : Nat) : Nat := nth [32800, 12300, 1720, 645, 58300, 21200, 2850, 1035, 51700, 18470, 5900, 2110] pset

/-- Verification schedule without E (R176). -/
def slhVerify (pset : Nat) : Nat := nth [64, 24, 205, 77, 96, 35, 308, 112, 146, 52, 319, 114] pset

/-- The absorption rate of a set (R173). -/
def slhRate (pset : Nat) (signing : Bool) : Nat :=
  let a := if pset % 2 = 0 then 1360 else if pset ≤ 4 then 256 else 384
  if signing then a else 2 * a

/-- Absorption beats of a message of a length (R173). -/
def slhE (h : Header) (p : ParamBlock) (n : Nat) (signing : Bool) : Nat :=
  absorbAt (slhRate h.pset signing) (messageRepLen h p 0 n)

/-- First lane group of the kind a set needs (R166). -/
def laneLo (keccak : Bool) : Nat := if keccak then 0 else 6

/-- An SLH-DSA set that is defined and enabled (R168, R197). -/
def slhPset (s : State) (pset : Nat) : Bool := classPset 4 pset && bit (s.cfg 0x3220 1) (pset - 1)

/-- SLHDSA_VARIANTS permits the header's (R197). -/
def slhVariant (s : State) (h : Header) : Bool :=
  (if h.has flPrehash then bit (s.cfg 0x3220 2) 1 else bit (s.cfg 0x3220 2) 0) && (!h.has flDet || bit (s.cfg 0x3220 2) 2)

/-- SLHDSA_SIGN (R171, R172). -/
def slhdsaSignSpec (s : State) (h : Header) (p : ParamBlock) : JobSpec :=
  { ctxSignSpec h p 4 h.pset (s.cfg 0x3220 3) (s.cfg 0x3200 6) (slhSig h.pset) fDet with
    psetOk := slhPset s h.pset, flagsOk := slhVariant s h, cls := cHawkmoth, lo := laneLo (h.pset % 2 == 0),
    hi := laneLo (h.pset % 2 == 0) + 5, drbg := !h.has flDet, sched := some (slhSign h.pset + slhE h p h.inLen true) }

/-- SLHDSA_VERIFY (R171, R175). -/
def slhdsaVerifySpec (s : State) (h : Header) (p : ParamBlock) : JobSpec :=
  let head := (if h.nullKey then publicLen 4 h.pset else 0) + slhSig h.pset
  { ctxVerifySpec h p 4 h.pset (s.cfg 0x3220 3) (s.cfg 0x3200 6) (slhSig h.pset) with
    psetOk := slhPset s h.pset, flagsOk := slhVariant s h, cls := cHawkmoth, lo := laneLo (h.pset % 2 == 0),
    hi := laneLo (h.pset % 2 == 0) + 5, sched := some (slhVerify h.pset + slhE h p (h.inLen - head) false) }

/-- SLHDSA_SIGN (R172): opt_rand is drawn, or PK.seed with DET. -/
def execSlhdsaSign (slot : Fin 4096) (s : State) : Host.Outcome State Fault Refusal :=
  s.runOp slot.val 0x0401 fun s j =>
    let n := slhN j.hdr.pset
    let opt := if j.hdr.has flDet then slice j.secret (2 * n) n else j.random n
    s.finish slot.val (slhSign j.hdr.pset + slhE j.hdr j.pb j.hdr.inLen true)
      { status := stOk, bumps := [(entryKey 0x3221 1, 1)],
        out := primOut .sign [tag 4 j.hdr.pset, j.secret, messageRep j.hdr j.pb [] j.input, opt] (slhSig j.hdr.pset) }

/-- SLHDSA_VERIFY (R175). -/
def execSlhdsaVerify (slot : Fin 4096) (s : State) : Host.Outcome State Fault Refusal :=
  s.runOp slot.val 0x0402 fun s j =>
    let n := publicLen 4 j.hdr.pset
    let rest := j.afterKey n
    let m := rest.drop (slhSig j.hdr.pset)
    s.finish slot.val (slhVerify j.hdr.pset + slhE j.hdr j.pb m.length false)
      { status := if Config.primB .verify [tag 4 j.hdr.pset, j.peerKey n, messageRep j.hdr j.pb [] m,
                       rest.take (slhSig j.hdr.pset)] then stOk else stVerifyFail }

/-! ### Stateful signatures (R177 to R190) -/

/-- A class-0x5 set that is defined and enabled (R177, R197). -/
def hssPset (s : State) (pset : Nat) : Bool := classPset 5 pset && bit (s.cfg 0x3220 5) (pset - 1)

/-- An XMSS or XMSS^MT set that is defined and enabled (R177, R197). -/
def xmssPset (s : State) (pset : Nat) : Bool := classPset 6 pset && bit (s.cfg 0x3220 6) (if pset < 0x80 then 0 else 1)

/-- The family of a class and set hashes with SHAKE256. -/
def hbsShake (cls pset : Nat) : Bool := if cls = 5 then decide (3 ≤ pset) else xmssShake pset

/-- Absorption beats of a message of a length (R182). -/
def hbsE (cls pset n : Nat) : Nat := absorbAt (if hbsShake cls pset then 2720 else 512) n

/-- The rules that stateful operations share (R166, R182). -/
def hbsBase (s : State) (h : Header) (cls : Nat) : JobSpec :=
  { key := .vault, psetOk := if cls = 5 then hssPset s h.pset else xmssPset s h.pset, cls := cHawkmoth,
    lo := laneLo (hbsShake cls h.pset), hi := laneLo (hbsShake cls h.pset) + 5,
    keyOk := fun k => k.cls == cls && k.pset == h.pset && k.state == 1 }

/-- HSS_SIGN and XMSS_SIGN (R182, R187). -/
def hbsSignSpec (s : State) (h : Header) (cls : Nat) : JobSpec :=
  { hbsBase s h cls with
    flags := fIn ||| fOut, limitOk := decide (h.inLen ≤ s.cfg 0x3220 10), usage := some aSign,
    outNeed := if cls = 6 then xmssSigLen h.pset else 0, keyLimitOk := fun k => decide (k.hbsSigLen ≤ h.outLen),
    drbg := cls == 5, counts := true }

/-- HSS_VERIFY and XMSS_VERIFY (R182, R185). -/
def hbsVerifySpec (s : State) (h : Header) (p : ParamBlock) (cls : Nat) : JobSpec :=
  let head := (if h.nullKey then publicLen cls h.pset else 0) + (if cls = 5 then field p.body 0 4 else xmssSigLen h.pset)
  { hbsBase s h cls with
    key := .either, flags := fIn, inMin := head, limitOk := decide (h.inLen ≤ head + s.cfg 0x3220 10),
    ctx := if cls = 5 then 2 else 0, bodyOk := p.body.length == 4, usage := some aVerify,
    keyOk := fun k => k.cls == cls && k.pset == h.pset }

/-- HSS_RESERVE and XMSS_RESERVE (R182, R188): a key-unit start right and a schedule of 0 beats. -/
def hbsReserveSpec (s : State) (h : Header) (cls : Nat) : JobSpec :=
  { hbsBase s h cls with cls := cKeyUnit, lo := 0, hi := 7, inLen := some 0, usage := some aSign, sched := some 0, noExp := true }

/-! #### Signatures of RFC 8554 and RFC 8391 (R182, R185; log 5) -/

/-- Bytes of the index of an XMSS or XMSS^MT signature. -/
def xmssIdx (pset : Nat) : Nat := if pset < 0x80 then 4 else ceilDiv ((xmssLayers pset).1 * (xmssLayers pset).2) 8

/-- An XMSS or XMSS^MT signature with a one-time index. -/
def xmssSignature (pset : Nat) (master : Bytes) (index : Nat) (m : Bytes) : Bytes :=
  beBytes (xmssIdx pset) index ++ primOut .sign [tag 6 pset, xmssSeed pset master, m, leBytes 8 index] (xmssSigLen pset - xmssIdx pset)

/-- Typecodes and index of one LMS signature agree with a level. -/
def lmsSigOk (n : Nat) (l : Nat × Nat) (b : Bytes) : Bool :=
  decide (beNat (b.take 4) < 2 ^ lmsHeight l.1) && beNat (slice b 4 4) == l.2
    && beNat (slice b (4 + otsSigLen n (otsColumn l.2)) 4) == l.1

/-- The signatures and public keys of an HSS signature behind Nspk agree with the levels of the key. -/
def hssPartsOk (n : Nat) : List (Nat × Nat) → Bytes → Bool
  | [], _ => false
  | [l], b => lmsSigOk n l b
  | l :: l' :: r, b =>
    let len := lmsSigLen n l
    lmsSigOk n l b && beNat (slice b len 4) == l'.1 && beNat (slice b (len + 4) 4) == l'.2 && hssPartsOk n (l' :: r) (b.drop (len + 24 + n))

/-- Length, Nspk, embedded typecodes and indices of an HSS signature agree with the key's (R185). -/
def hssSigOk (n : Nat) (levels : List (Nat × Nat)) (sig : Bytes) : Bool :=
  sig.length == hssSigLen n levels && beNat (sig.take 4) + 1 == levels.length && hssPartsOk n levels (sig.drop 4)

/-- The cached signatures of a class-0x5 key take their randomisers (R180, R182). -/
def State.keepUpper (s : State) (cls : Nat) (i : Option Nat) (upper : List (Nat × (Nat × Bytes))) : State :=
  match i with
  | some i =>
    (match s.counter? i with
      | some c => if cls = 5 then (s.setCounter i { c with upper := upper }).refreshTraversal i else s
      | none => s)
  | none => s

/-- Signing with a one-time index assigned in the first schedule beat (R183, R187). -/
def State.hbsSign (s : State) (slot : Nat) (cls : Nat) : State :=
  let s1 := s.assignDue
  match s1.job? slot with
  | none => s1
  | some j =>
    let k := j.key.getD { cls := cls, state := 1, gen := 1, domain := j.domain }
    let n := (j.counter).getD 0
    let c := j.keyIndex.bind s1.counter?
    let cs := hssRandom j.hdr.pset k.levels ((c.map (·.upper)).getD []) n j.rand
    (s1.keepUpper cls j.keyIndex (hssCached j.hdr.pset k.levels n cs)).finish slot (Sys2Proof.Machine.hbsSign k.tree + hbsE cls j.hdr.pset j.hdr.inLen)
      { status := stOk, info := n, bumps := [(entryKey 0x3221 2, 1)],
        out := if cls = 5 then hssSignature j.hdr.pset k.levels j.secret n cs j.input
               else xmssSignature j.hdr.pset j.secret n j.input }

/-- HSS_SIGN (R187). -/
def execHssSign (slot : Fin 4096) (s : State) : Host.Outcome State Fault Refusal :=
  s.runOp slot.val 0x0501 fun s _ => s.hbsSign slot.val 5

/-- XMSS_SIGN (R187). -/
def execXmssSign (slot : Fin 4096) (s : State) : Host.Outcome State Fault Refusal :=
  s.runOp slot.val 0x0601 fun s _ => s.hbsSign slot.val 6

/-- The levels that an HSS public key names: L of the type of its top (R185; log 8). -/
def hssLevels (pk : Bytes) : List (Nat × Nat) :=
  List.replicate (beNat (slice pk 0 4)) (beNat (slice pk 4 4), beNat (slice pk 8 4))

/-- A host HSS public key whose L, typecodes and total height are in range (R185). -/
def hssPkOk (pset : Nat) (pk : Bytes) : Bool :=
  decide (1 ≤ beNat (slice pk 0 4)) && decide (beNat (slice pk 0 4) ≤ 8)
    && lmsTypesOk pset (beNat (slice pk 4 4), beNat (slice pk 8 4))
    && decide (beNat (slice pk 0 4) * lmsHeight (beNat (slice pk 4 4)) ≤ 60)

/-- HSS_VERIFY (R183, R185). -/
def execHssVerify (slot : Fin 4096) (s : State) : Host.Outcome State Fault Refusal :=
  s.runOp slot.val 0x0502 fun s j =>
    let n := publicLen 5 j.hdr.pset
    let pk := j.peerKey n
    let rest := j.afterKey n
    let len := field j.pb.body 0 4
    let levels := match j.key with
      | some k => k.levels
      | none => hssLevels pk
    if j.hdr.nullKey && !hssPkOk j.hdr.pset pk then s.finish slot.val 4 { status := stInputRange }
    else
      s.finish slot.val (hbsVerify (treeLevels 5 j.hdr.pset levels) + hbsE 5 j.hdr.pset (rest.drop len).length)
        { status := if hssSigOk (lmsN j.hdr.pset) levels (rest.take len)
                       && Config.primB .verify [tag 5 j.hdr.pset, pk, rest.drop len, rest.take len]
                    then stOk else stVerifyFail }

/-- XMSS_VERIFY (R183, R185). -/
def execXmssVerify (slot : Fin 4096) (s : State) : Host.Outcome State Fault Refusal :=
  s.runOp slot.val 0x0602 fun s j =>
    let n := publicLen 6 j.hdr.pset
    let pk := j.peerKey n
    let rest := j.afterKey n
    let len := xmssSigLen j.hdr.pset
    if j.hdr.nullKey && beNat (slice pk 0 4) != j.hdr.pset % 128 then s.finish slot.val 4 { status := stInputRange }
    else
      s.finish slot.val (hbsVerify (treeLevels 6 j.hdr.pset []) + hbsE 6 j.hdr.pset (rest.drop len).length)
        { status := if decide (beNat (rest.take (xmssIdx j.hdr.pset)) < 2 ^ ((xmssLayers j.hdr.pset).1 * (xmssLayers j.hdr.pset).2))
                       && Config.primB .verify [tag 6 j.hdr.pset, pk, rest.drop len, rest.take len]
                    then stOk else stVerifyFail }

/-- A RESERVE job (R188): its work lies in staging, and it has no schedule. -/
def State.hbsReserve (s : State) (slot : Nat) (j : Job) : State :=
  match j.keyIndex, j.keyIndex.bind s.key? with
  | some i, some k =>
    let ceilC := ((s.counter? i).map (·.ceilC)).getD k.ceil
    if s.outstandingBlock i k then s.finish slot 0 { status := stUncommitted, info := ceilC }
    else if k.ceil = k.rangeHi ∨ k.version = 0xFFFFFFFF then s.finish slot 0 { status := stHbsExhausted }
    else if s.copyFull k.domain (i / 32) then s.waitCopy i
    else (s.reserve i).finish slot 0 { status := stUncommitted, info := k.ceil }
  | _, _ => s.finish slot 0 { status := stHandleStale }

/-- HSS_RESERVE (R188). -/
def execHssReserve (slot : Fin 4096) (s : State) : Host.Outcome State Fault Refusal :=
  s.runOp slot.val 0x0503 fun s j => s.hbsReserve slot.val j

/-- XMSS_RESERVE (R188). -/
def execXmssReserve (slot : Fin 4096) (s : State) : Host.Outcome State Fault Refusal :=
  s.runOp slot.val 0x0603 fun s j => s.hbsReserve slot.val j

/-! ### Partitions (R192 to R195) -/

/-- The rows of a partition table: DEVICE_ID, RANGE_LO, RANGE_HI. -/
def partRows (b : Bytes) : List (Bytes × Nat × Nat) :=
  (List.range (byteAt b 4)).map (fun k => (slice b (8 + 48 * k) 32, field b (40 + 48 * k) 8, field b (48 + 48 * k) 8))

/-- Length of a partition table that starts a byte string (R192). -/
def partLen (b : Bytes) : Nat := 8 + 48 * byteAt b 4

/-- Ranges that are not empty do not overlap. -/
def rangesApart : List (Bytes × Nat × Nat) → Bool
  | [] => true
  | r :: l => l.all (fun q => r.2.1 == r.2.2 || q.2.1 == q.2.2 || decide (r.2.2 ≤ q.2.1) || decide (q.2.2 ≤ r.2.1)) && rangesApart l

/-- The device ids of the rows are distinct. -/
def idsApart : List (Bytes × Nat × Nat) → Bool
  | [] => true
  | r :: l => l.all (fun q => q.1 != r.1) && idsApart l

/-- The key that a PK_HASH names in a domain: class 0x5 or 0x6 with HERD_REPLICATE (R193 item 1). -/
def State.partitionKey (s : State) (d : Nat) (hash : Bytes) : Option (Nat × Key) :=
  (s.liveKeys d).find? (fun x => stateful x.2.cls && x.2.attr aHerd && x.2.pkHash == hash)

/-- The checks of R193 on a key, the new table and the previous one. -/
def partitionOk (k : Key) (new prev : Bytes) : Bool :=
  let rows := partRows new
  let old := partRows prev
  let top := old.foldl (fun m r => max m r.2.2) 0
  field new 0 4 == k.partEpoch + 1
    && (if k.partEpoch = 0 then allZero prev && decide (prev.length ≤ 8) else (sha3_256 prev).take 16 == k.partDigest)
    && decide (1 ≤ rows.length) && decide (rows.length ≤ 8) && idsApart rows && rows.any (fun r => r.1 == deviceIdBytes)
    && allZero (slice new 5 3)
    && rows.all (fun r => decide (r.2.1 ≤ r.2.2) && decide (r.2.2 ≤ 2 ^ totalHeight k.tree)) && rangesApart rows
    && rows.all (fun r => old.contains r || r.2.1 == r.2.2 || decide (top ≤ r.2.1))

/-- Ranges and ceiling of a body set together (R179). -/
def putRange (b : Bytes) (ceil lo hi : Nat) : Bytes := putAt (putAt (putAt b 32 (leBytes 8 ceil)) 40 (leBytes 8 lo)) 48 (leBytes 8 hi)

/-- Indices of a range abandoned (R194, R195, R197). -/
def State.lose (s : State) (n : Nat) : State := s.count (entryKey 0x3221 5) n

/-- The row of this device in a partition table. -/
def ownRow (table : Bytes) : Option (Bytes × Nat × Nat) := (partRows table).find? (fun r => r.1 == deviceIdBytes)

/-- A partition takes effect (R194): jobs staged before keep the indices that are theirs, and this device's row has changed where PREV
has another or none. The traversal state at the new NEXT is ready with it, also where a rebuild was under way, which the spec leaves open
(DESIGN CHOICE; log 32). -/
def State.applyPartition (s0 : State) (i : Nat) (k0 : Key) (new prev : Bytes) : State :=
  let s := s0.assignKey i
  let k := (s.key? i).getD k0
  match ownRow new with
  | none => s
  | some (_, lo, hi) =>
    let b1 := putAt (putAt k.body 56 (new.take 4)) 60 ((sha3_256 new).take 16)
    let changed := ownRow prev != ownRow new
    let k' := { k with version := k.version + 1, durable := false, inRound := false, body := if changed then putRange b1 lo lo hi else b1 }
    let s1 := (s.touch k.domain i).setKey i k'
    if changed then
      let next := ((s.counter? i).map (·.next)).getD k.rangeLo
      ((((s1.lose (k.rangeHi - next)).setCounter i (counterAt lo))).refreshTraversal i).reserve i
    else s1

/-- A peer shows another digest for the same epoch (R195): the key is latched exhausted. A VERSION of 0xFFFFFFFF advances as any
other, since the spec gives this entry change no exception (DESIGN CHOICE; log 32). -/
def State.partitionConflict (s0 : State) (i : Nat) (k0 : Key) : State :=
  let s := s0.assignKey i
  let k := (s.key? i).getD k0
  match s.counter? i with
  | none => s
  | some c =>
    let k' := { k with version := k.version + 1, durable := false, inRound := false, body := putRange k.body c.next k.rangeLo c.next }
    ((((s.raise 0x6D).touch k.domain i).setKey i k').setCounter i { c with ceilC := c.next, ceilRound := c.next }).lose (k.ceil - c.next)

end Sys2Proof.Machine
end

