-- ==== Sys2Proof/Machine/Skipper.lean ====
section
/-! DEFINITION. FN-DSA on the Skipper cores, and composite jobs (06). -/

namespace Sys2Proof.Machine

open Sys2Proof

/-! ### FN-DSA (R143 to R151) -/

/-- Signature length of an FN-DSA set (R143). -/
def fnSig (pset : Nat) : Nat := nth [666, 1280] pset

/-- Block length (R151). -/
def fnP (pset : Nat) : Nat := nth [292, 586] pset

/-- Verification and self-verification length (R151). -/
def fnV (pset : Nat) : Nat := nth [8, 14] pset

/-- An FN-DSA set that is defined and enabled (R143, R164). -/
def fnPset (s : State) (pset : Nat) : Bool := classPset 3 pset && bit (s.cfg 0x3210 1) (pset - 1)

/-- FNDSA_VARIANTS permits the header's (R164). -/
def fnVariant (s : State) (h : Header) : Bool := if h.has flPrehash then bit (s.cfg 0x3210 2) 1 else bit (s.cfg 0x3210 2) 0

/-- FNDSA_SIGN (R146 to R149): a usable Skipper unit and a usable Swallowtail unit. -/
def fndsaSignSpec (s : State) (h : Header) (p : ParamBlock) : JobSpec :=
  { ctxSignSpec h p 3 h.pset (s.cfg 0x3210 4) (s.cfg 0x3200 6) (fnSig h.pset) 0 with
    psetOk := fnPset s h.pset, flagsOk := fnVariant s h, cls := cSkipper, hi := 3, cls2 := cSwallowtail, triple := true,
    masked := true, drbg := true, attempts := some (fnP h.pset, fnV h.pset, dsaE h p h.inLen) }

/-- FNDSA_VERIFY (R146, R150). -/
def fndsaVerifySpec (s : State) (h : Header) (p : ParamBlock) : JobSpec :=
  let head := (if h.nullKey then publicLen 3 h.pset else 0) + fnSig h.pset
  { ctxVerifySpec h p 3 h.pset (s.cfg 0x3210 4) (s.cfg 0x3200 6) (fnSig h.pset) with
    psetOk := fnPset s h.pset, flagsOk := fnVariant s h, cls := cSwallowtail, hi := 15, triple := true,
    sched := some (fnV h.pset + dsaE h p (h.inLen - head)) }

/-- The salt of a signature, the first 40 bytes drawn, which all its attempts share (R147). -/
def Job.fnSalt (j : Job) : Bytes := j.random 40

/-- The sampler input of attempt `a`, counted from 0 (R147): SHAKE256(sampler seed ‖ a + 1), of which 64 bytes name the stream. -/
def Job.fnSampler (j : Job) (a : Nat) : Bytes := shake256 ((j.random 72).drop 40 ++ leBytes 2 (a + 1)) 64

/-- The padded signature of an attempt: header byte, salt, and the compressed s2 (R143; log 57). -/
def fnSignature (pset : Nat) (key m salt sampler : Bytes) : Bytes :=
  [u8 (0x38 + pset)] ++ salt ++ primOut .sign [tag 3 pset, key, m, salt, sampler] (fnSig pset - 41)

/-- FNDSA_SIGN (R147, R148): a 40-byte salt and a 32-byte sampler seed from the domain's DRBG. -/
def execFndsaSign (slot : Fin 4096) (s : State) : Host.Outcome State Fault Refusal :=
  s.runOp slot.val 0x0301 fun s j =>
    let m := messageRep j.hdr j.pb [] j.input
    let key := fnKey j.hdr.pset j.secret
    s.signBlocks slot.val j 2 (fnP j.hdr.pset) (fnV j.hdr.pset) (dsaE j.hdr j.pb j.hdr.inLen) 0 0
      (fun a => Config.primB .attemptOk [tag 3 j.hdr.pset, key, m, j.fnSalt, j.fnSampler a])
      (fun a => fnSignature j.hdr.pset key m j.fnSalt (j.fnSampler a))
      (fun _ => [(entryKey 0x3211 1, 1)])

/-! #### The encoding of s2 (R150; log 57) -/

/-- The bits of a byte string, the highest of each byte first. -/
def bitString (b : Bytes) : List Bool := b.flatMap (fun x => (List.range 8).map (fun i => x.toNat.testBit (7 - i)))

/-- The value of a run of bits, the highest first. -/
def bitValue (l : List Bool) : Nat := l.foldl (fun v b => 2 * v + flag b) 0

/-- A run of zeros that a one ends: its length and the rest, none where the string ends first. -/
def unary : List Bool → Option (Nat × List Bool)
  | [] => none
  | true :: r => some (0, r)
  | false :: r => (unary r).map (fun x => (x.1 + 1, x.2))

/-- `n` coefficients: a sign, seven low bits, and the rest in unary. A coefficient of 2,048 or more, or a negative zero, is
malformed. The bits that follow the last are the padding. -/
def decompress : Nat → List Bool → Option (List Int × List Bool)
  | 0, l => some ([], l)
  | n + 1, l =>
    if l.length < 8 then none
    else match unary (l.drop 8) with
      | none => none
      | some (high, rest) =>
        let v := 128 * high + bitValue ((l.drop 1).take 7)
        let neg := l.headD false
        if 16 ≤ high ∨ (neg ∧ v = 0) then none
        else (decompress n rest).map (fun x => ((if neg then -(v : Int) else v) :: x.1, x.2))

/-- The bound on the squared norm of (s1, s2) (log 57). -/
def fnBound (pset : Nat) : Nat := nth [34034726, 70265242] pset

/-- The four conditions of R150 on a signature: header byte, encoding of s2, padding, and squared norm. -/
def fnVerifies (pset : Nat) (pk m sig : Bytes) : Bool :=
  byteAt sig 0 == 0x38 + pset
    && (match decompress (512 * pset) (bitString (sig.drop 41)) with
      | none => false
      | some (s2, pad) => pad.all (fun b => !b)
          && decide (Config.primN .verify [tag 3 pset, pk, m, slice sig 1 40, s2.flatMap (fun v => leBytes 2 ((v + 65536) % 65536).toNat)]
                     ≤ fnBound pset))

/-- FNDSA_VERIFY (R150): a host key's coefficients are checked, and then the signature. -/
def execFndsaVerify (slot : Fin 4096) (s : State) : Host.Outcome State Fault Refusal :=
  s.runOp slot.val 0x0302 fun s j =>
    let n := publicLen 3 j.hdr.pset
    let pk := j.peerKey n
    let rest := j.afterKey n
    let m := rest.drop (fnSig j.hdr.pset)
    s.finish slot.val (fnV j.hdr.pset + dsaE j.hdr j.pb m.length)
      { status :=
          if j.hdr.nullKey && !fnPkOk j.hdr.pset pk then stInputRange
          else if fnVerifies j.hdr.pset pk (messageRep j.hdr j.pb [] m) (rest.take (fnSig j.hdr.pset)) then stOk else stVerifyFail }

/-! ### Composite pairs (R152 to R162) -/

/-- The secrets of the two halves of a job: from a pair's master seed, or the two entries of the two-handle form (R154). -/
def halves (j : Job) : Bytes × Bytes :=
  if j.hdr.auxHandle = 0 then pairKeys j.hdr.pset j.secret else (j.secret, j.auxSecret)

/-- The public keys of the two halves: of the entries, or at the head of the input. -/
def pubHalves (j : Job) (pset : Nat) : Bytes × Bytes :=
  let n := publicLen1 (pqHalf pset).1 (pqHalf pset).2
  if j.hdr.auxHandle ≠ 0 then (j.keyPk, j.auxPk)
  else let pk := j.peerKey (publicLen 15 pset)
       (pk.take n, pk.drop n)

/-- L_cl of the first or second operation of a pair (R162). -/
def clLen (pset : Nat) (second : Bool) : Nat :=
  let p := match pset with
    | 0x01 => (140, 70) | 0x02 => (400, 200) | 0x03 => (420, 210) | 0x11 => (80, 120) | 0x12 => (100, 150)
    | 0x13 => (80, 120) | 0x14 => (230, 340) | _ => (250, 360)
  if second then p.2 else p.1

/-- Schedule of the KEM operations and of verification without E (R162). -/
def pairSched (pset : Nat) (second : Bool) : Nat :=
  match pset with
  | 0x01 => if second then 73 else 143
  | 0x02 => if second then 203 else 403
  | 0x03 => if second then 213 else 423
  | _ => clLen pset true + 2

/-- The handle forms of a composite operation (R39, R152, R154): whether the key is a pair or the lattice half, and the
classical half. -/
def pairKeyOk (h : Header) (k : Key) : Bool :=
  if h.auxHandle = 0 then k.cls == 15 && k.pset == h.pset
  else k.cls == (pqHalf h.pset).1 && k.pset == (pqHalf h.pset).2

/-- The classical half of the two-handle form. -/
def pairAuxOk (h : Header) (k : Key) : Bool := k.cls == (clHalf h.pset).1 && k.pset == (clHalf h.pset).2

/-- The hash lane of the classical half in a composite signature: SHA-2 based except Ed448 (R223). -/
def pairHash (pset : Nat) : Nat := if pset < 0x11 ∨ pset = 0x15 then 0 else 1

/-- The rules that composite operations share (R162). Of the policies, R164 names HKEM_SETS and CSIG_SETS for a pair: MLKEM_SETS,
MLDSA_SETS and EC_CURVES, which the chapters of the halves apply to their own operations, restrict no pair here (DESIGN CHOICE:
no rule says that they do or do not; log 58). -/
def pairBase (s : State) (h : Header) : JobSpec :=
  { key := .vault, aux := true, cls := cSwallowtail, hi := 15, cls2 := cIbex, triple := true,
    psetOk := if h.opcode ≤ 0x0F02 then decide (1 ≤ h.pset) && decide (h.pset ≤ 3) && bit (s.cfg 0x3210 6) (h.pset - 1)
              else decide (0x11 ≤ h.pset) && decide (h.pset ≤ 0x15) && bit (s.cfg 0x3210 7) (h.pset - 0x11),
    keyOk := pairKeyOk h, auxOk := pairAuxOk h }

/-- HKEM_ENCAPS (R155); the public key is the head of the input where KEY_HANDLE is null, and AUX_HANDLE is then null. -/
def hkemEncapsSpec (s : State) (h : Header) (p : ParamBlock) : JobSpec :=
  let ct := kemCt (pqHalf h.pset).2 + publicLen1 (clHalf h.pset).1 (clHalf h.pset).2
  { pairBase s h with
    key := .either, streamOk := !(h.nullKey && h.auxHandle != 0), flags := fVault ||| fIn ||| fOut,
    inLen := some (if h.nullKey then publicLen 15 h.pset else 0), outNeed := ct + (if h.tv then 0 else 32),
    ctx := if h.tv then 2 else 1, options := 1, creates := h.tv, templateOk := template32 p, bodyOk := p.body.isEmpty,
    masked := true, drbg := true, usage := some aEncaps, auxUsage := some aAgree,
    sched := some (pairSched h.pset false), cls2Len := clLen h.pset false }

/-- HKEM_DECAPS (R155). -/
def hkemDecapsSpec (s : State) (h : Header) (p : ParamBlock) : JobSpec :=
  { pairBase s h with
    flags := fVault ||| fIn ||| fOut,
    inLen := some (kemCt (pqHalf h.pset).2 + publicLen1 (clHalf h.pset).1 (clHalf h.pset).2),
    outNeed := if h.tv then 0 else 32, ctx := if h.tv then 2 else 1, options := 1, creates := h.tv,
    templateOk := template32 p, bodyOk := p.body.isEmpty, masked := true, usage := some aDecaps, auxUsage := some aAgree,
    sched := some (pairSched h.pset true), cls2Len := clLen h.pset true,
    keyOk := fun k => pairKeyOk h k && k.state == 1, auxOk := fun k => pairAuxOk h k && k.state == 1 }

/-- The combined secret (R156). -/
def hkemCombine (pset : Nat) (ssPq ssCl ctPq ctCl pkCl : Bytes) : Bytes :=
  sha3_256 (ascii "Quarus-HKEM-1".toList ++ [u8 pset] ++ ssPq ++ ssCl ++ ctPq ++ ctCl ++ pkCl)

/-- The classical shared secret (R156): the x-coordinate of the P-384 product, or the X25519 or X448 output. -/
def clAgree (pset : Nat) (secret peer : Bytes) : Bytes :=
  if (clHalf pset).1 = 10 then ecAgree (clHalf pset).2 secret peer else xAgree (clHalf pset).2 secret peer

/-- The classical output is checked against zero (R157 step 3). -/
def checksZero (j : Job) : Bool := j.hdr.pset != 0x02 && (j.pb.checkZero || j.cfg 0x3210 8 == 1)

/-- The checks of R157 in their order, and the result where all pass. -/
def hkemResult (j : Job) (ekBad ptBad : Bool) (ssCl : Bytes) (r : Result) : Result :=
  if ekBad then { status := stInputRange }
  else if ptBad then { status := stPointInvalid }
  else if checksZero j && allZero ssCl then { status := stInputRange }
  else r

/-- HKEM_ENCAPS (R155 to R158). -/
def execHkemEncaps (slot : Fin 4096) (s : State) : Host.Outcome State Fault Refusal :=
  s.runOp slot.val 0x0F01 fun s j =>
    let ps := j.hdr.pset
    let (ek, pkCl) := pubHalves j ps
    let m := j.random 32
    let eph := clSecret ps ((j.random (32 + clKeyLen ps)).drop 32)
    let ctPq := mlkemCipher (pqHalf ps).2 ek m
    let ctCl := publicOf1 (clHalf ps).1 (clHalf ps).2 eph []
    let ssCl := clAgree ps eph pkCl
    let ss := hkemCombine ps (mlkemSecret (pqHalf ps).2 ek m) ssCl ctPq ctCl pkCl
    (s.finish slot.val (pairSched ps false)
      (hkemResult j (j.hdr.nullKey && !ekOk ek)
        (ps == 0x02 && !pointOk 2 pkCl) ssCl (vaultOrOut j ss (ctPq ++ ctCl)))).useMasks
      (nth [3584, 5376, 7168] (pqHalf ps).2 + nth [32, 56, 56] ps)

/-- HKEM_DECAPS (R155 to R158). -/
def execHkemDecaps (slot : Fin 4096) (s : State) : Host.Outcome State Fault Refusal :=
  s.runOp slot.val 0x0F02 fun s j =>
    let ps := j.hdr.pset
    let (dk, cl) := halves j
    let ctPq := j.input.take (kemCt (pqHalf ps).2)
    let ctCl := j.input.drop (kemCt (pqHalf ps).2)
    let ssCl := clAgree ps cl ctCl
    let ss := hkemCombine ps (mlkemRecover (pqHalf ps).2 dk ctPq) ssCl ctPq ctCl (pubHalves j ps).2
    (s.finish slot.val (pairSched ps true)
      (hkemResult j false (ps == 0x02 && !pointOk 2 ctCl) ssCl (vaultOrOut j ss []))).useMasks
      (nth [5120, 7680, 10240] (pqHalf ps).2 + nth [32, 56, 56] ps)

/-- Length of the classical signature of a pair (R159). -/
def clSig (pset : Nat) : Nat := match pset with | 0x14 => 96 | 0x15 => 114 | _ => 64

/-- Length of a composite signature (R159). -/
def csigLen (pset : Nat) : Nat := 4 + dsaSig (pqHalf pset).2 + clSig pset

/-- The prefix of the lattice half's context string (R160). -/
def csigPrefix (pset : Nat) : Bytes := ascii "QCSIG1".toList ++ [u8 pset]

/-- M* of the classical half (R160). -/
def csigClassical (h : Header) (p : ParamBlock) (m : Bytes) : Bytes :=
  csigPrefix h.pset ++ [u8 p.ph, u8 p.ctxStr.length] ++ p.ctxStr
    ++ (if h.has flPrehash then m else primOut .digest [[u8 9], m] 64)

/-- The absorption of the lattice half (R128, R160). -/
def csigE (h : Header) (p : ParamBlock) (n : Nat) : Nat := absorb (messageRepLen h p 7 n)

/-- CSIG_SIGN (R160, R162). MLDSA_MSG_MAX and PH_ALGS bound it, since its body and lengths are those of R124 and R125;
MLDSA_VARIANTS does not: R139 names it for the ML-DSA operations, and R160 does not refer to it (DESIGN CHOICE; log 58). -/
def csigSignSpec (s : State) (h : Header) (p : ParamBlock) : JobSpec :=
  { ctxSignSpec h p 2 h.pset (s.cfg 0x3200 5) (s.cfg 0x3200 6) (csigLen h.pset) fDet with
    aux := true, psetOk := (pairBase s h).psetOk, cls := cSwallowtail, hi := 15, cls2 := cIbex, triple := true,
    hash := pairHash h.pset, bodyOk := ctxStrOk h p 248 (s.cfg 0x3200 6),
    masked := true, drbg := !h.has flDet, keyOk := fun k => pairKeyOk h k && k.state == 1,
    auxOk := fun k => pairAuxOk h k && k.state == 1, auxUsage := some aSign,
    auxAttrOk := fun k => !h.has flDet || (k.attr aDetOk && !k.attr aHedgedOnly),
    attempts := some (dsaP (pqHalf h.pset).2, dsaV (pqHalf h.pset).2, csigE h p h.inLen), cls2Len := clLen h.pset false }

/-- CSIG_VERIFY (R161, R162). -/
def csigVerifySpec (s : State) (h : Header) (p : ParamBlock) : JobSpec :=
  let head := (if h.nullKey then publicLen 15 h.pset else 0) + csigLen h.pset
  { ctxVerifySpec h p 15 h.pset (s.cfg 0x3200 5) (s.cfg 0x3200 6) (csigLen h.pset) with
    aux := true, streamOk := !(h.nullKey && h.auxHandle != 0), psetOk := (pairBase s h).psetOk,
    cls := cSwallowtail, hi := 15, cls2 := cIbex, triple := true, hash := pairHash h.pset,
    bodyOk := ctxStrOk h p 248 (s.cfg 0x3200 6), keyOk := pairKeyOk h, auxOk := pairAuxOk h, auxUsage := some aVerify,
    sched := some (pairSched h.pset true + csigE h p (h.inLen - head)), cls2Len := clLen h.pset true }

/-- Mask bytes of the classical half of a composite signature (R224). -/
def clMasks (pset : Nat) : Nat := match pset with | 0x12 => 72 | 0x14 => 104 | 0x15 => 65 | _ => 40

/-- The hash of M* for ECDSA: SHA-256 for P-256, SHA-384 for P-384 (R160). -/
def clHash (pset : Nat) : Nat := (clHalf pset).2

/-- The classical half of a composite signature (R159, R160): ECDSA with a drawn nonce, or that of RFC 6979 without a draw, and
pure EdDSA, which takes none. -/
def clSign (pset : Nat) (secret m : Bytes) (draw : Option Bytes) : Bytes :=
  let c := (clHalf pset).2
  if (clHalf pset).1 = 10 then
    let h := primOut .digest [[u8 (clHash pset)], m] (phLen (clHash pset))
    ecdsaSig c secret h (match draw with
      | some b => reducedScalar c (b.take (nth [40, 56, 74] c))
      | none => nonceOf c (clHash pset) secret h)
  else edSign c 0 secret [] m

/-- The verification of a classical half (R160, R161): the ranges and decodings of its scheme, and its equation. -/
def clVerifies (pset : Nat) (pk m sig : Bytes) : Bool :=
  let c := (clHalf pset).2
  if (clHalf pset).1 = 10 then
    ecdsaRange c sig && ecdsaVerifies c pk (primOut .digest [[u8 (clHash pset)], m] (phLen (clHash pset))) sig
  else edInputOk c pk sig && edVerifies c 0 pk [] m sig

/-- CSIG_SIGN (R159, R160, R162). Its blocks and block limits count in 0x3201 as those of an ML-DSA signature do, and the signature itself
does not: the spec names neither (DESIGN CHOICE; log 75). -/
def execCsigSign (slot : Fin 4096) (s : State) : Host.Outcome State Fault Refusal :=
  s.runOp slot.val 0x0F03 fun s j =>
    let ps := j.hdr.pset
    let lp := (pqHalf ps).2
    let (sk, cl) := halves j
    let mu := dsaMu (pubHalves j ps).1 (messageRep j.hdr j.pb (csigPrefix ps) j.input)
    let rnd := if j.hdr.has flDet then zeros 32 else j.random 32
    let sigCl := clSign ps cl (csigClassical j.hdr j.pb j.input) (if j.hdr.has flDet then none else some (j.rand.drop 32))
    (s.signBlocks slot.val j 4 (dsaP lp) (dsaV lp) (csigE j.hdr j.pb j.hdr.inLen) (clLen ps false) 2
      (dsaPasses lp sk mu rnd)
      (fun a => [1#8, u8 ps] ++ leBytes 2 (dsaSig lp) ++ dsaSignature lp sk mu rnd a ++ sigCl)
      (fun _ => [])).useMasks (clMasks ps)

/-- CSIG_VERIFY (R161): both halves in full; an off-curve host pk_cl is POINT_INVALID before VERIFY_FAIL. -/
def execCsigVerify (slot : Fin 4096) (s : State) : Host.Outcome State Fault Refusal :=
  s.runOp slot.val 0x0F04 fun s j =>
    let ps := j.hdr.pset
    let lp := (pqHalf ps).2
    let (pk, pkCl) := pubHalves j ps
    let rest := j.afterKey (publicLen 15 ps)
    let sig := rest.take (csigLen ps)
    let m := rest.drop (csigLen ps)
    let ok := byteAt sig 0 == 1 && byteAt sig 1 == ps && field sig 2 2 == dsaSig lp
      && dsaVerifies lp pk (dsaMu pk (messageRep j.hdr j.pb (csigPrefix ps) m)) (slice sig 4 (dsaSig lp))
      && clVerifies ps pkCl (csigClassical j.hdr j.pb m) (sig.drop (4 + dsaSig lp))
    s.finish slot.val (pairSched ps true + csigE j.hdr j.pb m.length)
      { status := if j.hdr.nullKey && (clHalf ps).1 == 10 && !pointOk (clHalf ps).2 pkCl
                  then stPointInvalid else if ok then stOk else stVerifyFail }

end Sys2Proof.Machine
end

