-- ==== Sys2Proof/Machine/Symmetric.lean ====
section
/-! DEFINITION. Ciphers, digests, MACs and key derivation on the symmetric plane and the hash lanes (10). -/

namespace Sys2Proof.Machine

open Sys2Proof

/-! ### Bodies (R257) -/

/-- IV_LEN. -/
def ivLen (b : Bytes) : Nat := byteAt b 0

/-- TAG_LEN. -/
def tagLen (b : Bytes) : Nat := byteAt b 1

/-- STR_LEN. -/
def strLen (b : Bytes) : Nat := field b 2 2

/-- IV. -/
def ivOf (b : Bytes) : Bytes := slice b 4 (ivLen b)

/-- STR. -/
def strOf (b : Bytes) : Bytes := slice b (4 + ivLen b) (strLen b)

/-! ### Functions (R254) -/

/-- Output length of a digest function; 0 for an XOF. -/
def hLen (f : Nat) : Nat := if f ≤ 9 then phLen f else 0

/-- R of a function. -/
def fnRate (f : Nat) : Nat := nth [512, 768, 768, 512, 768, 2880, 2720, 2080, 1440, 3360, 2720, 3360, 2720] f

/-- p, the minimum padding of a function. -/
def fnPad (f : Nat) : Nat := nth [9, 17, 17, 9, 17, 1, 1, 1, 1, 1, 1, 1, 1] f

/-- The value of a digest, XOF or cSHAKE function, `n` bytes of it. -/
def fnOut (f : Nat) (str m : Bytes) (n : Nat) : Bytes :=
  if f ≤ 9 then (primOut .digest [[u8 f], m] (hLen f)).take n
  else if f ≤ 11 then primOut .xof [[u8 f], m] n
  else primOut .cshake [[u8 f], m, str] n

/-- HMAC with a digest function. -/
def hmac (f : Nat) (key m : Bytes) : Bytes := primOut .hmac [[u8 f], key, m] (hLen f)

/-- KMAC of `n` bytes: its length is an input of the function (R254, R261). -/
def kmac (f : Nat) (key m str : Bytes) (n : Nat) : Bytes := primOut .kmac [[u8 f], key, m, str, beBytes 4 (8 * n)] n

/-- HMAC or KMAC by function, `n` bytes. -/
def macOut (f : Nat) (key m str : Bytes) (n : Nat) : Bytes := if f ≤ 9 then (hmac f key m).take n else kmac f key m str n

/-! ### Block cipher modes (R256, R259) -/

/-- One block through the inverse cipher. -/
def aesInverse (key b : Bytes) : Bytes := primOut .aesEcbDec [key, b] 16

/-- The blocks of a byte string; the first argument bounds their number. -/
def blocks16 : Nat → Bytes → List Bytes
  | 0, _ => []
  | n + 1, b => if b.isEmpty then [] else b.take 16 :: blocks16 n (b.drop 16)

/-- CBC encryption of a list of blocks. -/
def cbcEnc (key : Bytes) : Bytes → List Bytes → Bytes
  | _, [] => []
  | iv, b :: r => let c := aesBlock key (xorBytes iv b)
                  c ++ cbcEnc key c r

/-- CBC decryption of a list of blocks. -/
def cbcDec (key : Bytes) : Bytes → List Bytes → Bytes
  | _, [] => []
  | iv, c :: r => xorBytes iv (aesInverse key c) ++ cbcDec key c r

/-- The output of an enciphering or deciphering operation over the data up to a point. -/
def cipherOut (op : Nat) (key iv aad data : Bytes) : Bytes :=
  let bl := blocks16 (ceilDiv data.length 16) data
  match op with
  | 0x0C01 => bl.flatMap (aesBlock key)
  | 0x0C02 => bl.flatMap (aesInverse key)
  | 0x0C03 => cbcEnc key iv bl
  | 0x0C04 => cbcDec key iv bl
  | 0x0C05 => ctrOut key iv data
  | 0x0C06 | 0x0C07 => gcmCipher key iv data
  | 0x0C0A | 0x0C0B => xorBytes data (primOut .ccmCipher [key, iv] data.length)
  | 0x0C0C => primOut .xtsEnc [key, iv, data] data.length
  | 0x0C0D => primOut .xtsDec [key, iv, data] data.length
  | 0x0E01 | 0x0E02 => xorBytes data (primOut .chacha [key, iv] data.length)
  | 0x0E03 => primOut .asconCipher [[0#8], key, iv, aad, data] data.length
  | _ => primOut .asconCipher [[1#8], key, iv, aad, data] data.length

/-- The tag of an AEAD operation or AES MAC over the whole computation. -/
def tagOut (op : Nat) (key iv aad pt ct : Bytes) (n : Nat) : Bytes :=
  match op with
  | 0x0C06 | 0x0C07 => primOut .gcmTag [key, iv, aad, ct] n
  | 0x0C08 | 0x0C09 => primOut .gcmTag [key, iv, aad ++ pt, []] n
  | 0x0C0A | 0x0C0B => primOut .ccmTag [key, iv, aad, pt, [u8 n]] n
  | 0x0C0E | 0x0C0F => primOut .cmac [key, pt] n
  | 0x0E01 | 0x0E02 => primOut .poly1305Tag [key, iv, aad, ct] n
  | _ => primOut .asconTag [key, iv, aad, ct] n

/-! ### Kinds of operation -/

/-- An encrypting AEAD operation. -/
def isAeadEnc (op : Nat) : Bool := op == 0x0C06 || op == 0x0C0A || op == 0x0E01 || op == 0x0E03

/-- A decrypting AEAD operation. -/
def isAeadDec (op : Nat) : Bool := op == 0x0C07 || op == 0x0C0B || op == 0x0E02 || op == 0x0E04

/-- A cipher without a tag. -/
def isPlainCipher (op : Nat) : Bool := (decide (0x0C01 ≤ op) && decide (op ≤ 0x0C05)) || op == 0x0C0C || op == 0x0C0D

/-- An operation that makes a MAC, a digest or an XOF output. -/
def isMaker (op : Nat) : Bool :=
  op == 0x0C08 || op == 0x0C0E || op == 0x0D01 || op == 0x0D02 || op == 0x0D04 || op == 0x0D05 || op == 0x0E05 || op == 0x0E06

/-- An operation that compares a MAC or a digest (R260). -/
def isVerifier (op : Nat) : Bool := op == 0x0C09 || op == 0x0C0F || op == 0x0D03 || op == 0x0D06

/-- The tag takes the end of the input. -/
def tagInInput (op : Nat) : Bool := isAeadDec op || isVerifier op

/-- The operations of the hash lanes (R250). -/
def isLaneJob (op : Nat) : Bool := decide (0x0D01 ≤ op) && decide (op ≤ 0x0D09)

/-- AES operations of the AES lanes. -/
def isAes (op : Nat) : Bool := op / 256 == 0x0C

/-- The bit of AES_MODES or OTHER_ALGS that enables an operation (R276); KWP has its own. -/
def modeBit (op : Nat) : Nat :=
  if isAes op then nth [0, 0, 1, 1, 2, 3, 3, 4, 4, 5, 5, 6, 6, 7, 7, 8, 8] (op % 256)
  else nth [0, 0, 1, 1, 2, 3] (op % 256)

/-- The operation is enabled (R276). -/
def modeOn (s : State) (op : Nat) : Bool :=
  if isAes op then bit (s.cfg 0x3250 1) (modeBit op)
  else if op / 256 = 0x0E then bit (s.cfg 0x3250 2) (modeBit op)
  else if 0x0D07 ≤ op ∧ op ≤ 0x0D09 then bit (s.cfg 0x3250 4) (op - 0x0D07)
  else true

/-- The functions that an operation of the 0x0D group accepts (R254). -/
def fnAccepted (op f : Nat) : Bool :=
  let dig := decide (1 ≤ f) && decide (f ≤ 9)
  match op with
  | 0x0D01 | 0x0D04 | 0x0D08 => dig
  | 0x0D02 => decide (10 ≤ f) && decide (f ≤ 13)
  | 0x0D03 => decide (1 ≤ f) && decide (f ≤ 13)
  | 0x0D05 => f == 12 || f == 13
  | _ => dig || f == 12 || f == 13

/-- PSET of a symmetric operation (R254, R276). -/
def symPset (s : State) (op f : Nat) : Bool :=
  if isAes op then (if op = 0x0C0C ∨ op = 0x0C0D then f == 0x11 || f == 0x13 else decide (1 ≤ f) && decide (f ≤ 3))
  else if op / 256 = 0x0D then fnAccepted op f && bit (s.cfg 0x3250 3) f
  else if op = 0x0E01 ∨ op = 0x0E02 then f == 1
  else if op = 0x0E03 ∨ op = 0x0E04 then f == 2
  else f == 0

/-- Class and first and last unit that run an operation (R249, R250): AES lanes 0 to 3, ChaCha lanes 4 and 5, Ascon lanes
6 and 7, and lane groups of the kind of the function. -/
def symUnits (op f : Nat) : Nat × Nat × Nat :=
  if isAes op then (cSymmetric, 0, 3)
  else if isLaneJob op then (if f ≤ 5 then (cHawkmoth, 6, 11) else (cHawkmoth, 0, 5))
  else if op = 0x0E01 ∨ op = 0x0E02 then (cSymmetric, 4, 5)
  else (cSymmetric, 6, 7)

/-- The usage bit that an operation needs (R256); 99 marks none, or for CTR either of two. -/
def symUsage (op : Nat) : Nat :=
  match op with
  | 0x0C01 | 0x0C03 | 0x0C06 | 0x0C0A | 0x0C0C | 0x0E01 | 0x0E03 => aEncrypt
  | 0x0C02 | 0x0C04 | 0x0C07 | 0x0C0B | 0x0C0D | 0x0E02 | 0x0E04 => aDecrypt
  | 0x0C08 | 0x0C0E | 0x0D04 | 0x0D05 => aMacGen
  | 0x0C09 | 0x0C0F | 0x0D06 => aMacVerify
  | 0x0C10 => aWrap
  | 0x0C11 => aUnwrap
  | 0x0D07 | 0x0D08 | 0x0D09 => aDerive
  | _ => 99

/-- The operation takes no key. -/
def keyless (op : Nat) : Bool := op == 0x0D01 || op == 0x0D02 || op == 0x0D03 || op == 0x0E05 || op == 0x0E06

/-- The class of the key that an operation takes. -/
def symClass (op : Nat) : Nat := op / 256

/-- The attribute rules of ECB and of DEV_IV keys, and the usages of CTR, either of which serves (R256, R262). -/
def symAttr (op iv : Nat) (k : Key) : Bool :=
  (if op = 0x0C01 ∨ op = 0x0C02 then k.attr aEcbOk else true)
    && (op != 0x0C05 || k.attr aEncrypt || k.attr aDecrypt)
    && (if k.attr aDevIv then
          op == 0x0C07 || op == 0x0C09 || ((op == 0x0C06 || op == 0x0C08) && iv == 0)
        else !((op == 0x0C06 || op == 0x0C08) && iv == 0))

/-- A CTR computation of `n` bytes does not carry its counter past the end (R259). -/
def ctrFits (iv : Bytes) (n : Nat) : Bool := decide (beNat (slice iv 12 4) + ceilDiv n 16 ≤ 2 ^ 32)

/-- The limit on the data of one computation (R258, R259). -/
def dataFits (op : Nat) (body : Bytes) (n : Nat) : Bool :=
  match op with
  | 0x0C05 => ctrFits (ivOf body) n
  | 0x0C06 | 0x0C07 | 0x0C08 | 0x0C09 => decide (n ≤ 2 ^ 36 - 32)
  | 0x0C0A | 0x0C0B => decide (n < 2 ^ (8 * (15 - ivLen body))) && decide (n ≤ 65536)
  | 0x0E01 | 0x0E02 => decide (n ≤ 2 ^ 38 - 64)
  | 0x0E03 | 0x0E04 => decide (n ≤ 2 ^ 48)
  | _ => true

/-- The checks of IV_LEN, TAG_LEN and STR_LEN (R258). -/
def symBodyOk (s : State) (op f : Nat) (b : Bytes) : Bool :=
  let iv := ivLen b
  let t := tagLen b
  let least := s.cfg 0x3250 5
  let gcmTag := decide (least ≤ t) && (t == 8 || (decide (12 ≤ t) && decide (t ≤ 16)))
  decide (b.length = 4 + iv + strLen b)
    && (if (f = 12 ∨ f = 13) ∧ op / 256 = 0x0D then decide (strLen b ≤ 64) else strLen b == 0)
    && (match op with
        | 0x0C03 | 0x0C04 | 0x0C05 | 0x0C0C | 0x0C0D => iv == 16 && t == 0
        | 0x0C06 | 0x0C08 => (iv == 12 || iv == 0) && gcmTag
        | 0x0C07 | 0x0C09 => iv == 12 && gcmTag
        | 0x0C0A | 0x0C0B => decide (7 ≤ iv) && decide (iv ≤ 13) && decide (8 ≤ t) && decide (t ≤ 16) && t % 2 == 0
        | 0x0C0E | 0x0C0F => iv == 0 && decide (8 ≤ t) && decide (t ≤ 16)
        | 0x0C10 | 0x0C11 => iv == 0 && t == 0
        | 0x0E01 | 0x0E02 => iv == 12 && t == 16
        | 0x0E03 | 0x0E04 => iv == 16 && t == 16
        | 0x0D03 => iv == 0 && (if f ≤ 9 then t == hLen f else decide (16 ≤ t))
        | 0x0D04 => iv == 0 && decide (least ≤ t) && decide (t ≤ hLen f)
        | 0x0D05 => iv == 0 && decide (least ≤ t) && decide (t ≤ 64)
        | 0x0D06 => iv == 0 && decide (least ≤ t) && decide (t ≤ if f ≤ 9 then hLen f else 64)
        | _ => iv == 0 && t == 0)

/-- KWP (R256). -/
def ParamBlock.opt8 (p : ParamBlock) : Bool := bit p.options 8

/-- IN_LEN of a one-shot operation (R258). -/
def symInOk (op : Nat) (h : Header) (p : ParamBlock) : Bool :=
  let n := h.inLen
  match op with
  | 0x0C01 | 0x0C02 | 0x0C03 | 0x0C04 => decide (0 < n) && n % 16 == 0
  | 0x0C05 => decide (1 ≤ n)
  | 0x0C0C | 0x0C0D => decide (16 ≤ n) && decide (n ≤ 16777216)
  | 0x0C10 => if p.opt8 then decide (1 ≤ n) && decide (n ≤ 4096)
              else n % 8 == 0 && decide (16 ≤ n) && decide (n ≤ 4096)
  | 0x0C11 => n % 8 == 0 && decide (n ≤ 4104) && decide ((if p.opt8 then 16 else 24) ≤ n)
  | _ => if tagInInput op then decide (tagLen p.body ≤ n) else true

/-- The data length of a one-shot operation: the input without its tag (R267). -/
def symData (op : Nat) (h : Header) (p : ParamBlock) : Nat := h.inLen - (if tagInInput op then tagLen p.body else 0)

/-- The bytes that a one-shot operation writes (R256). -/
def symOut (op : Nat) (h : Header) (p : ParamBlock) : Nat :=
  if isPlainCipher op then h.inLen
  else if isAeadEnc op then h.inLen + tagLen p.body
  else if isAeadDec op then h.inLen - tagLen p.body
  else match op with
    | 0x0C08 | 0x0C0E | 0x0D04 | 0x0D05 => tagLen p.body
    | 0x0C10 => 8 * ceilDiv h.inLen 8 + 8
    | 0x0C11 => h.inLen - 8
    | 0x0D01 => hLen h.pset
    | 0x0E05 => 32
    | _ => 0

/-- The operation takes no context block (R257). -/
def bodyless (op : Nat) : Bool := op == 0x0C01 || op == 0x0C02 || op == 0x0D01 || op == 0x0E05 || op == 0x0E06

/-! ### Schedules (R268) -/

/-- What a chunk's schedule depends on. -/
structure Shape where
  op : Nat
  fn : Nat
  /-- associated data, data of the chunk, output bytes of an XOF, and whether a customisation string is present -/
  aad : Nat
  nc : Nat
  out : Nat
  str : Bool
  first : Bool
  last : Bool

/-- H of the table of R268. -/
def schedH (x : Shape) : Nat :=
  if !x.first then 1
  else match x.op with
    | 0x0C0C | 0x0C0D | 0x0C10 | 0x0C11 => 2
    | 0x0C0A | 0x0C0B => 2 + ceilDiv x.aad 128
    | 0x0C06 | 0x0C07 => 1 + ceilDiv x.aad 2048
    | 0x0C08 | 0x0C09 => 1 + ceilDiv (x.aad + x.nc) 2048
    | 0x0E01 | 0x0E02 | 0x0E03 | 0x0E04 => 1 + ceilDiv x.aad 1024
    | _ => 1

/-- D of the table of R268. -/
def schedD (x : Shape) : Nat :=
  match x.op with
  | 0x0C03 | 0x0C0A | 0x0C0B | 0x0C0E | 0x0C0F => ceilDiv x.nc 128
  | 0x0C08 | 0x0C09 => if x.first then 0 else ceilDiv x.nc 2048
  | 0x0E01 | 0x0E02 | 0x0E03 | 0x0E04 => ceilDiv x.nc 1024
  | 0x0E05 | 0x0E06 => ceilDiv (x.nc + 1) 512
  | 0x0D01 | 0x0D02 | 0x0D03 | 0x0D04 | 0x0D05 | 0x0D06 =>
    if x.last then ceilDiv (x.nc + fnPad x.fn) (fnRate x.fn) else ceilDiv x.nc (fnRate x.fn)
  | _ => ceilDiv x.nc 2048

/-- T of the table of R268. -/
def schedT (x : Shape) : Nat :=
  if !x.last then 1
  else match x.op with
    | 0x0D01 => 1
    | 0x0D02 => 1 + ceilDiv x.out (fnRate x.fn)
    | 0x0D03 => if x.fn ≤ 9 then 2 else 2 + ceilDiv x.out (fnRate x.fn)
    | 0x0D04 => 2
    | 0x0D05 => 1 + flag x.str
    | 0x0D06 => if x.fn ≤ 9 then 3 else 2 + flag x.str
    | 0x0E05 => 1
    | 0x0E06 => 1 + ceilDiv x.out 512
    | _ => 2

/-- L of a chunk (R268). -/
def shapeLen (x : Shape) : Nat := schedH x + schedD x + schedT x

/-- 64-bit semiblocks of a wrapped or unwrapped string after padding (R268, R302). -/
def kwSemiblocks (n : Nat) : Nat := ceilDiv n 8

/-! ### Key derivation (R261) -/

/-- The bytes that a KDF derives: OUT_LEN, or the template's key length. -/
def kdfLen (h : Header) (p : ParamBlock) : Nat := if h.tv then secretLen p.cls p.newPset else h.outLen

/-- Which KDF a body is for: 1 KDF_CTR, 2 HKDF, 3 KDF_ONESTEP. -/
def kdfOf (op : Nat) : Nat := op - 0x0D06

/-- The body of a KDF is well formed for its function (R261). -/
def kdfBodyOk (kdf f : Nat) (b : Bytes) : Bool :=
  match kdf with
  | 1 => decide (b.length = 8 + field b 2 2 + field b 4 2) && byteAt b 1 == 0 && field b 6 2 == 0
      && (if f ≤ 9 then [8, 16, 24, 32].contains (byteAt b 0) else byteAt b 0 == 0)
  | 2 => decide (b.length = 8 + field b 0 2 + field b 2 2) && field b 4 4 == 0
  | 3 => decide (b.length = 8 + field b 2 2 + field b 4 2) && byteAt b 1 == 0 && field b 6 2 == 0
      && (if f ≤ 9 then decide (byteAt b 0 ≤ 1) else byteAt b 0 == 2)
  | _ => false

/-- The output limit of a KDF (R261). -/
def kdfLimit (s : State) (kdf f : Nat) (b : Bytes) (n : Nat) : Bool :=
  decide (n ≤ s.cfg 0x3250 7)
    && (match kdf with
        | 1 => decide (9 < f) || decide (n ≤ (2 ^ byteAt b 0 - 1) * hLen f)
        | 2 => decide (n ≤ 255 * hLen f)
        | _ => true)

/-- T(1) ‖ … of HKDF's expansion. -/
def hkdfExpand (f : Nat) (prk info : Bytes) : Nat → Nat → Bytes → Bytes
  | 0, _, _ => []
  | n + 1, i, prev =>
    let t := hmac f prk (prev ++ info ++ [u8 i])
    t ++ hkdfExpand f prk info n (i + 1) t

/-- "KDF", the customisation string of KDF_ONESTEP with KMAC (R261). -/
def kdfName : Bytes := [0x4B#8, 0x44#8, 0x46#8]

/-- Length of the default salt of SP 800-56C, all zeros: the input block of the hash for HMAC, and the rate less 4 for KMAC
(PRESUMED: the published standard; log 56). -/
def defaultSalt (aux f : Nat) : Nat := if aux = 2 then (if f = 12 then 164 else 132) else nth [64, 128, 128, 64, 128, 144, 136, 104, 72] f

/-- The derived bytes of a KDF over a secret, with the second secret of DERIVE (R261, R301). -/
def kdfOut (kdf f : Nat) (key second b : Bytes) (n : Nat) : Bytes :=
  match kdf with
  | 1 =>
    let label := slice b 8 (field b 2 2)
    let ctx := slice b (8 + field b 2 2) (field b 4 2)
    if f ≤ 9 then
      ((List.range (ceilDiv n (hLen f))).flatMap (fun i =>
        hmac f key (beBytes (byteAt b 0 / 8) (i + 1) ++ label ++ [0#8] ++ ctx ++ beBytes 4 (8 * n)))).take n
    else kmac f key ctx label n
  | 2 =>
    let salt := if second.isEmpty then slice b 8 (field b 0 2) else second
    let info := slice b (8 + field b 0 2) (field b 2 2)
    let prk := hmac f (if salt.isEmpty then zeros (hLen f) else salt) key
    (hkdfExpand f prk info (ceilDiv n (hLen f)) 1 []).take n
  | _ =>
    let salt := slice b 8 (field b 2 2)
    let info := slice b (8 + field b 2 2) (field b 4 2)
    let z := key ++ second
    let x := fun (i : Nat) => beBytes 4 i ++ z ++ info
    let dflt := zeros (defaultSalt (byteAt b 0) f)
    if byteAt b 0 = 2 then kmac f (if salt.isEmpty then dflt else salt) (x 1) kdfName n
    else ((List.range (ceilDiv n (hLen f))).flatMap (fun i =>
      if byteAt b 0 = 0 then fnOut f [] (x (i + 1)) (hLen f)
      else hmac f (if salt.isEmpty then dflt else salt) (x (i + 1)))).take n

/-- The schedule of a KDF (R268): `key` is the length of the secret, with a second one. -/
def kdfSched (kdf f key n : Nat) (b : Bytes) : Nat :=
  let r := fnRate f
  let pad := fnPad f
  let blocks := if f ≤ 9 then ceilDiv n (hLen f) else 1
  match kdf with
  | 1 =>
    if f ≤ 9 then 2 + blocks * (1 + ceilDiv (byteAt b 0 / 8 + field b 2 2 + field b 4 2 + 5 + pad) r)
    else 2 + (1 + ceilDiv (field b 2 2 + field b 4 2 + 5 + pad) r + ceilDiv n r)
  | 2 => 4 + ceilDiv (key + pad) r + blocks * (1 + ceilDiv (hLen f + field b 2 2 + 1 + pad) r)
  | _ =>
    let len := 4 + key + field b 4 2
    if f ≤ 9 then 2 + (if byteAt b 0 = 1 then 2 else 0) + blocks * (1 + ceilDiv (len + pad) r)
    else 2 + (1 + ceilDiv (len + pad) r + ceilDiv n r)

/-! ### Specifications -/

/-- AES block calls of a Muntjac job (R274); KWP of one semiblock is one call (PRESUMED: SP 800-38F; log 56). -/
def muntjacCalls (op n : Nat) : Nat :=
  match op with
  | 0x0C0E | 0x0C0F => max 1 (ceilDiv n 16) + 1
  | 0x0C10 => if n ≤ 8 then 1 else 6 * kwSemiblocks n
  | 0x0C11 => if n ≤ 16 then 1 else 6 * (kwSemiblocks n - 1)
  | _ => ceilDiv n 16

/-- The modes that the Muntjac core serves (R274). -/
def muntjacMode (op : Nat) : Bool :=
  (decide (0x0C01 ≤ op) && decide (op ≤ 0x0C05)) || op == 0x0C0E || op == 0x0C0F || op == 0x0C10 || op == 0x0C11

/-- The schedule of the first chunk of a one-shot job. -/
def symFirst (op : Nat) (h : Header) (p : ParamBlock) (aad : Nat) : Nat :=
  let n := symData op h p
  shapeLen { op := op, fn := h.pset, aad := aad, nc := min n 65536, out := if op = 0x0D03 then tagLen p.body else h.outLen,
             str := !(strOf p.body).isEmpty, first := true, last := decide (n ≤ 65536) }

/-- Associated data of a header: what CTX_LEN covers beyond the parameter block (R31). -/
def aadLen (h : Header) (p : ParamBlock) : Nat :=
  if h.has flCtxIsAad then h.ctxLen - (8 + (if p.tpl then 16 else 0) + p.body.length) else 0

/-- The cipher, MAC and digest operations (R254 to R259, R276). -/
def symSpec (s : State) (op : Nat) (h : Header) (p : ParamBlock) : JobSpec :=
  let f := h.pset
  let (c, lo, hi) := symUnits op f
  let n := symData op h p
  { key := if keyless op then .null else .vault, opcodeOk := modeOn s op || ((op == 0x0C10 || op == 0x0C11) && p.opt8),
    psetOk := symPset s op f,
    flags := fIn ||| (if isVerifier op then 0 else fOut)
      ||| (if isAeadEnc op || isAeadDec op || op == 0x0C08 || op == 0x0C09 then fAad else 0),
    inOk := symInOk op h p,
    limitOk := (decide (op ≠ 0x0D02) || (decide (1 ≤ h.outLen) && decide (h.outLen ≤ s.cfg 0x3250 6)))
      && (decide (op ≠ 0x0E06) || (decide (1 ≤ h.outLen) && decide (h.outLen ≤ s.cfg 0x3250 6)))
      && (op == 0x0C05 || dataFits op p.body n),
    outNeed := symOut op h p, ctx := if bodyless op then 0 else 2,
    options := if op = 0x0C10 ∨ op = 0x0C11 ∨ isAeadDec op then 0x0100 else 0,
    bodyOk := bodyless op || (symBodyOk s op f p.body && (!((op == 0x0C10 || op == 0x0C11) && p.opt8) || bit (s.cfg 0x3250 1) 9)),
    cls := c, lo := lo, hi := hi, masked := isAes op,
    muntjac := if muntjacMode op ∧ h.inLen ≤ 65536 ∧ h.streamId = 0 ∧ s.cfg 0x3250 10 = 1
               then some (4 + 6 * muntjacCalls op n) else none,
    usage := if symUsage op = 99 then none else some (symUsage op),
    keyOk := fun k => k.cls == symClass op && (symClass op == 0xD || k.pset == f) && k.state == 1,
    attrOk := symAttr op (ivLen p.body), counts := (op == 0x0C06 || op == 0x0C08) && ivLen p.body == 0,
    keyLimitOk := fun _ => dataFits op p.body n,
    sched := some (if op = 0x0C10 then 2 + ceilDiv (6 * kwSemiblocks h.inLen) 8
                   else if op = 0x0C11 then 2 + ceilDiv (6 * (kwSemiblocks h.inLen - 1)) 8
                   else symFirst op h p (aadLen h p)),
    dataLen := if op = 0x0C10 ∨ op = 0x0C11 ∨ op = 0x0C0A ∨ op = 0x0C0B then none else some n,
    plain := if isAeadDec op then some n else none }

/-- KDF_CTR, HKDF and KDF_ONESTEP (R261). -/
def kdfSpec (s : State) (op : Nat) (h : Header) (p : ParamBlock) : JobSpec :=
  let f := h.pset
  let (c, lo, hi) := symUnits op f
  { key := .vault, opcodeOk := modeOn s op, psetOk := symPset s op f, flags := fVault ||| fOut, inLen := some 0,
    limitOk := kdfLimit s (kdfOf op) f p.body (kdfLen h p), ctx := 2, bodyOk := kdfBodyOk (kdfOf op) f p.body,
    creates := h.tv, templateOk := p.cls == 12 || p.cls == 13 || p.cls == 14, cls := c, lo := lo, hi := hi,
    usage := some aDerive, keyOk := fun k => k.cls == 13 && k.state == 1, noExp := op != 0x0D07 }

/-! ### Running one-shot jobs -/

/-- The invocation of a job: IV built from FIXED and counter for a DEV_IV key, otherwise the body's (R262). -/
def Job.iv (j : Job) : Bytes :=
  match j.counter, j.key with
  | some n, some k => k.fixed ++ beBytes 8 n
  | _, _ => ivOf j.pb.body

/-- Bytes of a chunk of XTS that its release holds back: where the last chunk has less than a block, ciphertext stealing takes the block
before it, which is therefore written with that chunk (DEDUCED from the one data unit of R256; log 31). -/
def xtsHeld (op chunk n : Nat) : Nat :=
  if (op = 0x0C0C ∨ op = 0x0C0D) ∧ 0 < chunk ∧ 65536 * chunk < n ∧ n < 65536 * chunk + 16 then 16 else 0

/-- The result of the last or only chunk of a symmetric operation over the whole data. -/
def symResult (op : Nat) (j : Job) : Result :=
  let b := j.pb.body
  let n := symData op j.hdr j.pb
  let data := j.input.take n
  let t := j.input.drop n
  let key := j.secret
  let iv := j.iv
  let f := j.hdr.pset
  let from_ := 65536 * j.chunk - xtsHeld op j.chunk n
  let chunks := if 65536 < n then min (j.chunk + 1) 0x7FF else 0
  if isPlainCipher op then { status := stOk, out := (cipherOut op key iv [] data).drop from_, blocks := chunks }
  else if isAeadEnc op then
    let c := cipherOut op key iv j.aad data
    { status := stOk, out := c.drop from_ ++ tagOut op key iv j.aad data c (tagLen b), info := j.counter.getD 0, blocks := chunks }
  else if isAeadDec op then
    let m := cipherOut op key iv j.aad data
    if tagOut op key iv j.aad m data (tagLen b) == t then
      { status := stOk, out := if j.release = 2 then m.drop from_ else m, blocks := chunks }
    else { status := if j.release = 2 ∧ 0 < j.written then stTagFailExposed else stTagFail, blocks := chunks,
           bumps := [(entryKey 0x3251 2, 1)] }
  else match op with
    | 0x0C08 | 0x0C0E =>
      { status := stOk, out := tagOut op key iv j.aad data [] (tagLen b), info := j.counter.getD 0, blocks := chunks }
    | 0x0C09 | 0x0C0F =>
      { status := if tagOut op key iv j.aad data [] (tagLen b) == t then stOk else stCompareMismatch, blocks := chunks }
    | 0x0C10 => { status := stOk, out := primOut .kwWrap [key, [u8 (flag j.pb.opt8)], data] (8 * ceilDiv n 8 + 8) }
    | 0x0C11 =>
      let args := [key, [u8 (flag j.pb.opt8)], data]
      if Config.primB .kwOk args then
        { status := stOk, out := primOut .kwUnwrap args (if j.pb.opt8 then min (Config.primN .kwUnwrap args) (n - 8) else n - 8) }
      else { status := stTagFail, bumps := [(entryKey 0x3251 2, 1)] }
    | 0x0D01 => { status := stOk, out := fnOut f [] data (hLen f), blocks := chunks }
    | 0x0D02 => { status := stOk, out := fnOut f (strOf b) data j.hdr.outLen, blocks := chunks }
    | 0x0D03 => { status := if fnOut f (strOf b) data (tagLen b) == t then stOk else stCompareMismatch, blocks := chunks }
    | 0x0D04 | 0x0D05 => { status := stOk, out := macOut f key data (strOf b) (tagLen b), blocks := chunks }
    | 0x0D06 => { status := if macOut f key data (strOf b) (tagLen b) == t then stOk else stCompareMismatch, blocks := chunks }
    | 0x0E05 => { status := stOk, out := primOut .ascon [[0#8], data] 32, blocks := chunks }
    | _ => { status := stOk, out := primOut .ascon [[1#8], data] j.hdr.outLen, blocks := chunks }

/-- A chunk that is not the last: what its release writes (R265, R267). -/
def chunkResult (op : Nat) (j : Job) : Result :=
  let data := j.input.take (65536 * (j.chunk + 1))
  if isPlainCipher op || isAeadEnc op || (isAeadDec op && j.release == 2) then
    let all := (cipherOut op j.secret j.iv j.aad data).drop (65536 * j.chunk)
    { status := stOk, out := all.take (all.length - xtsHeld op (j.chunk + 1) (symData op j.hdr j.pb)), more := true }
  else { status := stOk, more := true }

/-- The chunk that a job's next schedule runs, of `n` bytes in all, is the last. -/
def lastChunk (chunk n : Nat) : Bool := decide (n ≤ 65536 * (chunk + 1))

/-- The schedule length of the present chunk of a one-shot job. -/
def symLen (op : Nat) (j : Job) : Nat :=
  let n := symData op j.hdr j.pb
  if j.cls = 8 then 4 + 6 * muntjacCalls op n
  else if op = 0x0C10 then 2 + ceilDiv (6 * kwSemiblocks n) 8
  else if op = 0x0C11 then 2 + ceilDiv (6 * (kwSemiblocks n - 1)) 8
  else shapeLen { op := op, fn := j.hdr.pset, aad := j.aad.length, nc := min (n - 65536 * j.chunk) 65536,
                  out := if op = 0x0D03 then tagLen j.pb.body else j.hdr.outLen, str := !(strOf j.pb.body).isEmpty,
                  first := j.chunk == 0, last := lastChunk j.chunk n }

/-- AES schedules draw 64 + 16 L mask bytes; the Muntjac core draws none (R251, R274). -/
def symMasks (op : Nat) (j : Job) (len : Nat) : Nat := if isAes op ∧ j.cls ≠ 8 then 64 + 16 * len else 0

/-- The schedule of one chunk of a symmetric job; a DEV_IV counter is assigned in the first beat of the first. -/
def State.symRun (s : State) (slot op : Nat) : State :=
  let s1 := s.assignDue
  match s1.job? slot with
  | none => s1
  | some j =>
    let len := symLen op j
    let r := if (symData op j.hdr j.pb ≤ 65536 ∨ op = 0x0C0A ∨ op = 0x0C0B) ∨ lastChunk j.chunk (symData op j.hdr j.pb)
             then symResult op j else chunkResult op j
    (s1.finish slot len r).useMasks (symMasks op j len)

/-- The row of a symmetric operation. -/
def State.symRow (s : State) (slot op : Nat) : Host.Outcome State Fault Refusal := s.runOp slot op fun s _ => s.symRun slot op

/-- ECB_ENC (R256). -/
def execEcbEnc (slot : Fin 4096) (s : State) : Host.Outcome State Fault Refusal := s.symRow slot.val 0x0C01

/-- ECB_DEC (R256). -/
def execEcbDec (slot : Fin 4096) (s : State) : Host.Outcome State Fault Refusal := s.symRow slot.val 0x0C02

/-- CBC_ENC (R256). -/
def execCbcEnc (slot : Fin 4096) (s : State) : Host.Outcome State Fault Refusal := s.symRow slot.val 0x0C03

/-- CBC_DEC (R256). -/
def execCbcDec (slot : Fin 4096) (s : State) : Host.Outcome State Fault Refusal := s.symRow slot.val 0x0C04

/-- CTR (R259). -/
def execCtr (slot : Fin 4096) (s : State) : Host.Outcome State Fault Refusal := s.symRow slot.val 0x0C05

/-- GCM_ENC (R256, R262). -/
def execGcmEnc (slot : Fin 4096) (s : State) : Host.Outcome State Fault Refusal := s.symRow slot.val 0x0C06

/-- GCM_DEC (R260, R264). -/
def execGcmDec (slot : Fin 4096) (s : State) : Host.Outcome State Fault Refusal := s.symRow slot.val 0x0C07

/-- GMAC_GEN (R256). -/
def execGmacGen (slot : Fin 4096) (s : State) : Host.Outcome State Fault Refusal := s.symRow slot.val 0x0C08

/-- GMAC_VERIFY (R260). -/
def execGmacVerify (slot : Fin 4096) (s : State) : Host.Outcome State Fault Refusal := s.symRow slot.val 0x0C09

/-- CCM_ENC (R256). -/
def execCcmEnc (slot : Fin 4096) (s : State) : Host.Outcome State Fault Refusal := s.symRow slot.val 0x0C0A

/-- CCM_DEC (R264). -/
def execCcmDec (slot : Fin 4096) (s : State) : Host.Outcome State Fault Refusal := s.symRow slot.val 0x0C0B

/-- XTS_ENC (R256). -/
def execXtsEnc (slot : Fin 4096) (s : State) : Host.Outcome State Fault Refusal := s.symRow slot.val 0x0C0C

/-- XTS_DEC (R256). -/
def execXtsDec (slot : Fin 4096) (s : State) : Host.Outcome State Fault Refusal := s.symRow slot.val 0x0C0D

/-- CMAC_GEN (R256). -/
def execCmacGen (slot : Fin 4096) (s : State) : Host.Outcome State Fault Refusal := s.symRow slot.val 0x0C0E

/-- CMAC_VERIFY (R260). -/
def execCmacVerify (slot : Fin 4096) (s : State) : Host.Outcome State Fault Refusal := s.symRow slot.val 0x0C0F

/-- KW_WRAP (R256). -/
def execKwWrap (slot : Fin 4096) (s : State) : Host.Outcome State Fault Refusal := s.symRow slot.val 0x0C10

/-- KW_UNWRAP (R260). -/
def execKwUnwrap (slot : Fin 4096) (s : State) : Host.Outcome State Fault Refusal := s.symRow slot.val 0x0C11

/-- DIGEST (R256). -/
def execDigest (slot : Fin 4096) (s : State) : Host.Outcome State Fault Refusal := s.symRow slot.val 0x0D01

/-- XOF (R256). -/
def execXof (slot : Fin 4096) (s : State) : Host.Outcome State Fault Refusal := s.symRow slot.val 0x0D02

/-- VERIFY_DIGEST (R260). -/
def execVerifyDigest (slot : Fin 4096) (s : State) : Host.Outcome State Fault Refusal := s.symRow slot.val 0x0D03

/-- HMAC (R255). -/
def execHmac (slot : Fin 4096) (s : State) : Host.Outcome State Fault Refusal := s.symRow slot.val 0x0D04

/-- KMAC (R255). -/
def execKmac (slot : Fin 4096) (s : State) : Host.Outcome State Fault Refusal := s.symRow slot.val 0x0D05

/-- VERIFY_MAC (R260). -/
def execVerifyMac (slot : Fin 4096) (s : State) : Host.Outcome State Fault Refusal := s.symRow slot.val 0x0D06

/-- CHACHAPOLY_ENC (R256). -/
def execChachapolyEnc (slot : Fin 4096) (s : State) : Host.Outcome State Fault Refusal := s.symRow slot.val 0x0E01

/-- CHACHAPOLY_DEC (R264). -/
def execChachapolyDec (slot : Fin 4096) (s : State) : Host.Outcome State Fault Refusal := s.symRow slot.val 0x0E02

/-- ASCON_ENC (R256). -/
def execAsconEnc (slot : Fin 4096) (s : State) : Host.Outcome State Fault Refusal := s.symRow slot.val 0x0E03

/-- ASCON_DEC (R264). -/
def execAsconDec (slot : Fin 4096) (s : State) : Host.Outcome State Fault Refusal := s.symRow slot.val 0x0E04

/-- ASCON_HASH (R256). -/
def execAsconHash (slot : Fin 4096) (s : State) : Host.Outcome State Fault Refusal := s.symRow slot.val 0x0E05

/-- ASCON_XOF (R256). -/
def execAsconXof (slot : Fin 4096) (s : State) : Host.Outcome State Fault Refusal := s.symRow slot.val 0x0E06

/-- A KDF job (R261). -/
def State.kdfRow (s : State) (slot op : Nat) : Host.Outcome State Fault Refusal :=
  s.runOp slot op fun s j =>
    let n := kdfLen j.hdr j.pb
    s.finish slot (kdfSched (kdfOf op) j.hdr.pset j.secret.length n j.pb.body)
      (vaultOrOut j (kdfOut (kdfOf op) j.hdr.pset j.secret [] j.pb.body n) [])

/-- KDF_CTR (R261). -/
def execKdfCtr (slot : Fin 4096) (s : State) : Host.Outcome State Fault Refusal := s.kdfRow slot.val 0x0D07

/-- HKDF (R261). -/
def execHkdf (slot : Fin 4096) (s : State) : Host.Outcome State Fault Refusal := s.kdfRow slot.val 0x0D08

/-- KDF_ONESTEP (R261). -/
def execKdfOnestep (slot : Fin 4096) (s : State) : Host.Outcome State Fault Refusal := s.kdfRow slot.val 0x0D09

end Sys2Proof.Machine
end

