-- ==== Sys2Proof/Machine/Vault.lean ====
section
/-! DEFINITION. The jobs of the key unit: GENERATE, DESTROY, DERIVE, EXPORT_WRAPPED and QUERY (R299 to R303, with the
generation rules of the classes' own chapters). -/

namespace Sys2Proof.Machine

open Sys2Proof

/-! ### GENERATE -/

/-- PSET of GENERATE: defined for the class and enabled by its policy entries. -/
def genPset (s : State) (cls pset : Nat) : Bool :=
  match cls with
  | 1 => classPset 1 pset && bit (s.cfg 0x3200 1) (pset - 1)
  | 2 => dsaPset s pset
  | 3 => fnPset s pset
  | 4 => slhPset s pset
  | 5 => hssPset s pset
  | 6 => xmssPset s pset
  | 7 | 8 => codePset s cls pset
  | 9 => rsaPset s pset
  | 10 => ecPset s pset
  | 11 => edPset s 1 4 pset
  | 15 => classPset 15 pset && (if pset ≤ 3 then bit (s.cfg 0x3210 6) (pset - 1) else bit (s.cfg 0x3210 7) (pset - 0x11))
  | _ => classPset cls pset

/-- LMS_TYPE and OTS_TYPE of the levels of a body (R178). -/
def bodyLevels (b : Bytes) : List (Nat × Nat) :=
  (List.range (byteAt b 0)).map (fun l => (field b (8 + 8 * l) 4, field b (12 + 8 * l) 4))

/-- The body of GENERATE for a stateful class (R178). -/
def hbsBodyOk (cls pset : Nat) (b : Bytes) : Bool :=
  let block := field b 4 4
  allZero (slice b 1 3) && (block == 0 || (decide (64 ≤ block) && decide (block ≤ 65536)))
    && (if cls = 5 then
          decide (1 ≤ byteAt b 0) && decide (byteAt b 0 ≤ 8) && b.length == 8 + 8 * byteAt b 0
            && (bodyLevels b).all (lmsTypesOk pset) && decide (totalHeight (treeLevels 5 pset (bodyLevels b)) ≤ 60)
        else b.length == 8 && byteAt b 0 == 0)

/-- Beats for which GENERATE of a composite pair holds its Ibex unit: the generation of the classical half (R162). -/
def pairGenLen (cls pset : Nat) : Nat :=
  if cls = 15 then expSched (pairHalves pset).2.1 (pairHalves pset).2.2 else 0

/-- The class whose template GENERATE carries; 0 without a usable one. -/
def genCls (p : ParamBlock) : Nat := if p.tpl && p.template.length == 16 then p.cls else 0

/-- GENERATE (R299 and the class chapters). -/
def generateSpec (s : State) (h : Header) (p : ParamBlock) : JobSpec :=
  let cls := genCls p
  let u := genClass cls h.pset
  { key := .null, psetOk := cls == 0 || genPset s cls h.pset, flags := fOut, inLen := some 0,
    outNeed := if p.outPublic then publicLen cls h.pset else 0, ctx := 2, options := 2, creates := true,
    templateOk := p.newPset == h.pset,
    bodyOk := if stateful cls then hbsBodyOk cls h.pset p.body else p.body.isEmpty,
    cls := u.1, lo := u.2.1, hi := u.2.2, cls2 := if cls = 15 then cIbex else if cls = 3 then cSwallowtail else 0,
    hash := if (cls = 11 ∧ h.pset = 1) ∨ (cls = 15 ∧ (pairHalves h.pset).2 = (11, 1)) then 1 else if cls = 11 ∧ h.pset = 2 then 2 else 0,
    triple := cls == 1 || cls == 2 || cls == 3 || cls == 7 || cls == 8 || cls == 15,
    masked := cls == 1 || cls == 2 || cls == 3 || cls == 9 || cls == 10 || cls == 11 || cls == 15, drbg := true,
    cls2Len := pairGenLen cls h.pset, slices := if cls = 8 then cmShare h.pset else 0,
    window := if cls = 8 then cmWindow h.pset else 0,
    sched := if stateful cls then none else some (genSched cls h.pset) }

/-- The key that GENERATE makes from a stored secret, as far as its public key depends on it. -/
def Job.newKey (j : Job) (secret : Bytes) (levels : List (Nat × Nat)) : Key :=
  { cls := j.pb.cls, state := 1, pset := j.pb.newPset, gen := 0, domain := j.domain, levels := levels,
    body := secretBody j.pb.cls j.pb.newPset secret }

/-- The result of a GENERATE that releases a key (R40, R283, R299): the public key goes out where OUT_PUBLIC is set. -/
def genResult (j : Job) (secret : Bytes) (levels : List (Nat × Nat)) (body : Bytes) : Result :=
  { status := stUncommitted, out := if j.pb.outPublic then (j.newKey secret levels).pk else [],
    entryClass := j.pb.cls, entryPset := j.pb.newPset, entryLevels := levels, entryBody := body }

/-- A GENERATE whose check fails (R22): no entry, ENGINE_FAULT and the source that the chapter names. -/
def genFails (src : Nat) : Result := { status := stEngineFault, fault := some src }

/-- The secret that GENERATE draws in one piece (R113, R144, R153, R169, R203, R225, R227, R253). -/
def drawnSecret (j : Job) : Bytes :=
  let cls := j.pb.cls
  let n := secretLen cls j.pb.newPset
  if cls = 10 then beBytes n (reducedScalar j.pb.newPset (j.random (nth [40, 56, 74] j.pb.newPset))) else j.random n

/-- The check that ends a generation in one piece, if it fails: its source (R144, R217, R253). -/
def genCheck (cls pset : Nat) (secret : Bytes) : Option Nat :=
  match cls with
  | 3 => if (fnCandidate pset secret).isSome then none else some 0x66
  | 7 => if Config.primB .selfVerify [tag 7 pset, secret] then none else some 0x71
  | 12 =>
    if (pset = 0x11 ∨ pset = 0x13) ∧ secret.take (secret.length / 2) = secret.drop (secret.length / 2) then some 0x77 else none
  | _ => none

/-- CEIL and FIXED of a new DEV_IV key in the layout of R284: the first block is reserved (R262, R263). -/
def devIvBody (block : Nat) (b fixed : Bytes) : Bytes := putAt (putAt b 64 (leBytes 8 (min block (2 ^ 32)))) 72 fixed

/-- GENERATE with one schedule. -/
def State.generateOne (s : State) (slot : Nat) (j : Job) : State :=
  let cls := j.pb.cls
  let secret := drawnSecret j
  let r := match genCheck cls j.hdr.pset secret with
    | some src => genFails src
    | none => genResult j secret [] (secretBody cls j.hdr.pset secret)
  (s.finish slot (genSched cls j.hdr.pset) r).useMasks (genMasksOf cls j.hdr.pset)

/-! #### Classic McEliece (R204, R214, R215) -/

/-- The finishing chunk F of a Classic McEliece set (R218). -/
def cmFinish (pset : Nat) : Nat := codeEncaps 8 pset + codeDecaps 8 pset

/-- Counts CM_ATTEMPTS (R220). -/
def State.cmAttempt (s : State) : State := s.count (entryKey 0x3231 2) 1

/-- One chunk of GENERATE of class 0x8: an attempt, or the finishing chunk; `scratch` holds the δ of a passed attempt. -/
def State.generateCm (s : State) (slot : Nat) (j : Job) : State :=
  let pset := j.hdr.pset
  let n := min (j.chunk + 1) 0x7FF
  if j.scratch.isEmpty then
    let delta := j.random 32
    if Config.primB .checkOk [tag 8 pset, delta] then
      ((s.onJob slot (fun x => { x with scratch := delta.map (·.toNat) })).finish slot (expSched 8 pset)
        { status := stOk, more := true, blocks := n }).cmAttempt
    else if j.chunk + 1 ≥ j.cfg 0x3230 4 then
      (s.finish slot (expSched 8 pset) { genFails 0x70 with blocks := n }).cmAttempt
    else (s.finish slot (expSched 8 pset) { status := stOk, more := true, blocks := n }).cmAttempt
  else
    let delta := j.scratch.map u8
    s.finish slot (cmFinish pset)
      (if Config.primB .selfVerify [tag 8 pset, delta] then
        { genResult j delta [] (secretBody 8 pset delta) with blocks := n, bumps := [(entryKey 0x3231 1, 1)] }
      else { genFails 0x71 with blocks := n })

/-! #### RSA (R234, R235): `scratch` is kind of the next chunk (0 sieve, 1 full test, 2 finishing), candidates drawn for the
prime, the candidate, and p once it is found -/

/-- The candidate of a draw (R234): nlen/2 bits with the top two bits and the bottom bit set. -/
def rsaCandidate (pset : Nat) (drawn : Bytes) : Nat :=
  let n := rsaK pset / 2
  setBit (setBit (setBit (beNat (fit n drawn)) (8 * n - 1)) (8 * n - 2)) 0

/-- Trial division by the first 2,048 odd primes, the last of which is 17,881: no odd number up to it divides the candidate
(R234). -/
def rsaSieve (v : Nat) : Bool := (List.range 8940).all (fun i => v % (2 * i + 3) != 0)

/-- The full test (R234): Miller–Rabin and Lucas, gcd(e, candidate − 1) = 1, and for q the distance from p. -/
def rsaFullTest (pset e v : Nat) (p : Option Nat) : Bool :=
  Config.primB .primeOk [tag 9 pset, beBytes (rsaK pset / 2) v] && Nat.gcd e (v - 1) == 1
    && (match p with
      | none => true
      | some x => decide (2 ^ (4 * rsaK pset - 100) < (x - v) + (v - x)))

/-- Chunk lengths of R234. -/
def rsaChunk (pset kind : Nat) : Nat :=
  match kind with
  | 0 => nth [12, 18, 24] (pset % 16)
  | 1 => nth [1650, 5300, 12500] (pset % 16)
  | _ => if rsaGeneral pset then nth [1696, 4218, 8370] (pset % 16) else nth [844, 2302, 4990] (pset % 16)

/-- The public exponent that a key of a general-e set is generated with: a free odd value above 2^16 and below the limit of R228.
The spec does not say how it is chosen (log 9). -/
def rsaExponent (pset seq : Nat) : Nat :=
  if rsaGeneral pset then
    max 65537 (setBit (beNat (primOut .rsaGen [tag 9 pset, leBytes 8 seq] (if pset = 0x12 then 15 else 32))) 0)
  else 65537

/-- The stored string of R228: the larger prime first. -/
def rsaString (pset p q e : Nat) : Bytes :=
  let half := rsaK pset / 2
  let len := if !rsaGeneral pset then 0 else if pset = 0x12 then 15 else 32
  beBytes half (max p q) ++ beBytes half (min p q) ++ [u8 len] ++ beBytes len e

/-- Mask bytes of a chunk (R224). -/
def rsaChunkMasks (pset kind : Nat) : Nat :=
  match kind with
  | 0 => 0
  | 1 => nth [640, 960, 1280] (pset % 16)
  | _ => genMasks 9 pset + rsaMasks pset

/-- What follows a candidate that is discarded: another sieve, or the end at RSA_CAND_MAX (R235). -/
def State.rsaDiscard (s : State) (slot most kind pset n tried found : Nat) : State :=
  if most ≤ tried then s.finish slot (rsaChunk pset kind) { genFails 0x76 with blocks := n }
  else (s.onJob slot (fun x => { x with scratch := [0, tried, 0, found] })).finish slot (rsaChunk pset kind)
    { status := stOk, more := true, blocks := n }

/-- One chunk of GENERATE of class 0x9. -/
def State.generateRsa (s : State) (slot : Nat) (j : Job) : State :=
  let pset := j.hdr.pset
  let n := min (j.chunk + 1) 0x7FF
  let kind := j.scratch.getD 0 0
  let tried := j.scratch.getD 1 0
  let cand := j.scratch.getD 2 0
  let found := j.scratch.getD 3 0
  let e := rsaExponent pset j.seq
  let most := j.cfg 0x3240 7
  let next := fun (st : State) (l : List Nat) =>
    (st.onJob slot (fun x => { x with scratch := l })).finish slot (rsaChunk pset kind) { status := stOk, more := true, blocks := n }
  let s1 := match kind with
    | 0 =>
      let s0 := s.count (entryKey 0x3241 2) 1
      let v := rsaCandidate pset j.rand
      if rsaSieve v then next s0 [1, tried + 1, v, found]
      else s0.rsaDiscard slot most kind pset n (tried + 1) found
    | 1 =>
      if rsaFullTest pset e cand (if found = 0 then none else some found) then
        (if found = 0 then next s [0, 0, 0, cand] else next s [2, tried, cand, found])
      else s.rsaDiscard slot most kind pset n tried found
    | _ =>
      let str := rsaString pset found cand e
      s.finish slot (rsaChunk pset kind)
        (if Config.primB .selfVerify [tag 9 pset, str] then
          { genResult j str [] (secretBody 9 pset str) with blocks := n, bumps := [(entryKey 0x3241 1, 1)] }
        else { genFails 0x74 with blocks := n })
  -- a candidate that the job holds lies in the domain's expansion quota (R234)
  (s1.useMasks (rsaChunkMasks pset kind)).makeRoom j.domain

/-! #### Stateful trees (R178 to R181, R186, R192) -/

/-- The tasks of generation and of a rebuild on `g` lane groups, by number and beats, which add up to W: equal ones, as few as keep
each within the work of 2^10 leaves and employ every lane group. R181 bounds a task, R183 and R184 give the time that the tasks take
together, and neither says how the work divides further (DEDUCED; log 62). -/
def hbsTasks (g : Nat) (l : List (Nat × Nat)) : List (Nat × Nat) :=
  let w := hbsWork l
  let most := 2 ^ 10 * (l.map (·.2)).foldl min 136
  let n := max 1 g * max 1 (ceilDiv w (max 1 g * most))
  let each := max 1 (ceilDiv w n)
  (if each ≤ w then [(w / each, each)] else []) ++ (if w % each = 0 then [] else [(1, w % each)])

/-- The sealed body of a new stateful key (R179, R186, R192). -/
def hbsBody (j : Job) (seed : Bytes) (levels : List (Nat × Nat)) : Bytes :=
  let block := if field j.pb.body 4 4 = 0 then j.cfg 0x3220 7 else field j.pb.body 4 4
  let hi := if bit j.pb.attributes aHerd then 0 else 2 ^ totalHeight (treeLevels j.pb.cls j.pb.newPset levels)
  seed ++ leBytes 8 (min block hi) ++ leBytes 8 0 ++ leBytes 8 hi ++ zeros 20 ++ leBytes 4 block

/-- The end of GENERATE of class 0x5 or 0x6: every task has run (R181). -/
def State.generateHbs (s : State) (slot : Nat) (j : Job) : State :=
  if !(j.tasks.isEmpty && j.suspended.isEmpty && j.slices.isEmpty) then s
  else
    let seed := j.random 32
    let levels := if j.pb.cls = 5 then bodyLevels j.pb.body else []
    s.finish slot (s.beat - j.granted - 2) (genResult j seed levels (hbsBody j seed levels))

/-- GENERATE (R299). -/
def execGenerate (slot : Fin 4096) (s : State) : Host.Outcome State Fault Refusal :=
  s.runOp slot.val 0x1001 fun s j =>
    if stateful j.pb.cls then s.generateHbs slot.val j
    else if j.pb.cls = 8 then s.generateCm slot.val j
    else if j.pb.cls = 9 then s.generateRsa slot.val j
    else s.generateOne slot.val j

/-! ### DESTROY (R20, R300) -/

/-- The rules that key-unit jobs share (R299). -/
def keyUnit (h : Header) : JobSpec := { key := .vault, psetOk := h.pset == 0, cls := cKeyUnit, hi := 7, inLen := some 0, noExp := true }

/-- DESTROY: items 1 to 3 of R42. -/
def destroySpec (h : Header) : JobSpec := { keyUnit h with bare := true, sched := some 2 }

/-- DESTROY: the entry went at the end of staging; the schedule follows (R20, R300). -/
def execDestroy (slot : Fin 4096) (s : State) : Host.Outcome State Fault Refusal :=
  s.runOp slot.val 0x1002 fun s _ => s.finish slot.val 2 { status := stUncommitted }

/-! ### DERIVE (R301) -/

/-- The KDF of a DERIVE body. -/
def deriveKdf (p : ParamBlock) : Nat := byteAt p.body 0

/-- DERIVE. -/
def deriveSpec (s : State) (h : Header) (p : ParamBlock) : JobSpec :=
  let kdf := deriveKdf p
  let known := decide (1 ≤ kdf) && decide (kdf ≤ 3)
  let b := p.body.drop 8
  let u := symUnits 0x0D07 h.pset
  { key := .vault, opcodeOk := !known || modeOn s (0x0D06 + kdf),
    psetOk := !known || symPset s (0x0D06 + kdf) h.pset, aux := true, inLen := some 0,
    limitOk := !known || kdfLimit s kdf h.pset b (secretLen p.cls p.newPset), ctx := 2,
    bodyOk := known && allZero (slice p.body 1 7) && kdfBodyOk kdf h.pset b
      && (h.auxHandle == 0 || (kdf != 1 && (kdf != 2 || field b 0 2 == 0))),
    creates := true, templateOk := p.cls == 12 || p.cls == 13 || p.cls == 14, cls := u.1, lo := u.2.1, hi := u.2.2,
    usage := some aDerive, auxUsage := some aDerive, keyOk := fun k => k.cls == 13 && k.state == 1,
    auxOk := fun k => k.cls == 13 && k.state == 1, noExp := kdf != 1 }

/-- DERIVE: the new key stays in the vault. -/
def execDerive (slot : Fin 4096) (s : State) : Host.Outcome State Fault Refusal :=
  s.runOp slot.val 0x1003 fun s j =>
    let kdf := deriveKdf j.pb
    let b := j.pb.body.drop 8
    let n := secretLen j.pb.cls j.pb.newPset
    let len := kdfSched kdf j.hdr.pset (j.secret.length + (if kdf = 3 then j.auxSecret.length else 0)) n b
    let secret := kdfOut kdf j.hdr.pset j.secret j.auxSecret b n
    s.finish slot.val len (newEntry j stUncommitted secret [])

/-! ### EXPORT_WRAPPED (R302) -/

/-- The stored secret as the class's form has it: the string of R228 ends with its exponent. -/
def Key.exported (k : Key) : Bytes :=
  if k.cls = 9 then k.body.take (rsaK k.pset + 1 + byteAt k.body (rsaK k.pset)) else k.secret

/-- Bytes of the export blob of a key. -/
def blobLen (k : Key) : Nat := 32 + k.exported.length

/-- The export blob. -/
def exportBlob (k : Key) (handle : Nat) : Bytes :=
  ascii "QXK1".toList ++ [1#8, u8 k.cls, u8 k.pset, 0#8] ++ leBytes 8 k.attrs ++ leBytes 8 handle
    ++ leBytes 2 k.exported.length ++ zeros 6 ++ k.exported

/-- AUX_HANDLE names a key of class ML-KEM: the form of one encapsulation. -/
def wrapsByKem (h : Header) : Bool := handleClass h.auxHandle == 1

/-- Length of KWP over `n` bytes. -/
def kwpLen (n : Nat) : Nat := 8 * ceilDiv n 8 + 8

/-- EXPORT_WRAPPED. -/
def exportSpec (h : Header) : JobSpec :=
  let kem := wrapsByKem h
  { key := .vault, psetOk := h.pset == 0, aux := true, flags := fOut, inLen := some 0, usage := some aExport, auxUsage := some aWrap,
    cls := if kem then cSwallowtail else cKeyUnit, cls2 := if kem then cKeyUnit else 0, hi := if kem then 15 else 7, triple := kem, masked := kem, drbg := kem,
    auxOk := fun k => if kem then k.cls == 1 && k.pset == 3 else k.cls == 12 && k.pset == 3 && k.state == 1,
    attrOk := fun k => !k.attr aNeverExport && !k.attr aDevIv && k.state == 1, auxAttrOk := fun k => !k.attr aDevIv, noExp := true,
    keyLimitOk := fun k => decide (kwpLen (blobLen k) + (if kem then kemCt 3 else 0) ≤ h.outLen) }

/-- EXPORT_WRAPPED. -/
def execExportWrapped (slot : Fin 4096) (s : State) : Host.Outcome State Fault Refusal :=
  s.runOp slot.val 0x1004 fun s j =>
    match j.key with
    | none => s.finish slot.val 2 { status := stHandleStale }
    | some k =>
      let blob := exportBlob k j.hdr.keyHandle
      let beats := ceilDiv (6 * kwSemiblocks blob.length) 8
      let kwp := fun (kek : Bytes) => primOut .kwWrap [kek, [1#8], blob] (kwpLen blob.length)
      if wrapsByKem j.hdr then
        let m := j.random 32
        (s.finish slot.val (30 + beats)
          { status := stOk, out := mlkemCipher 3 j.auxPk m ++ kwp (mlkemSecret 3 j.auxPk m) }).useMasks 7168
      else s.finish slot.val (2 + beats) { status := stOk, out := kwp j.auxSecret }

/-! ### QUERY (R303) -/

/-- QUERY. -/
def querySpec (h : Header) (p : ParamBlock) : JobSpec :=
  { keyUnit h with
    flags := fOut, ctx := 1, options := 0x0100, bodyOk := p.body.isEmpty, outNeed := 96, bare := true, sched := some 2,
    keyLimitOk := fun k => decide (96 + (if bit p.options 8 && !symmetricClass k.cls then publicLen k.cls k.pset else 0) ≤ h.outLen) }

/-- The 96 bytes of QUERY. -/
def State.queryBytes (s : State) (handle i : Nat) (k : Key) : Bytes :=
  let c := s.counter? i
  let counted := k.counted
  let pinned := decide (0 < k.units) && (k.attr aPin || stateful k.cls)
  leBytes 8 handle ++ [u8 (k.cls + 16 * k.state), u8 k.pset, u8 k.span,
      u8 (flag (s.expansion? i).isSome + 2 * flag pinned + 4 * flag k.durable)]
    ++ leBytes 4 k.version ++ leBytes 8 k.attrs ++ (if k.attr aDevIv then k.fixed else zeros 4) ++ zeros 4
    ++ leBytes 8 (if counted then (c.map (·.next)).getD k.ceil else 0) ++ leBytes 8 (if counted then (c.map (·.ceilC)).getD k.ceil else 0)
    ++ leBytes 8 (if counted then k.rangeHi else 0) ++ zeros 8 ++ k.pkHash

/-- The key as QUERY reads it: where its measurements keep it sealed, which R299 does not make QUERY fail for, its body is a free value
(R287, R303; log 4). -/
def State.queryView (s : State) (k : Key) : Key × State :=
  if k.sealed.isEmpty then (k, s)
  else ({ k with body := leBytes (80 * k.span) (Config.free s.fresh), sealed := [] }, s.draw.2)

/-- QUERY. -/
def execQuery (slot : Fin 4096) (s : State) : Host.Outcome State Fault Refusal :=
  s.runOp slot.val 0x1007 fun s j =>
    match j.keyIndex, j.key with
    | some i, some k0 =>
      let (k, s1) := s.queryView ((s.key? i).getD k0)
      s1.finish slot.val 2 { status := stOk, out := s.queryBytes j.hdr.keyHandle i k ++ (if bit j.pb.options 8 then k.pk else []) }
    | _, _ => s.finish slot.val 2 { status := stHandleStale }

end Sys2Proof.Machine
end

