-- ==== Sys2Proof/Machine/HerdFrames.lean ====
section
/-! DEFINITION. What other chapters need of the Herd link (18): positions, routes, frames and their sealing (R494 to R498),
replication of a created or destroyed entry (R502), the partition states (R505) and BEAT_SYNC (R507). -/

namespace Sys2Proof.Machine

open Sys2Proof

/-! ### Members (R494, R495) -/

/-- The position of a member's DEVICE_ID in a table. -/
def memberIndex (id : Bytes) : List Bytes → Nat → Option Nat
  | [], _ => none
  | m :: r, n => if m = id then some n else memberIndex id r (n + 1)

/-- The position of this device, none outside a Herd. -/
def State.herdPos (s : State) : Option Nat := memberIndex deviceIdBytes s.herd.members 0

/-- The peer at a position. -/
def State.peer (s : State) (p : Nat) : Peer := (tget s.herd.peers p).getD {}

/-- Sets the peer at a position. -/
def State.setPeer (s : State) (p : Nat) (x : Peer) : State := { s with herd := { s.herd with peers := tput s.herd.peers p x } }

/-- A Herd port: 0 EAST, 1 WEST. -/
def State.herdPort (s : State) (q : Nat) : HerdPort := (tget s.herd.ports q).getD {}

/-- Sets a Herd port. -/
def State.setHerdPort (s : State) (q : Nat) (x : HerdPort) : State := { s with herd := { s.herd with ports := tput s.herd.ports q x } }

/-- The positions of the other members. -/
def State.peerList (s : State) : List Nat :=
  match s.herdPos with
  | some me => (List.range s.herd.members.length).filter (fun p => p != me)
  | none => []

/-- The peers in session. -/
def State.inSession (s : State) : List Nat := s.peerList.filter (fun p => (s.peer p).up)

/-- The timing leader: the lowest-numbered member in session, none while no session is formed (R507). -/
def State.leader (s : State) : Option Nat :=
  match s.herdPos, s.inSession with
  | some me, p :: _ => some (min me p)
  | _, _ => none

/-! ### Routes (R498) -/

/-- A port of a member is up: this device's own where it is used, a peer's as its latest link map shows it. -/
def State.portShown (s : State) (me p q : Nat) : Bool :=
  if p = me then (s.herdPort q).up && (s.herdPort q).usable else bit (s.peer p).linkMap q

/-- Every link from a member eastwards over `n` hops is up. -/
def State.eastOpen (s : State) (me : Nat) : Nat → Nat → Bool
  | _, 0 => true
  | p, n + 1 =>
    let next := (p + 1) % s.herd.members.length
    s.portShown me p 0 && s.portShown me next 1 && s.eastOpen me next n

/-- The port towards a position: the shorter way over open links, EAST where both are as short. -/
def State.route (s : State) (dst : Nat) : Option Nat :=
  match s.herdPos with
  | none => none
  | some me =>
    let n := s.herd.members.length
    let east := (dst + n - me) % n
    let west := (me + n - dst) % n
    let e := s.eastOpen me me east
    let w := s.eastOpen me dst west
    if n ≤ dst ∨ dst = me then none
    else if e && (!w || decide (east ≤ west)) then some 0
    else if w then some 1
    else none

/-! ### Frames (R496, R497) -/

/-- The 32-byte header of a frame. -/
def frameHeader (typ src dst hops flags len epoch msg frag count ctr : Nat) : Bytes :=
  [1#8, u8 typ, u8 src, u8 dst, u8 hops, u8 flags] ++ leBytes 2 len ++ leBytes 4 epoch ++ leBytes 2 msg ++ [u8 frag, u8 count]
    ++ leBytes 8 ctr ++ zeros 8

/-- The header with HOPS taken as 0: the associated data of a sealed frame. -/
def frameAad (h : Bytes) : Bytes := h.set 4 0#8

/-- The IV of a sealed frame. -/
def frameIv (salt : Bytes) (ctr : Nat) : Bytes := salt ++ leBytes 8 ctr

/-- A payload in fragments of at most 2,048 bytes. -/
def fragments : Nat → Bytes → List Bytes
  | 0, b => [b]
  | n + 1, b => if b.length ≤ 2048 then [b] else b.take 2048 :: fragments n (b.drop 2048)

/-- One frame to a peer leaves by its route; without a route nothing is sent. -/
def State.sendFragment (s : State) (dst typ : Nat) (enc : Bool) (msg frag count : Nat) (data : Bytes) : State :=
  match s.herdPos, s.route dst with
  | some me, some port =>
    let p := s.peer dst
    let ctr := if enc then p.ctrTx + 1 else 0
    let h := frameHeader typ me dst 7 (flag enc + 2 * flag (frag + 1 == count)) data.length s.herd.epoch msg frag count ctr
    let body := if enc then gcmSeal p.keyTx (frameIv p.saltTx ctr) (frameAad h) data else data
    (s.setPeer dst { p with ctrTx := if enc then ctr else p.ctrTx, framesTx := bump 64 p.framesTx 1 }).send
      (.herd port typ (h ++ body))
  | _, _ => s

/-- The fragments of a message in their order. -/
def State.sendFragments (s : State) (dst typ : Nat) (enc : Bool) (msg count : Nat) : Nat → List Bytes → State
  | _, [] => s
  | k, b :: r => (s.sendFragment dst typ enc msg k count b).sendFragments dst typ enc msg count (k + 1) r

/-- A message to a peer under a fresh MSG_ID. -/
def State.sendHerd (s : State) (dst typ : Nat) (enc : Bool) (payload : Bytes) : State :=
  let msg := bump 16 (s.peer dst).msgId 1
  let parts := fragments 63 payload
  (s.setPeer dst { s.peer dst with msgId := msg }).sendFragments dst typ enc msg parts.length 0 parts

/-- The same message to every peer in session. -/
def State.sendAll (s : State) (typ : Nat) (payload : Bytes) : State := s.inSession.foldl (fun a p => a.sendHerd p typ true payload) s

/-- The modes in which the Herd link is served, if only in part (R501). -/
def State.herdServes (s : State) : Bool :=
  s.mode.mode == mService || s.mode.mode == mDegraded || s.mode.mode == mCeremony || s.mode.mode == mQuiesce || s.mode.mode == mIdle
    || s.mode.mode == mStudy

/-! ### Replication (R502) -/

/-- SECRET of a replicated key: the stored secret, or MASTER_SEED and BLOCK. -/
def Key.replicated (k : Key) : Bytes :=
  if stateful k.cls then k.body.take 32 ++ leBytes 4 k.block
  else if k.cls = 9 then k.body.take (rsaK k.pset + 1 + byteAt k.body (rsaK k.pset))
  else k.secret

/-- The REPLICATE payload for a key. -/
def replicatePayload (i op gen : Nat) (k : Key) : Bytes :=
  let secret := if op = 1 then k.replicated else []
  [u8 k.domain, u8 op, 0#8, 0#8] ++ leBytes 4 i ++ leBytes 2 gen ++ [u8 k.cls, u8 k.pset] ++ zeros 4 ++ leBytes 8 k.attrs
    ++ leBytes 2 secret.length ++ zeros 6 ++ secret

/-- A created or destroyed key with HERD_REPLICATE is sent to every peer in session. -/
def State.replicate (s : State) (i op : Nat) (k : Key) : State :=
  if k.attr aHerd ∧ k.state = 1 then s.sendAll 0x11 (replicatePayload i op k.gen k) else s

/-- A template may set HERD_REPLICATE: on the member at position 0 with a session formed. -/
def State.mayReplicate (s : State) : Bool := s.herdPos == some 0 && !s.inSession.isEmpty

/-! ### Partition states and beat alignment (R505, R507) -/

/-- PK_HASH, PART_EPOCH and PART_DIGEST of every partitioned key, as many as the 64 fragments of a message hold (R496; DESIGN CHOICE;
log 48). -/
def State.partitionStates (s : State) : Bytes :=
  ((s.vault.keys.filter (fun x => x.2.state == 1 && stateful x.2.cls && x.2.partEpoch != 0)).take 2520).flatMap
    (fun x => x.2.pkHash ++ leBytes 4 x.2.partEpoch ++ x.2.partDigest)

/-- The wheel beat: the beat counter with WHEEL_OFFSET. -/
def State.wheelBeat (s : State) : Nat := (((s.beat : Int) + s.wheel.offset) % 2 ^ 64).toNat

/-- Once per wheel revolution a member that is not the leader sends BEAT_SYNC to the leader. -/
def State.beatSync (s : State) : State :=
  match s.herdPos, s.leader with
  | some me, some l =>
    if me = l ∨ !s.herdServes then s
    else
      let s1 := s.sendHerd l 0x30 true (leBytes 8 s.wheelBeat)
      { s1 with herd := { s1.herd with syncW1 := some s.wheelBeat } }
  | _, _ => s

end Sys2Proof.Machine
end

