-- ==== Sys2Proof/Machine/Maint.lean ====
section
/-! DEFINITION. The maintenance arbiter, rolling BIST, shadowed items and scrubbing of operand memory (R411 to R421, R429 to
R431). -/

namespace Sys2Proof.Machine

open Sys2Proof

/-! ### The arbiter (R429 to R431) -/

/-- A grant runs for someone. -/
def State.granted (s : State) (act who : Nat) : Bool := s.maint.running.any (fun r => r.1 == act && r.2.1 == who)

/-- A request of an activity for someone is queued or its grant runs. -/
def State.maintPending (s : State) (act who : Nat) : Bool :=
  s.maint.queue.any (fun r => r.act == act && r.who == who) || s.granted act who

/-- A request takes its place in the queue: behind those of earlier beats, and in bit order among those of its own beat (R431). -/
def queueRequest (l : List MaintReq) (x : MaintReq) : List MaintReq :=
  let before := fun (y : MaintReq) => decide (y.beat < x.beat) || decide (y.act ≤ x.act)
  l.filter before ++ x :: l.filter (fun y => !before y)

/-- Queues a request, once for whom it is made (R431). -/
def State.ask (s : State) (act who : Nat) : State :=
  if s.maint.queue.any (fun r => r.act == act && r.who == who) then s
  else State.wake { s with maint := { s.maint with queue := queueRequest s.maint.queue { act := act, beat := s.beat, who := who } } }

/-- Queues a request where no grant for it runs. -/
def State.request (s : State) (act who : Nat) : State := if s.granted act who then s else s.ask act who

/-- The grant of an activity that runs: for whom and since when. -/
def State.grantOf (s : State) (act : Nat) : Option (Nat × Nat) := tget s.maint.running act

/-- The grant of an activity ends. -/
def State.endGrant (s : State) (act : Nat) : State :=
  { s with maint := { s.maint with running := tdel s.maint.running act } }

/-- No request or grant of an activity is left. -/
def State.dropActivity (s : State) (act : Nat) : State :=
  { s with maint := { s.maint with queue := s.maint.queue.filter (fun r => r.act != act), running := tdel s.maint.running act } }

/-- Requests of a job leave the queue when the job ends. -/
def State.dropRequests (s : State) (act who : Nat) : State :=
  { s with maint := { s.maint with queue := s.maint.queue.filter (fun r => !(r.act == act && r.who == who)),
                                   running := s.maint.running.filter (fun r => !(r.1 == act && r.2.1 == who)) } }

/-- The units of a replicated partition (R414). -/
def partitionUnits (p : Nat) : List (Nat × Nat) :=
  if p < 16 then [(1, p)]
  else if p < 20 then [(2, p - 16)]
  else if p < 26 then [(3, p - 20), (3, p - 14)]
  else if p < 30 then [(4, p - 26)]
  else if p < 38 then [(5, p - 30)]
  else if p < 42 then [(6, p - 38)]
  else []

/-- The replicated partition of a unit, 42 and above for none (R414). -/
def partitionOf (cls u : Nat) : Nat :=
  match cls with
  | 1 => if u < 16 then u else 52
  | 2 => if u < 4 then 16 + u else 52
  | 3 => if u < 6 then 20 + u else if u < 12 then 14 + u else 52
  | 4 => if u < 4 then 26 + u else 52
  | 5 => if u < 8 then 30 + u else 52
  | 6 => if u < 4 then 38 + u else 52
  | _ => 52

/-- A partition is marked unusable: a unit of it is (R418). -/
def State.partitionUnusable (s : State) (p : Nat) : Bool := (partitionUnits p).any (fun x => (s.unit x.1 x.2).state == 3)

/-- A unit is zeroised before scan is enabled in its partition (R415). -/
def State.zeroiseUnit (s : State) (x : Nat × Nat) : State := s.setUnit x.1 x.2 (s.unit x.1 x.2).zeroised

/-- A test that has not begun has all its units isolated, and its instance can serve. -/
def State.testReady (s : State) : Bool :=
  match s.selfTest.testing with
  | some (p, _) => !s.selfTest.testBegun && s.canServe 261 && (partitionUnits p).all (fun x => decide (2 ≤ (s.unit x.1 x.2).state))
  | none => false

/-- A test of a partition begins once all its units are isolated: they are zeroised, and internal instance 5 gives the pattern seed
(R415, R418 steps 3 and 4); the test waits for an instance that must reseed and cannot (R365). The spec gives the seed no length
(log 66). -/
def State.beginTest (s : State) : State :=
  match s.selfTest.testing with
  | some (p, _, r) =>
    if s.testReady then
      let (b, s1) := ((partitionUnits p).foldl State.zeroiseUnit s).serve 261 32
      { s1 with selfTest := { s1.selfTest with testing := some (p, s.beat, r), testBegun := true, seed := b } }
    else s
  | none => s

/-- Isolation of a partition's units is requested (R99, R418 step 2); a retest tests units already unusable (R419), and the rotation skips
a partition that has become unusable since its request (R418). -/
def State.isolate (s : State) (p : Nat) : State :=
  let retest := s.selfTest.retestState == 1 && s.selfTest.retestPartition == p
  if s.partitionUnusable p && !retest then s.endGrant maRolling else
  let s1 := (partitionUnits p).foldl (fun a x =>
    if (a.unit x.1 x.2).state = 0 then a.setUnit x.1 x.2 ((a.unit x.1 x.2).turn 1 s.beat) else a) s
  let st := { s1.selfTest with testing := some (p, s.beat, retest), testBegun := false,
                               retestState := if retest then 2 else s1.selfTest.retestState }
  ({ s1 with selfTest := st }).beginTest

/-- A noise source. -/
def State.source (s : State) (i : Nat) : Source := (tget s.entropy.sources i).getD {}

/-- Sets a noise source. -/
def State.setSource (s : State) (i : Nat) (x : Source) : State :=
  { s with entropy := { s.entropy with sources := tput s.entropy.sources i x } }

/-- The window of a granted retraining opens in the first beat in which every reservation of vault DRAM that a
start right has taken is over (R293). -/
def State.openRetrain (s : State) : State :=
  if s.vault.retrainFrom.isSome && s.vault.retrainOpen.isNone
      && !s.jobs.holds.any (fun h => h.kind == hkDram && decide (s.beat < h.till)) then
    { s with vault := { s.vault with retrainOpen := some s.beat } }
  else s

/-- What a grant sets in motion in its beat. -/
def State.onGrant (s : State) (act who : Nat) : State :=
  if act = maRolling then s.isolate who
  else if act = maRequal then s.setSource who { s.source who with state := 4, requals := bump 32 (s.source who).requals 1 }
  else if act = maSwap then { s with wheel := { s.wheel with swapState := 3 } }
  else if act = maRetrain then ({ s with vault := { s.vault with retrainFrom := some s.beat, retrainOpen := none } }).openRetrain
  else s

/-- One request is granted. -/
def State.grantOne (s : State) (r : MaintReq) : State :=
  ({ s with maint := { s.maint with running := tput s.maint.running r.act (r.who, s.beat),
                                    grants := countAdd s.maint.grants r.act 1 64 } }).onGrant r.act r.who

/-- Grants every queued request compatible with all that run and all queued before it (R431): granted, and kept. -/
def grantScan : List MaintReq → List Nat → List MaintReq × List MaintReq
  | [], _ => ([], [])
  | r :: l, busy =>
    let x := grantScan l (r.act :: busy)
    if busy.any (fun a => exclusive a r.act) then (x.1, r :: x.2) else (r :: x.1, x.2)

/-- MAINT_GRANT (R431); none in Quiesce, where the device is off or in Lockdown (R438, R440). -/
def execMaintGrant (s : State) : Host.Outcome State Fault Refusal :=
  if s.mode.mode = mQuiesce ∨ s.mode.mode = mLockdown ∨ s.mode.mode = mDormant ∨ s.mode.mode = mReset then .next s else
  let x := grantScan s.maint.queue (s.maint.running.map (·.1))
  .next (x.1.foldl State.grantOne { s with maint := { s.maint with queue := x.2 } })

/-- A vault job that waits for its grant (R313). -/
def State.waitsForCommit (s : State) (slot : Nat) : Bool :=
  match s.job? slot with
  | some j => j.phase == 3 && j.hdr.opcode / 256 == 0x13
  | none => false

/-- An activity has something to do for whom it asks (R293, R298, R308, R313, R359, R418, R100, R504). -/
def State.hasWork (s : State) (act who : Nat) : Bool :=
  if act = maScrub then s.vault.loaded && who == 0
  else if act = maCommit then s.waitsForCommit who
  else if act = maRequal then ((tget s.entropy.sources who).map (fun x => x.state == 3 && decide (x.nextAttempt.getD 0 ≤ s.beat))).getD false
  else if act = maRotate then decide (s.cfg 0x4001 4 ≤ s.vault.commits) && who == 0
  else if act = maPurge then s.vault.purging.contains who
  else if act = maSwap then s.wheel.swapState == 2 && who == 0
  else if act = maRetrain then decide (10 * (s.cfg 0x4004 2 : Int) ≤ (s.dieTemp - s.vault.trainedTemp).natAbs) && who == 0
  else if act = maResync then ((tget s.herd.peers who).map (fun x => x.up && !x.resync.isEmpty)).getD false
  else false

/-- MAINT_REQUEST (R431). -/
def execMaintRequest (act : Fin 9) (who : Nat) (s : State) : Host.Outcome State Fault Refusal :=
  .next (if s.hasWork act.val who && s.mode.mode != mLockdown && s.mode.mode != mDormant then s.request act.val who else s)

/-- MAINT_OVERDUE (R431): each request of an activity that has waited MAINT_WAIT_MAX raises the source once, and goes on waiting. -/
def execMaintOverdue (act : Fin 9) (s : State) : Host.Outcome State Fault Refusal :=
  let due := fun (r : MaintReq) => r.act == act.val && !r.overdue && decide (r.beat + msBeats (s.cfg 0x6902 3) ≤ s.beat)
  let q := s.maint.queue.map (fun r => if due r then { r with overdue := true } else r)
  .next ((s.maint.queue.filter due).foldl (fun a _ => a.raise 0xB6 { detail := act.val }) { s with maint := { s.maint with queue := q } })

/-! ### Rolling BIST (R414 to R419) -/

/-- The next partition in rotation from `p` that is not unusable (R418). -/
def State.nextPartition (s : State) (p : Nat) : Option Nat :=
  ((List.range 42).map (fun k => (p + k) % 42)).find? (fun q => !s.partitionUnusable q)

/-- The modes in which maintenance tests units: those in which jobs run (R9, R435). -/
def State.serves (s : State) : Bool := s.mode.mode == mService || s.mode.mode == mDegraded || s.mode.mode == mCeremony

/-- ROLLING_BIST_START (R418): every ROLLING_PERIOD / 42 a partition test is requested. -/
def execRollingBistStart (s : State) : Host.Outcome State Fault Refusal :=
  let period := s.cfg 0x6900 1
  if period = 0 ∨ !s.serves ∨ 42 * (s.beat - s.selfTest.lastRolling) < secBeats period then .next s
  else match s.nextPartition s.selfTest.rollingNext with
    | none => .next s
    | some p =>
      .next (({ s with selfTest := { s.selfTest with rollingNext := (p + 1) % 42, lastRolling := s.beat } }).request maRolling p)

/-- The units of a partition return to use; one that is marked unusable does through a retest only (R418 step 5, R419). -/
def State.returnUnits (s : State) (p : Nat) (retest : Bool) : State :=
  ((partitionUnits p).filter (fun x => retest || (s.unit x.1 x.2).state != 3)).foldl (fun a x =>
    a.setUnit x.1 x.2 { (a.unit x.1 x.2).turn 0 s.beat with cause := 0, lastTest := s.beat }) s

/-- Degraded service turns into Service once no unit is marked unusable (R437). -/
def State.regain (s : State) : State :=
  if (s.mode.mode = mService ∨ s.mode.mode = mDegraded) ∧ s.serviceMode ≠ s.mode.mode then s.changeMode s.serviceMode else s

/-- A partition fails: every unit of it is marked unusable by the source (R414, R416, R418). -/
def State.failPartition (s : State) (p src : Nat) : State :=
  let s1 := s.raise src { unit := (partitionUnits p).head?, detail := p }
  (((partitionUnits p).drop 1).foldl (fun a x => if s.classOf src ≥ 2 then a.markUnusable x.1 x.2 src else a) s1)

/-- Injections into the detectors of a partition: those that pass are counted, and a failure raises DETECTOR_TEST (R391, R403). -/
def State.noteInjections (s : State) (passes : Nat) (failed : Bool) (detail : Nat) : State :=
  let s1 := { s with ao := { s.ao with detectorTests := bump 32 s.ao.detectorTests passes } }
  if failed then s1.raise 0x30 { detail := detail } else s1

/-- ROLLING_BIST_END (R391, R418): a pass, or ROLLING_BIST_FAIL, 15,625 beats after the test began. The operand says whether
it passed, how many injection paths of detectors in the partition passed, and whether one failed. -/
def execRollingBistEnd (result : Bool × Fin 17 × Bool) (s : State) : Host.Outcome State Fault Refusal :=
  let passed := result.1
  match s.selfTest.testing with
  | none => .next s
  | some (p, began, retest) =>
    if !s.selfTest.testBegun || decide (s.beat < began + 15625) then .next s
    else
      let s1 := s.endGrant maRolling
      let st := { s1.selfTest with testing := none, testBegun := false, seed := [],
                                   retestState := if retest then (if passed then 3 else 4) else s1.selfTest.retestState,
                                   rollingPasses := if passed then bump 32 s1.selfTest.rollingPasses 1 else s1.selfTest.rollingPasses,
                                   rollingFails := if passed then s1.selfTest.rollingFails else bump 32 s1.selfTest.rollingFails 1 }
      let s2 := ({ s1 with selfTest := st } : State).noteInjections result.2.1.val result.2.2 p
      .next (if passed then
          (s2.returnUnits p retest).regain
        else s2.failPartition p 0xB3)

/-- A UNIT_RETEST write (R419): refused unless the unit's partition is replicated and was marked unusable. -/
def State.retest (s : State) (value : Nat) : Option State :=
  let p := partitionOf (value / 256) (value % 256)
  if p < 42 ∧ (partitionUnits p).any (fun x => (s.unit x.1 x.2).state == 3) then
    some (({ s with selfTest := { s.selfTest with retestState := 1, retestPartition := p } }).ask maRolling p)
  else none

/-- UNIT_RETEST (R419, R432): a write of domain 0. -/
def execUnitRetest (value : BitVec 16) (s : State) : Host.Outcome State Fault Refusal :=
  .next ((s.retest value.toNat).getD s)

/-! ### Shadows and scrubbing (R411, R421) -/

/-- SHADOW_MISMATCH (R411): item 0 the wheel base, 1 the life-cycle copy, 2 TAMPER_ARM and AO_ERASE_MAP, 3 the severity
table, 4 the domains' quorum records; for the severity table the affected sources come with the class that the disagreeing copy of
each holds, and the event acts at S4 whatever its own class. -/
def execShadowMismatch (item : Fin 5) (source : List (Fin 192)) (copy : List (Fin 6)) (s : State) : Host.Outcome State Fault Refusal :=
  if s.mode.mode = mDormant then .next s
  else
    let put := fun (t : List (Nat × Nat)) (x : Fin 192 × Fin 6) => tput t x.1.val x.2.val
    let f := { s.fault with shadowMismatches := bump 32 s.fault.shadowMismatches 1,
                            shadowClasses := if item.val = 3 then (source.zip copy).foldl put s.fault.shadowClasses else s.fault.shadowClasses }
    .next (({ s with fault := f }).raise 0xB0 { detail := item.val, acts := if item.val = 3 then some 4 else none })

/-- The slot whose job a unit runs: as its own, as a second unit or partner, or in a slice (R131, R162, R181). -/
def State.jobOn (s : State) (cls u : Nat) : Option Nat :=
  (s.slotsWhere (fun j => (decide (4 ≤ j.phase) && decide (j.phase ≤ 5)
      && ((j.unit == some (cls, u) && !j.sliced) || j.unit2 == some (cls, u) || (cls == cHawkmoth && j.slices.any (fun x => x.1 == u))))
    || (cls == cSwallowtail && j.partner == some u && j.windowRuns s.beat))).head?

/-- What a corrected word of the job in a slot is remembered by: the number of the job's admission, the slot and the word (R421). -/
def State.scrubMark (s : State) (slot word : Nat) : Nat × Nat × Nat := (((s.job? slot).map (·.seq)).getD 0, slot, word)

/-- MICRO_TRAP_SCRUB (R421): a corrected error raises OPMEM_CE and is written back without lengthening the schedule, the frame that it
saves being restored at once; a second error in the same word within the job raises OPMEM_UE. A word is one of the unit's operand
memory, of its working registers or of its trap frames. -/
def execMicroTrapScrub (cls : Fin 8) (unit : Fin 16) (word : Nat) (s : State) : Host.Outcome State Fault Refusal :=
  match s.jobOn cls.val unit.val with
  | none => .next s
  | some k =>
    let n : Named := { slot := some k, unit := some (cls.val, unit.val), detail := word }
    .next (if s.selfTest.scrubs.contains (s.scrubMark k word) then s.raise 0x41 n
      else ({ s with selfTest := { s.selfTest with scrubs := s.scrubMark k word :: s.selfTest.scrubs } }).raise 0x40 n)

end Sys2Proof.Machine
end

