-- ==== Sys2Proof/Machine/Rings.lean ====
section
/-! DEFINITION. Rings, doorbells, fetch, moderation of interrupts, bus errors and queue controls (03). -/

namespace Sys2Proof.Machine

open Sys2Proof

/-- Entries of each ring of a queue (R56). -/
def State.ringSize (s : State) (n : Nat) : Nat := 2 ^ s.qcfg n 6

/-- The modes in which the DMA mover fetches headers (R15, R438, R440, R444). -/
def State.fetches (s : State) : Bool :=
  s.mode.mode == mSelfTest || s.mode.mode == mPatch || s.mode.mode == mAssembly || s.mode.mode == mService
    || s.mode.mode == mDegraded || s.mode.mode == mCeremony

/-- The fill level of a queue (R66). -/
def Queue.fill (q : Queue) : Nat := q.intake.length

/-- A queue that must read while its function may issue no request halts, without retries (R480, R488). -/
def State.mustRead (s : State) (n : Nat) : State :=
  if !(s.queue n).reading then s
  else if s.canSend (s.qcfg n 1) then s.issue (.header (Fin.ofNat 1024 n))
  else (s.haltQueue n 1 ((s.qcfg n 4 + 64 * (s.queue n).sqHead) % 2 ^ 64)).raise 0xA0

/-- The reads that fetched headers call for are issued: the second read of a header whose check failed, and the parameter blocks
(R31, R65). -/
def State.askHeaders (s : State) (n : Nat) : State :=
  s.askAll n ((s.queue n).intake.filterMap (fun e =>
    if e.reread then some (.header (Fin.ofNat 1024 n), (s.qcfg n 4 + 64 * e.index) % 2 ^ 64)
    else if e.hdr.ctxLen ≠ 0 && e.block.isNone then some (.block (Fin.ofNat 1024 n) e.index, e.hdr.ctxAddr)
    else none))

/-- Starts a header read, or waits for the fill level to fall below FETCH_LOW (R61, R66). R66 names no state for the wait of a
queue whose doorbell or rescan shows work at or above FETCH_LOW: the model shows PAUSED, from which FETCH_RESUME reads, and that
read serves the doorbell, so that its pending bit is dropped (DESIGN CHOICE; log 26). -/
def State.startFetch (s : State) (n : Nat) : State :=
  let q := s.queue n
  if q.fill < s.qcfg n 0xB then (s.setQueue n { q with fetch := .active, reading := true, doorbell := false }).mustRead n
  else s.setQueue n { q with fetch := .paused, doorbell := false }

/-- A doorbell write wakes the fetch of an enabled queue; one that arrives while a read is outstanding, while fetch is
paused or while fetch waits is kept in one pending bit (R61, R63). -/
def State.wakeFetch (s : State) (n : Nat) : State :=
  let q := s.queue n
  if q.state = .running && q.fetch = .idle && s.fetches then s.startFetch n
  else s.setQueue n { q with doorbell := true }

/-- Whether a CQ_HEAD lies in the span from the current CQ_HEAD to CQ_TAIL (R61). -/
def State.cqHeadOk (s : State) (n v : Nat) : Bool :=
  let q := s.queue n
  let size := s.ringSize n
  decide (v < size) && decide ((v + size - q.cqHead) % size ≤ q.unread)

/-- A new CQ_HEAD is taken (R61). -/
def State.takeCqHead (s : State) (n v : Nat) : State :=
  let q := s.queue n
  let size := s.ringSize n
  s.setQueue n { q with cqHead := v, unread := q.unread - (v + size - q.cqHead) % size }

/-- A doorbell write of a function for a local queue number (R61). -/
def State.ringDoorbell (s : State) (fn k v : Nat) : State :=
  if !s.reachable fn then s else
  let s0 := s.wake
  match s0.queueOf fn k with
  | none => s0.violation fn none
  | some n =>
    if (s0.queue n).state = .disabled then s0.violation fn (some n)
    else
      let head := v % 65536
      let upd := bit v 16
      let bad := v / 131072 != 0 || (upd && !s0.cqHeadOk n head)
      let s1 := if bad then s0.violation fn (some n) else if upd then s0.takeCqHead n head else s0
      if (s1.queue n).state = .disabled then s1 else s1.wakeFetch n

/-- DOORBELL_WRITE (R61). -/
def execDoorbellWrite (fn k : Fin 256) (value : BitVec 64) (s : State) : Host.Outcome State Fault Refusal :=
  .next (s.ringDoorbell fn.val k.val value.toNat)

/-- The fetch of every RUNNING queue that is IDLE with a doorbell kept pending starts, once the mode fetches again (R61, R63, R64). -/
def State.wakePending (s : State) : State :=
  ((s.rings.queues.filter (fun x => x.2.state == .running && x.2.fetch == .idle && x.2.doorbell)).map (·.1)).foldl
    (fun a n => if a.fetches then a.startFetch n else a) s

/-- A read is over: it has returned or failed, and its retry record is closed (R79). -/
def State.closeRetry (s : State) (r : DmaRead) : State := s.dropReads (fun x => x == r)

/-- Entries that one read covers: 4,096 bytes, or the Max_Read_Request_Size of the queue's function (R62, R478). -/
def State.readEntries (s : State) (n : Nat) : Nat := min 64 ((s.func (s.qcfg n 1)).maxRead / 64)

/-- The whole headers of a read, in order. -/
def splitHeaders : Nat → Bytes → List Bytes
  | 0, _ => []
  | n + 1, b => if b.length < 64 then [] else b.take 64 :: splitHeaders n (b.drop 64)

/-- The headers up to the first that shows OWN = 0 (R62). -/
def ownedPrefix : List Bytes → List Header
  | [] => []
  | b :: r => if (parseHeader b).has flOwn then parseHeader b :: ownedPrefix r else []

/-- Intake entries of headers taken from a ring entry on; one whose check fails is read once more (R65). -/
def intakeOf (size : Nat) : Nat → List Header → List IntakeHeader
  | _, [] => []
  | i, h :: r => { index := i % size, hdr := h, reread := !h.crcOk } :: intakeOf size (i + 1) r

/-- The second read of a header whose check failed (R65): a header that is whole now is healed. -/
def reread (l : List IntakeHeader) (index : Nat) (h : Header) : List IntakeHeader :=
  l.map (fun e => if e.index = index && e.reread then { e with hdr := h, reread := false } else e)

/-- The second read of a header has returned; a read of further headers that is under way stays so. -/
def State.rereadOver (s : State) (n : Nat) : State :=
  let r : DmaRead := .header (Fin.ofNat 1024 n)
  match s.issuedAt r with
  | some b =>
    if (s.queue n).reading then
      let s1 := s.closeRetry r
      { s1 with rings := { s1.rings with issued := s1.rings.issued ++ [(r, b)] } }
    else s.closeRetry r
  | none => s.closeRetry r

/-- A header read returns (R62, R63, R65, R66). -/
def State.headerReturn (s : State) (n index : Nat) (data : Bytes) : State :=
  let q := s.queue n
  if q.intake.any (fun e => e.index == index && e.reread) then
    ((s.rereadOver n).setQueue n { q with intake := reread q.intake index (parseHeader (data.take 64)) }).askHeaders n
  else if q.state ≠ .running || !q.reading || index ≠ q.sqHead then s
  else
    let s0 := s.closeRetry (.header (Fin.ofNat 1024 n))
    let size := s.ringSize n
    let high := s.qcfg n 0xC
    let room := min (min (size - q.sqHead) (high - q.fill)) (s.readEntries n)
    let all := (splitHeaders 64 data).take room
    let got := ownedPrefix all
    let q1 := { q with intake := q.intake ++ intakeOf size q.sqHead got, sqHead := (q.sqHead + got.length) % size,
                       lastFetch := s.beat }
    let next := if got.length < all.length then
        if q.doorbell then (s0.setQueue n { q1 with doorbell := false, reading := true, fetch := .active }).mustRead n
        else s0.setQueue n { q1 with reading := false, fetch := .idle }
      else if q1.fill ≥ high then s0.setQueue n { q1 with reading := false, fetch := .paused }
      else (s0.setQueue n { q1 with reading := true, fetch := .active, doorbell := false }).mustRead n
    next.askHeaders n

/-- HEADER_READ_RETURN (R62). -/
def execHeaderReadReturn (q : Fin 1024) (index : Nat) (data : Bytes) (s : State) : Host.Outcome State Fault Refusal :=
  .next (s.headerReturn q.val index data)

/-- The entry at SQ_HEAD is read again, IDLE_RESCAN beats after fetch went IDLE (R64). -/
def State.rescan (s : State) (n : Nat) : State :=
  let q := s.queue n
  if q.state = .running && q.fetch = .idle && s.fetches && s.qcfg n 0x12 ≠ 0
      && decide (q.lastFetch + s.qcfg n 0x12 ≤ s.beat) then s.startFetch n
  else s

/-- IDLE_RESCAN (R64). -/
def execIdleRescan (q : Fin 1024) (s : State) : Host.Outcome State Fault Refusal := .next (s.rescan q.val)

/-- Fetch held at FETCH_HIGH resumes below FETCH_LOW (R66). -/
def State.resumeFetch (s : State) (n : Nat) : State :=
  let q := s.queue n
  if q.state = .running && q.fetch = .paused && s.fetches && decide (q.fill < s.qcfg n 0xB) then
    (s.setQueue n { q with fetch := .active, reading := true, doorbell := false }).mustRead n
  else s

/-- FETCH_RESUME (R66). -/
def execFetchResume (q : Fin 1024) (s : State) : Host.Outcome State Fault Refusal := .next (s.resumeFetch q.val)

/-- The parameter block of a fetched header arrives (R31). -/
def State.blockReturn (s : State) (n index : Nat) (data : Bytes) : State :=
  let q := s.queue n
  if q.state ≠ .running then s else
    (s.closeRetry (.block (Fin.ofNat 1024 n) index)).setQueue n
      { q with intake := q.intake.map (fun e =>
          if e.index = index && e.hdr.ctxLen ≠ 0 && e.block.isNone then
            { e with block := some (data.take (min 1024 e.hdr.ctxLen)) } else e) }

/-- PARAMETER_BLOCK_RETURN (R31). -/
def execParameterBlockReturn (q : Fin 1024) (index : Nat) (data : Bytes) (s : State) :
    Host.Outcome State Fault Refusal := .next (s.blockReturn q.val index data)

/-! ### Interrupts (R72, R73) -/

/-- The message of a queue: on its vector of its function (R72, R73). -/
def State.queueMessage (s : State) (n : Nat) : State :=
  (s.setQueue n { s.queue n with intrCount := 0 }).signal (s.qcfg n 1) (s.qcfg n 8)

/-- INT_DELAY beats after the first completion counted the message goes (R73). -/
def execIntDelayExpiry (q : Fin 1024) (s : State) : Host.Outcome State Fault Refusal :=
  let r := s.queue q.val
  .next (if r.intrCount ≠ 0 ∧ r.intrFirst + s.qcfg q.val 0xA ≤ s.beat then s.queueMessage q.val else s)

/-- A vector is unmasked; a pending message is sent (R73). -/
def State.unmask (s : State) (fn vec : Nat) : State :=
  let g := s.func fn
  let s1 := s.setFunc fn { g with vecMask := clearBits g.vecMask (2 ^ vec), vecPending := clearBits g.vecPending (2 ^ vec) }
  if bit g.vecPending vec then s1.send (.message fn vec) else s1

/-- MSIX_UNMASK (R73). -/
def execMsixUnmask (fn : Fin 256) (vec : Fin 8) (s : State) : Host.Outcome State Fault Refusal := .next (s.unmask fn.val vec.val)

/-! ### Bus errors (R79 to R81) -/

/-- The queue of a read (R79). -/
def State.readQueue (s : State) : DmaRead → Option Nat
  | .header q => some q.val
  | .block q _ => some q.val
  | .entry k _ => (s.job? k.val).map (·.queue)
  | .data k _ => (s.job? k.val).map (·.queue)

/-- The read is outstanding. -/
def State.outstanding (s : State) : DmaRead → Bool
  | .header q => (s.queue q.val).reading || (s.queue q.val).intake.any (·.reread)
  | .block q i => (s.queue q.val).intake.any (fun e => e.index == i && e.hdr.ctxLen != 0 && e.block.isNone)
  | .entry k o => match s.job? k.val with
    | some j => j.phase == 2 && !(if o then j.outWalk.done else j.inWalk.done)
    | none => false
  | .data k _ => match s.job? k.val with
    | some j => j.live
    | none => false

/-- A read fails (R79): it is retried 16 beats later, up to DMA_RETRY times, and then the queue halts. A read that fails for good, or
a write refused, on a queue that is HALTED or DISABLED already raises DMA_CHANNEL_HALT again, though nothing halts: the spec does not
say (DESIGN CHOICE; log 25). -/
def State.readFails (s : State) (r : DmaRead) (addr : Nat) : State :=
  match s.readQueue r with
  | none => s
  | some n =>
    if !s.outstanding r then s else
      let old := s.rings.retries.find? (fun x => x.read == r)
      if (old.map (·.waiting)).getD false then s else
        let fails := (old.map (·.fails)).getD 0 + 1
        let s1 := s.closeRetry r
        if fails > s.qcfg n 0x11 || !s.canSend (s.qcfg n 1) then (s1.haltQueue n 1 addr).raise 0xA0
        else { s1 with rings := { s1.rings with
                retries := s1.rings.retries ++ [{ read := r, fails := fails, failed := s.beat, addr := addr, waiting := true }] } }

/-- DMA_READ_FAILURE (R79): Unsupported Request, Completer Abort or poisoned data. -/
def execDmaReadFailure (read : DmaRead) (addr : BitVec 64) (s : State) : Host.Outcome State Fault Refusal :=
  .next (s.readFails read addr.toNat)

/-- The retry of a read is issued 16 beats after the failure was known (R79); where the function may issue no request any more, its
queue halts at the end of the beat (R480). -/
def execDmaRetry (read : DmaRead) (s : State) : Host.Outcome State Fault Refusal :=
  match s.readQueue read, s.rings.retries.find? (fun x => x.read == read) with
  | some n, some x =>
    .next (if x.waiting && decide (x.failed + 16 ≤ s.beat) && (s.queue n).state != .halted then
      if !s.canSend (s.qcfg n 1) then s.owe n 1 x.addr else
      let s1 := s.setQueue n { s.queue n with retryCount := bump 32 (s.queue n).retryCount 1 }
      State.issue { s1 with rings := { s1.rings with
          retries := s1.rings.retries.map (fun y => if y.read = read then { y with waiting := false } else y) } } read
    else s)
  | _, _ => .next s

/-- Beats of the completion timeout by the Completion Timeout Value of Device Control 2: the lower end of range A, B, C or D, and
16 ms for the default (R479). The codes of the ranges are those of PCI Express (PRESUMED; log 67). -/
def timeoutBeats (code : Nat) : Nat :=
  match code with
  | 1 | 2 => 391
  | 5 | 6 => msBeats 16
  | 9 | 10 => msBeats 65
  | 13 | 14 => msBeats 260
  | _ => msBeats 16

/-- The completion timeout of a queue's function (R479). -/
def State.readTimeout (s : State) (n : Nat) : Nat := timeoutBeats (s.func (s.qcfg n 1)).timeoutCode

/-- The completion timeout of a read that is under way has passed. -/
def State.timedOut (s : State) (r : DmaRead) : Bool :=
  match s.readQueue r, s.issuedAt r with
  | some n, some b => s.outstanding r && decide (b + s.readTimeout n ≤ s.beat)
  | _, _ => false

/-- COMPLETION_TIMEOUT_EXPIRY (R479): counted, and then a failed read like any other (R79). -/
def execCompletionTimeoutExpiry (read : DmaRead) (addr : BitVec 64) (s : State) : Host.Outcome State Fault Refusal :=
  .next (if s.timedOut read then
      ({ s with link := { s.link with timeouts := bump 32 s.link.timeouts 1 } }).readFails read addr.toNat
    else s)

/-- A refused output write or OWN clear halts the queue (R80). -/
def State.writeRefused (s : State) (n addr : Nat) : State := (s.haltQueue n 2 addr).raise 0xA0

/-- The transfers of the beat that a function may not make halt their queues (R80, R265, R480). -/
def State.settleOwed (s : State) : State :=
  s.rings.owed.foldl (fun a x =>
      if (a.queue x.1).state = .running ∨ (a.queue x.1).state = .stopped then (a.haltQueue x.1 x.2.1 x.2.2).raise 0xA0 else a)
    { s with rings := { s.rings with owed := [] } }

/-- A refused completion write halts the queue, and the completion is lost (R80). -/
def State.completionRefused (s : State) (slot n addr : Nat) : State :=
  let s1 := s.dropJob slot
  ((s1.setQueue n { s1.queue n with lost := (s1.queue n).lost + 1 }).haltQueue n 3 addr).raise 0xA1

/-- Where the byte at an offset of a buffer lies (R35). -/
def spanAddr (spans : List Span) (off : Nat) : Nat := ((cutSpans spans off [0#8]).head?.map (·.1)).getD 0

/-- A completion that host memory does not take: under RESET and a disable it is discarded, and otherwise lost (R78, R80). -/
def State.dropCompletion (s : State) (slot : Nat) (j : Job) : State :=
  let q := s.queue j.queue
  if q.silent || q.reset || q.disabling then s.dropJob slot
  else s.completionRefused slot j.queue (s.qcfg j.queue 5 + 32 * q.cqTail)

/-- VIOLATION_BUCKET_LEAK (R83): one unit every 7,812,500 / VIOLATION_RATE beats, never below 0. The part of a period that is over
stays with the bucket, so that the rate holds exactly. -/
def execViolationBucketLeak (d : Fin 256) (s : State) : Host.Outcome State Fault Refusal :=
  match tget s.rings.buckets d.val with
  | none => .next s
  | some (level, since, rest) =>
    let over_ := (s.beat - since) * s.violationRate d.val + rest
    .next (if over_ < 7812500 then s
      else if level ≤ 1 then { s with rings := { s.rings with buckets := tdel s.rings.buckets d.val } }
      else { s with rings := { s.rings with buckets := tput s.rings.buckets d.val (level - 1, s.beat, over_ - 7812500) } })

/-! ### Queue controls (R50, R77, R78) -/

/-- What every abort of a queue does (R50): in-flight jobs meet the abort, unadmitted headers are dropped, and SQ_HEAD
goes back to the oldest of them. -/
def State.abortJobs (s : State) (n : Nat) : State :=
  let q := s.queue n
  let s1 := s.setQueue n { q with intake := [], fetch := .idle, reading := false, doorbell := false, lastFetch := s.beat,
                                  abortSeq := s.jobs.nextSeq,
                                  sqHead := (q.intake.head?.map (·.index)).getD q.sqHead }
  (s1.dropReads (readOfQueue n)).meetAll (s1.slotsWhere (fun j => j.queue == n)) .abort

/-- The queue-control ABORT bit (R50, R77). -/
def State.abortQueue (s : State) (n : Nat) : State :=
  let q := s.queue n
  if q.state = .running || q.state = .stopped then
    (s.setQueue n { q with state := .stopped, abort := true }).abortJobs n
  else s

/-- The queue-control RESET bit (R77, R78): as an abort; the indices follow when every job has finished. R77 gives neither STATE
nor the indices between the write and that end: the model shows STOPPED, and SQ_HEAD, CQ_TAIL and CQ_HEAD as the abort leaves them.
HALT_CAUSE is cleared with the write and HALT_ADDR with the end, of which R77 says nothing either (DESIGN CHOICE; log 26). -/
def State.resetQueue (s : State) (n : Nat) : State :=
  let q := s.queue n
  if q.state = .disabled then s else (s.setQueue n { q with state := .stopped, reset := true, haltCause := 0 }).abortJobs n

/-- The queue-control RESTART bit (R77, R81): STOPPED leads to RUNNING, also while jobs of the abort still finish. A queue under
RESET becomes RUNNING of itself. -/
def State.restartQueue (s : State) (n : Nat) : State :=
  let q := s.queue n
  if q.state = .stopped && !q.reset then
    (s.setQueue n { q with state := .running, restart := true, fetch := .active, reading := true, doorbell := false }).mustRead n
  else s

/-- A disable: as by an abort, with intake slots and reservations released (R77). -/
def State.disableQueue (s : State) (n : Nat) : State :=
  let q := s.queue n
  if q.state = .disabled then s else
    (((s.setCfg (0x2400 + n) 7 0).setQueue n { q with state := .disabled, disabling := true }).abortJobs n)

/-- A control write of a function for a local queue number. -/
def State.control (s : State) (fn k : Nat) (f : State → Nat → State) : State :=
  if !s.reachable fn then s else
  let s0 := s.wake
  match s0.queueOf fn k with
  | none => s0
  | some n => f s0 n

/-- QUEUE_ABORT (R50). -/
def execQueueAbort (fn k : Fin 256) (s : State) : Host.Outcome State Fault Refusal :=
  .next (s.control fn.val k.val State.abortQueue)

/-- QUEUE_RESET (R77). -/
def execQueueReset (fn k : Fin 256) (s : State) : Host.Outcome State Fault Refusal :=
  .next (s.control fn.val k.val State.resetQueue)

/-- QUEUE_RESTART (R77). -/
def execQueueRestart (fn k : Fin 256) (s : State) : Host.Outcome State Fault Refusal :=
  .next (s.control fn.val k.val State.restartQueue)

/-- Jobs of a queue in flight: admitted, completion not yet written (R47, R75). -/
def State.inflight (s : State) (n : Nat) : Nat := (s.slotsWhere (fun j => j.queue == n)).length

/-- Jobs that the last ABORT, RESET or disable of a queue met and whose completion is still to come (R78). -/
def State.aborted (s : State) (n : Nat) : Nat :=
  (s.slotsWhere (fun j => j.queue == n && decide (j.seq < (s.queue n).abortSeq))).length

/-- The cause QUEUE_DONE of the queue's function (R76). -/
def State.queueDone (s : State) (n : Nat) : State := if s.qcfg n 1 < 256 then s.cause (s.qcfg n 1) 3 else s

/-- An ABORT, RESET or disable has finished (R78): its control bit clears, and a reset sets the indices. A queue that a halt condition
has met while its RESET still ran stays HALTED with its indices, of which the spec says nothing (DESIGN CHOICE; log 26). -/
def State.finishAbort (s : State) (n : Nat) : State :=
  let r := s.queue n
  let r1 := { r with abort := false, reset := false, disabling := false, retiring := false, silent := false, abortSeq := 0 }
  let r2 := if r.reset && r.state = .stopped then
      { r1 with state := .running, sqHead := 0, cqTail := 0, cqHead := 0, cqPhase := true, unread := 0, haltAddr := 0,
                lastFetch := s.beat }
    else r1
  let s1 := ((s.setQueue n r2).wakePending).queueDone n
  if r.retiring then s1.setCfg (0x2400 + n) 1 0xFFFF else s1

/-- QUEUE_DONE (R76, R78): RESTART has finished, since fetch runs, or every job that an ABORT, RESET or disable met has written its
completion. The control bit clears, and QUEUE_DONE is set. -/
def execQueueDone (q : Fin 1024) (s : State) : Host.Outcome State Fault Refusal :=
  let n := q.val
  let s1 := if (s.queue n).restart then (s.setQueue n { s.queue n with restart := false }).queueDone n else s
  let r := s1.queue n
  .next (if (r.abort || r.reset || r.disabling) && s1.aborted n == 0 then s1.finishAbort n else s1)

/-- The enabled queues (R54, R55). -/
def State.enabledQueues (s : State) : List Nat :=
  (s.rings.queues.filter (fun x => x.2.state != .disabled)).map (·.1)

/-- A sum of an entry over the enabled queues and one more (R54, R55). -/
def State.sumWith (s : State) (n sub : Nat) : Nat :=
  (s.enabledQueues.filter (fun m => m != n)).foldl (fun a m => a + s.qcfg m sub) (s.qcfg n sub)

/-- The ring bases are aligned and the rings end below the top of the address space (R56). -/
def State.ringsOk (s : State) (n : Nat) : Bool :=
  let size := s.ringSize n
  s.qcfg n 4 % 4096 == 0 && s.qcfg n 5 % 4096 == 0
    && decide (s.qcfg n 4 + 64 * size ≤ 2 ^ 64) && decide (s.qcfg n 5 + 32 * size ≤ 2 ^ 64)

/-- The checks of an enable (R54, R55, R56, R77). -/
def State.enableOk (s : State) (n : Nat) : Bool :=
  decide (s.sumWith n 0xC ≤ 32768) && decide (s.sumWith n 0xF ≤ 4096) && s.ringsOk n

/-- Who may write a queue's RW entries (R85). -/
def State.mayConfigure (s : State) (d n : Nat) : Bool :=
  s.qcfg n 1 == d || (d == 0 && (s.qcfg n 1 == 0xFFFF || !s.active (s.qcfg n 1)))

/-- Enables a queue whose checks pass (R57, R77); fetch is IDLE from this beat on. An enable is refused too while jobs of an
earlier disable are in flight, of which R77 says nothing: their completions still go to the old ring (DESIGN CHOICE; log 26). -/
def State.enableQueue (s : State) (n : Nat) : State :=
  if (s.queue n).state ≠ .disabled || (s.queue n).disabling || !s.enableOk n then s
  else (s.setCfg (0x2400 + n) 7 1).setQueue n { state := .running, lastFetch := s.beat }

/-- Q_ENABLE (R77): a write of the entry by a domain. -/
def execQEnable (by_ : Fin 256) (q : Fin 1024) (on : Bool) (s : State) : Host.Outcome State Fault Refusal :=
  .next (if !s.mayConfigure by_.val q.val || s.mode.mode == mLockdown then s
    else if on then s.enableQueue q.val else s.disableQueue q.val)

end Sys2Proof.Machine
end

