-- ==== Sys2Proof/Machine/Writes.lean ====
section
/-! DEFINITION. Writes of RW, RWC and RWL entries of the dictionary, as messages, orders and boot images make them: the
entry, its range, the rules of its own chapter, and what follows a write (R454, R459, R464). -/

namespace Sys2Proof.Machine

open Sys2Proof

/-- The row of an entry, if it is implemented (R355, R455); every implemented index has its SUB_COUNT. -/
def entryAt (idx sub : Nat) : Option Entry :=
  match family idx with
  | none => none
  | some (b, i) =>
    if b = 0x4800 ∧ 0x20 ≤ sub ∧ i ≠ 0 then none
    else
      match (rowsOf b).find? (fun e => decide (e.sub ≤ sub) && decide (sub ≤ e.subHi)) with
      | some e => some e
      | none => if sub = 0 ∧ !(rowsOf b).isEmpty then some (row 0 .u8 .ro 0 0 255) else none

/-- The number that the bytes of a value stand for (R453). -/
def Ty.decode (t : Ty) (b : Bytes) : Int :=
  let n := leNat b
  if t = .i32 ∧ 2 ^ 31 ≤ n then (n : Int) - 2 ^ 32 else n

/-- The bytes of a number (R453). -/
def Ty.encode (t : Ty) (v : Int) : Bytes :=
  leBytes t.size (if v < 0 then (v + 2 ^ 32).toNat else v.toNat)

/-! ### Ranges -/

/-- The range of a queue entry, where it depends on others (R85). -/
def queueRange (s : State) (n sub : Nat) (e : Entry) (v : Int) : Bool :=
  let u := v.toNat
  match sub with
  | 0x01 => decide (u ≤ 255) || u == 0xFFFF
  | 0x02 => decide (u ≤ (if s.qcfg n 1 = 0 ∨ s.qcfg n 1 = 0xFFFF then 255 else 63))
  | 0x04 | 0x05 => u % 4096 == 0
  | 0x0B => decide (1 ≤ u) && decide (u + 1 ≤ s.qcfg n 0xC)
  | 0x0D => decide (16 ≤ u) && decide (u + 16 ≤ s.qcfg n 0xE)
  | 0x10 => decide (max 1 (s.qcfg n 0xF) ≤ u) && decide (u ≤ 4096)
  | 0x12 => u == 0 || (decide (16 ≤ u) && decide (v ≤ e.hi))
  | _ => decide (e.lo ≤ v) && decide (v ≤ e.hi)

/-- A value lies in the entry's range, which other entries and the grade may bound. -/
def rangeOk (s : State) (idx sub : Nat) (e : Entry) (v : Int) : Bool :=
  if 0x2400 ≤ idx ∧ idx ≤ 0x27FF then queueRange s (idx - 0x2400) sub e v
  else if idx = 0x1104 then v % 32 == 0
  else if idx = 0x6900 ∧ sub = 1 then v == 0 || (decide (3600 ≤ v) && decide (v ≤ 604800))
  else if idx = 0x6030 ∧ sub = 2 then decide (-600 ≤ v) && decide (v ≤ if Config.industrial then -450 else -50)
  else if 0x6800 ≤ idx ∧ idx ≤ 0x68BF ∧ sub = 1 then
    decide (((faultRow (idx - 0x6800)).min : Int) ≤ v) && decide (v ≤ (faultRow (idx - 0x6800)).max)
  else match e.ty with
    | .bytes _ => true
    | .digest384 => true
    | _ => decide (e.lo ≤ v) && decide (v ≤ e.hi)

/-! ### Rules of the owning chapters -/

/-- Sources selected by the bits of TAMPER_ARM (R389). -/
def armBit (src : Nat) : Option Nat :=
  if src ≤ 3 then some src else if 5 ≤ src ∧ src ≤ 8 then some (src - 1) else if src = 0x0A then some 8 else none

/-- A source is fused (R390). -/
def State.isFused (s : State) (src : Nat) : Bool :=
  match armBit src with
  | some b => bit s.ao.fused b
  | none => false

/-- A source of 0x00 to 0x1F is armed (R394). -/
def State.isArmed (s : State) (src : Nat) : Bool :=
  match armBit src with
  | some b => bit (s.cfg 0x6000 1) b
  | none =>
    if src = 9 then (List.range 4).any (fun i => bit (s.cfg 0x6000 1) (4 + i) && !s.isFused (5 + i))
    else src == 4 || (decide (0x0B ≤ src) && decide (src ≤ 0x0F)) || src == 0x13

/-- AO_ERASE_MAP as the main die writes it (R394). -/
def State.eraseMapNow (s : State) : Nat :=
  (List.range 32).foldl (fun m n => if s.isArmed n && !s.isFused n && s.classOf n == 5 then setBit m n else m) 0

/-- The main die writes AO_ERASE_MAP (R394). -/
def State.writeEraseMap (s : State) : State := { s with ao := { s.ao with eraseMap := s.eraseMapNow } }

/-- Queues of a domain (R52). -/
def State.queuesOf (s : State) (d : Nat) : List Nat := (List.range 1024).filter (fun n => s.qcfg n 1 == d)

/-- The ownership rule holds for queue `n` (R52). -/
def State.ownerOk (s : State) (n : Nat) : Bool :=
  let d := s.qcfg n 1
  d == 0xFFFF || (decide (d ≤ 255) && decide (s.qcfg n 2 ≤ (if d = 0 then 255 else 63))
    && decide ((s.queuesOf d).length ≤ (if d = 0 then 256 else 64))
    && (s.queuesOf d).all (fun m => m == n || s.qcfg m 2 != s.qcfg n 2))

/-- The sum of STREAM_QUOTA over all domains (R270). -/
def State.streamSum (s : State) : Nat := (List.range 256).foldl (fun a d => a + s.cfg (0x2000 + d) 0x10) 0

/-- The entry's own rule on a candidate state that holds every value of the write (R52, R54 to R56, R270, R297, R389). -/
def ruleOk (s cand : State) (idx sub : Nat) (v : Int) : Bool :=
  if 0x2400 ≤ idx ∧ idx ≤ 0x27FF then
    let n := idx - 0x2400
    if sub ≤ 3 then cand.ownerOk n
    else if sub = 7 ∧ v = 1 then (s.queue n).state != .disabled || (!(s.queue n).disabling && cand.enableOk n)
    else true
  else if 0x2000 ≤ idx ∧ idx ≤ 0x20FF then
    (if sub = 0x0E then decide (s.commitment (idx - 0x2000) ≤ v.toNat)
     else if sub = 0x10 then decide (cand.streamSum ≤ 4096) else true)
  else if idx = 0x6000 ∧ sub = 1 then
    let old := s.cfg 0x6000 1
    let new := v.toNat
    (bitList 9 new).all (fun b => bit old b || !bit s.ao.fused b)
      && ((s.lcState != 3 && s.lcState != 4) || (bitList 9 old).all (fun b => bit new b))
  else true

/-- The entry may be written in the present mode and queue state (R85, R321). -/
def stateOk (s : State) (idx sub : Nat) : Bool :=
  if 0x2400 ≤ idx ∧ idx ≤ 0x27FF then
    sub == 7 || sub == 9 || sub == 0xA || sub == 0x13 || (s.queue (idx - 0x2400)).state == .disabled
  else if idx = 0x4002 then s.mode.mode == mAssembly
  else true

/-! ### Making the writes -/

/-- The value of an entry in its place; the inverted shadow of a CLASS is written in the same beat (R408). -/
def State.putEntry (s : State) (d : Nat) (w : EntryWrite) (e : Entry) : State :=
  if w.idx = 0x1104 then
    { s with mode := { s.mode with dsrAddr := if leNat w.value = 0 then tdel s.mode.dsrAddr d else tput s.mode.dsrAddr d (leNat w.value) } }
  else if w.idx = 0x7880 then { s with dict := { s.dict with bootHeld := w.value } }
  else if 0x6800 ≤ w.idx ∧ w.idx ≤ 0x68BF ∧ w.sub = 1 then
    ({ s with fault := { s.fault with shadowClasses := tdel s.fault.shadowClasses (w.idx - 0x6800) } }).setCfg w.idx w.sub (e.ty.decode w.value)
  else s.setCfg w.idx w.sub (e.ty.decode w.value)

/-- The state with every value of a list in place. -/
def State.putAll (s : State) (d : Nat) (ws : List EntryWrite) : State :=
  ws.foldl (fun a w => match entryAt w.idx w.sub with | some e => a.putEntry d w e | none => a) s

/-- The answer to a write of an RW, RWC or RWL entry past the checks of access (R459). -/
def writeResult (s cand : State) (w : EntryWrite) : Nat :=
  match entryAt w.idx w.sub with
  | none => 1
  | some e =>
    if w.value.length ≠ e.ty.size then 6
    else if !rangeOk cand w.idx w.sub e (e.ty.decode w.value) then 5
    else if !stateOk s w.idx w.sub then 7
    else if !ruleOk s cand w.idx w.sub (e.ty.decode w.value) then 8
    else 0

/-- The active tier of a power cap (R98). -/
def State.tierFor (s : State) (cap : Nat) : Nat :=
  ((List.range s.wheel.tierCount).find? (fun t => decide (s.wheel.rated t ≤ cap))).getD (s.wheel.tierCount - 1)

/-- A write that has been accepted waits for the end of its beat (R454). -/
def State.writeLate (s : State) (d : Nat) (w : EntryWrite) : State := { s with dict := { s.dict with late := s.dict.late ++ [(d, w)] } }

/-- A new power cap: its tier takes effect at the next boundary (R98, R104). -/
def State.capChanged (s : State) : State :=
  let t := s.tierFor (s.cfg 0x1201 1)
  { s with wheel := { s.wheel with tierNext := if t = s.wheel.tier then 0xFF else t } }

/-- Entries that the AO domain keeps a copy of (R378, R403). -/
def aoCopied (idx sub : Nat) : Bool :=
  (idx == 0x6000 && (sub == 1 || sub == 7 || sub == 9 || sub == 0xA)) || (decide (0x6020 ≤ idx) && decide (idx ≤ 0x6023) && decide (sub ≤ 3))

/-- What follows a write in its beat, `old` being the state before it. -/
def State.afterWrite (old s : State) (w : EntryWrite) : State :=
  let v := s.cfgI w.idx w.sub
  if 0x2400 ≤ w.idx ∧ w.idx ≤ 0x27FF then
    let n := w.idx - 0x2400
    if w.sub = 7 then
      -- the entry follows the queue's own state, which the control sets
      let s0 := s.setCfg w.idx 7 (old.cfgI w.idx 7)
      if v = 1 then s0.enableQueue n else s0.disableQueue n
    else if w.sub = 1 ∧ old.qcfg n 1 ≠ s.qcfg n 1 then
      s.emptyMonitor (entryKey (0x7010 + n / 128) (n % 128 + 1))
    else s
  else if 0x2000 ≤ w.idx ∧ w.idx ≤ 0x20FF ∧ w.sub = 0x0E ∧ v < old.cfgI w.idx 0x0E then
    { s with vault := { s.vault with purging := insertNat s.vault.purging (w.idx - 0x2000) } }
  else if w.idx = 0x1201 ∧ w.sub = 1 then s.capChanged
  else if w.idx = 0x5030 ∧ w.sub = 2 then { s with entropy := { s.entropy with studyPos := 0 } }
  else
    let s1 := if aoCopied w.idx w.sub then { s with ao := { s.ao with config := tput s.ao.config (entryKey w.idx w.sub) v } } else s
    if (0x6800 ≤ w.idx ∧ w.idx ≤ 0x681F) ∨ (w.idx = 0x6000 ∧ w.sub = 1) then s1.writeEraseMap else s1

/-- Applies writes that have been accepted, in order (R336, R465). -/
def State.applyWrites (s : State) (d : Nat) (ws : List EntryWrite) : State :=
  ws.foldl (fun a w =>
    match entryAt w.idx w.sub with
    | some e => a.afterWrite (a.putEntry d w e) w
    | none => a) s

/-! ### Record lists (R336, R464) -/

/-- Records of a DICT_WRITE payload or of a boot image: INDEX, SUBINDEX, a reserved byte, LEN, VALUE padded to four bytes;
none where the layout is invalid. -/
def parseRecords : Nat → Nat → Bytes → Option (List (EntryWrite × Bool))
  | _, 0, b => if b.isEmpty then some [] else none
  | 0, _, _ => none
  | fuel + 1, n + 1, b =>
    let len := field b 4 4
    let padded := 4 * ((len + 3) / 4)
    if b.length < 8 + padded then none
    else
      let w : EntryWrite := { idx := field b 0 2, sub := byteAt b 2, value := slice b 8 len }
      let clean := byteAt b 3 == 0 && allZero (slice b (8 + len) (padded - len))
      (parseRecords fuel n (b.drop (8 + padded))).map (fun l => (w, clean) :: l)

/-- The domain 0 rule on RW entries of other domains' queues (R85); every other RW entry is domain 0's. -/
def State.mayWriteRw (s : State) (d idx : Nat) : Bool :=
  if 0x2400 ≤ idx ∧ idx ≤ 0x27FF then s.mayConfigure d (idx - 0x2400)
  else if idx = 0x1104 then true
  else d == 0

/-! ### The boot image (R464, R465) -/

/-- The records of a boot image, none where its layout is invalid. -/
def bootRecords (b : Bytes) : Option (List EntryWrite) :=
  if 32 ≤ b.length ∧ field b 0 4 = 0x49424451 ∧ byteAt b 4 = 1 ∧ allZero (slice b 5 3) ∧ allZero (slice b 24 8)
      ∧ field b 16 4 = b.length ∧ b.length ≤ 65536 then
    match parseRecords b.length (field b 20 4) (b.drop 32) with
    | some l => if l.all (·.2) then some (l.map (·.1)) else none
    | none => none
  else none

/-- The number of the first record of a boot image that is refused (R465). -/
def State.bootRefused (s : State) (ws : List EntryWrite) : Option Nat :=
  let cand := s.putAll 0 ws
  (List.range ws.length).find? (fun k =>
    match ws[k]? with
    | some w =>
      match entryAt w.idx w.sub with
      | some e => !((e.acc == .rwc || (e.acc == .rw && s.mayWriteRw 0 w.idx)) && writeResult s cand w == 0)
      | none => true
    | none => false)

/-- The outcome of the boot-image phase: BOOT_STATUS, BOOT_RECORD, and the records to apply (R465). -/
def State.bootOutcome (s : State) : Nat × Nat × List EntryWrite :=
  let b := s.dict.bootStaged
  if b.isEmpty then (0, 0, [])
  else if allZero s.dict.bootHeld || sha3_384 b != s.dict.bootHeld then (3, 0, [])
  else match bootRecords b with
    | none => (4, 0, [])
    | some ws =>
      match s.bootRefused ws with
      | some k => (5, k, [])
      | none => (2, 0, ws)

/-- The boot-image phase of Assembly ends, and MEAS_1 is extended (R443, R465). -/
def State.bootEnd (s : State) : State :=
  if !s.mode.bootPhase then s
  else
    let o := s.bootOutcome
    let s1 := s.applyWrites 0 o.2.2
    let d := { s1.dict with bootStatus := o.1, bootRecord := o.2.1,
                            bootId := if o.1 = 2 then field s.dict.bootStaged 8 8 else s1.dict.bootId }
    ({ s1 with dict := d, mode := { s1.mode with bootPhase := false } }).extend 1
      (sha3_384 (if o.1 = 2 then s.dict.bootStaged else []))

end Sys2Proof.Machine
end

