-- ==== Sys2Proof/Machine/Wheel.lean ====
section
/-! DEFINITION. The slot wheel's images: staging, checks, choice at Assembly, swap, tiers and offset steps (R87 to R106). -/

namespace Sys2Proof.Machine

open Sys2Proof

/-! ### The factory wheel (R98, R103) -/

/-- A cell of the factory wheel as 32 bits. -/
def factoryCell (p c : Nat) : Nat :=
  let cc := classColumns (columnClass c)
  2 ^ 31 + 4096 * ((cc.2 * p + c - cc.1) % classUnits (columnClass c))

/-- The factory image: the layout of R94 with the contents of R103; group 0 is its only group. -/
def factoryImage : Bytes :=
  ascii "QWHL".toList ++ [1#8, 8#8, 1#8, 0#8] ++ zeros 8 ++ leBytes 4 0x50400 ++ zeros 44
    ++ zeros 256 ++ zeros 60 ++ [0xFF#8, 0xFF#8, 0xFF#8, 0xFF#8]
    ++ ([60#8, 0#8] ++ leBytes 2 256 ++ zeros 12) ++ zeros 240
    ++ [320, 285, 249, 214, 178, 142, 107, 71].flatMap (fun w => leBytes 2 w ++ zeros 6) ++ zeros 320
    ++ (List.range 4096).flatMap (fun p => (List.range 16).flatMap (fun c => leBytes 4 (factoryCell p c)))
    ++ (List.range 8).flatMap (fun t => (List.range 4096).flatMap (fun p => leBytes 2 (if p % 8 < 8 - t then 0xFFFF else 0)))

/-! ### Checks of an image (R96) -/

/-- Check 3, as far as the header shows it. -/
def wheelHeaderOk (b : Bytes) : Bool :=
  field b 0 4 == 0x4C485751 && byteAt b 4 == 1 && decide (1 ≤ byteAt b 5) && decide (byteAt b 5 ≤ 8)
    && decide (1 ≤ byteAt b 6) && decide (byteAt b 6 ≤ 16) && field b 16 4 == 0x40400 + 0x2000 * byteAt b 5

/-- The 32 bits of a cell of an image. -/
def imageCell (b : Bytes) (p c : Nat) : Nat := field b (0x400 + 64 * p + 4 * c) 4

/-- A test holds of every cell of an image. -/
def allCells (f : Nat → Nat → Bool) : Bool := (List.range 4096).all (fun p => (List.range 16).all (fun c => f p c))

/-- Check 4: reserved fields and bytes. -/
def wheelReservedOk (b : Bytes) : Bool :=
  byteAt b 7 == 0 && allZero (slice b 20 44) && allZero (slice b 0x2C0 320) && slice b 0x17C 4 == [0xFF#8, 0xFF#8, 0xFF#8, 0xFF#8]
    && (List.range 16).all (fun g =>
      if g < byteAt b 6 then byteAt b (0x180 + 16 * g + 1) == 0 && allZero (slice b (0x180 + 16 * g + 4) 12)
      else allZero (slice b (0x180 + 16 * g) 16))
    && (List.range 8).all (fun t =>
      if t < byteAt b 5 then allZero (slice b (0x280 + 8 * t + 2) 6) else allZero (slice b (0x280 + 8 * t) 8))
    && allCells (fun p c => bits (imageCell b p c) 30 16 == 0)

/-- Check 5: maps below GROUP_COUNT. -/
def wheelMapsOk (b : Bytes) : Bool :=
  (List.range 256).all (fun d => decide (byteAt b (0x40 + d) < byteAt b 6))
    && (List.range 60).all (fun u => decide (byteAt b (0x140 + u) < byteAt b 6) || byteAt b (0x140 + u) == 0xFF)

/-- Check 6: VALID cells. -/
def wheelCellsOk (b : Bytes) : Bool :=
  !allCells (fun p c => !bit (imageCell b p c) 31)
    && allCells (fun p c =>
      let x := parseCell (imageCell b p c)
      !x.valid || (decide (x.unit < classUnits (columnClass c))
        && byteAt b (0x140 + classBase (columnClass c) + x.unit) == x.group && byteAt b (0x40 + x.owner) == x.group))

/-- Check 7: a group that owns a Swallowtail unit owns at least two. -/
def wheelPairsOk (b : Bytes) : Bool :=
  (List.range (byteAt b 6)).all (fun g => ((List.range 16).filter (fun u => byteAt b (0x140 + u) == g)).length != 1)

/-- Check 8: masks and rated powers. -/
def wheelTiersOk (b : Bytes) : Bool :=
  let n := byteAt b 5
  let mask := fun t p => field b (0x40400 + 0x2000 * t + 2 * p) 2
  let rated := fun t => field b (0x280 + 8 * t) 2
  (List.range n).all (fun t => (List.range 4096).all (fun p => (List.range 16).all (fun c =>
      !bit (mask t p) c || (bit (imageCell b p c) 31 && (t == 0 || bit (mask (t - 1) p) c)))))
    && (List.range (n - 1)).all (fun t => decide (rated (t + 1) ≤ rated t)) && decide (rated 0 ≤ 320) && decide (rated (n - 1) ≤ 80)

/-- Check 9: sums of the group table. -/
def wheelSumsOk (b : Bytes) : Bool :=
  let sum := fun (f : Nat → Nat) => (List.range (byteAt b 6)).foldl (fun a g => a + f g) 0
  decide (sum (fun g => byteAt b (0x180 + 16 * g)) ≤ 60) && decide (sum (fun g => field b (0x180 + 16 * g + 2) 2) ≤ 256)

/-- STAGE_CHECK of a whole image past check 3 (R96). -/
def wheelCheck (b : Bytes) : Nat :=
  if !wheelReservedOk b then 4 else if !wheelMapsOk b then 5 else if !wheelCellsOk b then 6 else if !wheelPairsOk b then 7
  else if !wheelTiersOk b then 8 else if !wheelSumsOk b then 9 else 2

/-! ### Staging (R96, R100) -/

/-- A swap that an order has asked for is cancelled (R101). -/
def State.cancelSwap (s : State) : State :=
  let s1 := if 2 ≤ s.wheel.swapState then s.dropRequests maSwap 0 else s
  { s1 with wheel := { s1.wheel with swapState := 0 } }

/-- STAGE_RESET (R100, R101, R105). -/
def State.stageReset (s : State) : State :=
  let s1 := s.cancelSwap
  { s1 with wheel := { s1.wheel with staged := [], stageCheck := 0, stageDigest := zeros 48 } }

/-- STAGE_CHECK of staged bytes (R96). -/
def stageCheckOf (b : Bytes) : Nat :=
  if b.isEmpty then 0 else if b.length < 64 then 1 else if !wheelHeaderOk b then 3
  else if b.length < field b 16 4 then 1 else wheelCheck b

/-- A write of STAGE_DATA, none where it is refused (R96, R105); the first in Assembly ends the boot-image phase (R443). -/
def State.stageData (s : State) (data : Bytes) : Option State :=
  let b := s.wheel.staged ++ data
  if s.wheel.stageCheck = 3 ∨ b.length > 328704 ∨ (64 ≤ b.length ∧ wheelHeaderOk b ∧ field b 16 4 < b.length) then none
  else
    let s1 := if s.mode.mode = mAssembly then s.bootEnd else s
    let s2 := if 2 ≤ s1.wheel.swapState then s1.cancelSwap else s1
    let c := stageCheckOf b
    some { s2 with wheel := { s2.wheel with staged := b, stageCheck := c, stageDigest := sha3_384 b,
                                            swapState := if c = 2 then 1 else s2.wheel.swapState } }

/-- Paths of the dictionary are served from the Patch window on, and no write is accepted in Lockdown (R440, R462). -/
def State.writable (s : State) : Bool := decide (3 ≤ s.mode.mode) && s.mode.mode != mLockdown

/-- STAGE_RESET: a write of domain 0. Where a swap has been granted, the boundary of this beat sees the old value, so that the write waits
for the end of the beat (R101, R454). -/
def execStageReset (s : State) : Host.Outcome State Fault Refusal :=
  .next (if !s.writable then s
    else if s.wheel.swapState = 3 then s.writeLate 0 { idx := 0x3001, sub := 1, value := [1#8] }
    else s.stageReset)

/-- STAGE_DATA: a write of domain 0 of 1 to 1,024 bytes, which waits in the same way. -/
def execStageData (data : Bytes) (s : State) : Host.Outcome State Fault Refusal :=
  .next (if s.writable && decide (1 ≤ data.length) && decide (data.length ≤ 1024) then
      (s.stageData data).elim s (fun t =>
        if s.wheel.swapState = 3 then s.writeLate 0 { idx := 0x3001, sub := 2, value := data } else t)
    else s)

/-! ### The wheel in force (R97, R101, R102) -/

/-- A wheel takes effect: tier chosen afresh, the lending rounds begin anew (R90, R98, R101). -/
def State.useWheel (s : State) (img : Option Bytes) (source : Nat) (digest : Bytes) : State :=
  let w := { s.wheel with image := img, source := source, digest := digest, borrower := [] }
  let s1 := { s with wheel := w }
  let t := s1.tierFor (s1.cfg 0x1201 1)
  { s1 with wheel := { w with tier := t, tierNext := 0xFF, running := true,
                              tierChanges := if t = w.tier then w.tierChanges else bump 32 w.tierChanges 1 } }

/-- The wheel is chosen at the first VLOAD_START of an Assembly, and MEAS_1 is extended (R102, R443). -/
def State.chooseWheel (s : State) : State :=
  let w := s.wheel
  if !s.mode.wheelPhase then s
  else
    let s1 : State :=
      if w.stageCheck = 2 ∧ w.stageDigest = w.bootDigest then s.useWheel (some w.staged) 0 w.stageDigest
      else if allZero w.bootDigest ∧ w.staged.isEmpty then s.useWheel none 2 (sha3_384 factoryImage)
      else (s.useWheel none 3 (sha3_384 factoryImage)).raise 0xB8
    ({ s1 with mode := { s1.mode with wheelPhase := false } }).extend 1 s1.wheel.digest

/-- Groups whose handle-cache partition changes in size or membership at a swap (R101). -/
def cacheChanges (old new : WheelState) (g : Nat) : Bool :=
  old.hcache g != new.hcache g || (List.range 256).any (fun d => (old.groupOf d == g) != (new.groupOf d == g))

/-- The swap at a boundary (R100 step 7, R101, R309). A waiting job whose group keeps no usable unit for it ends with BLOCK_UNUSABLE
here, as it does when a unit is marked: R46 speaks of the marking alone (DESIGN CHOICE; log 61). -/
def State.swapWheel (s : State) : State :=
  let old := s.wheel
  let s1 := s.useWheel (some old.staged) 1 old.stageDigest
  let w := s1.wheel
  let v := { s1.vault with
    lines := s1.vault.lines.filter (fun l => !cacheChanges old w l.1),
    copies := s1.vault.copies.map (fun c => (c.1, (w.groupOf ((s.pageOwner c.1).getD 0), c.2.2))) }
  ((({ s1 with vault := v, wheel := { w with swapState := 0, swapCount := bump 32 w.swapCount 1, swapBeat := s.beat,
                                             bootDigest := old.stageDigest } }).extend 1 old.stageDigest).endGrant maSwap).endStranded

/-- The tier that a new power cap calls for (R98). -/
def State.newTier (s : State) : State :=
  if s.wheel.tierNext = 0xFF then s
  else { s with wheel := { s.wheel with tier := s.wheel.tierNext, tierNext := 0xFF, tierChanges := bump 32 s.wheel.tierChanges 1 } }

/-- What takes effect at position 0 (R87), the occupancy of the revolution (R466), and its BEAT_SYNC (R507). -/
def State.atBoundary (s : State) : State :=
  let s0 := s.sampleOccupancy
  let s1 := { s0 with wheel := { s0.wheel with holding := false } }
  (if s1.wheel.swapState = 3 then s1.swapWheel else s1.newTier).beatSync

/-- WHEEL_BOUNDARY (R87, R89): an offset step first skips the last position or holds it for one more beat. -/
def execWheelBoundary (s : State) : Host.Outcome State Fault Refusal :=
  let p := s.position
  let step := fun (d : Int) (h : Bool) =>
    { s with wheel := { s.wheel with offset := s.wheel.offset + d, align := 0, holding := h } }
  .next (if !s.wheel.running then s
    else if p = 4095 ∧ 0 < s.wheel.align then (step 1 false).atBoundary
    else if p ≠ 0 then s
    else if s.wheel.align < 0 ∧ !s.wheel.holding then step (-1) true
    else s.atBoundary)

/-- POWER_CAP: a write of domain 0, which takes effect at the end of its beat (R98, R104, R454); none where it is refused. -/
def State.powerCap (s : State) (v : Nat) : Option State :=
  if 80 ≤ v ∧ v ≤ 320 ∧ !s.dict.locked.contains (entryKey 0x1201 1) then
    some (s.writeLate 0 { idx := 0x1201, sub := 1, value := leBytes 2 v })
  else none

/-- POWER_CAP. -/
def execPowerCap (value : BitVec 16) (s : State) : Host.Outcome State Fault Refusal :=
  .next (if s.writable then (s.powerCap value.toNat).getD s else s)

/-! ### Counters (R105, R139, R164, R197, R220, R247, R276, R321, R376) -/

/-- A counter that COUNT_CLEAR of an index clears; the eight bins of BLOCK_HIST stand at 0x51 to 0x58 of 0x3201 (R139). -/
def clearsCount (idx key : Nat) : Bool :=
  key / 256 == idx && (decide (key % 256 ≤ (match idx with | 0x3201 => 5 | 0x3211 => 4 | 0x3221 => 6 | 0x3231 => 4 | 0x3241 => 4 | _ => 6))
    || (idx == 0x3201 && decide (0x51 ≤ key % 256) && decide (key % 256 ≤ 0x58)))

/-- The indices with a COUNT_CLEAR, and its subindex. -/
def clearSub (idx : Nat) : Option Nat :=
  match idx with
  | 0x3201 => some 6 | 0x3211 => some 5 | 0x3221 => some 7 | 0x3231 => some 5 | 0x3241 => some 5 | 0x3251 => some 7
  | 0x4005 => some 6 | 0x5020 => some 9
  | _ => if 0x3010 ≤ idx ∧ idx ≤ 0x301F then some 0xA else none

/-- COUNT_CLEAR of an index. -/
def State.countClear (s : State) (idx : Nat) : State :=
  if 0x3010 ≤ idx ∧ idx ≤ 0x301F then
    let keep := fun (t : List (Nat × Nat)) => t.filter (fun x => x.1 / 8 != idx - 0x3010)
    { s with wheel := { s.wheel with grantedCount := keep s.wheel.grantedCount, borrowedCount := keep s.wheel.borrowedCount,
                                     unusedCount := keep s.wheel.unusedCount } }
  else if idx = 0x4005 then { s with vault := { s.vault with hcHits := 0, hcMisses := 0, expHits := 0, expMisses := 0 } }
  else if idx = 0x5020 then
    { s with entropy := { s.entropy with rootReseeds := 0, prRequests := 0, starved := 0, notReady := 0, maskBytes := 0,
                                         sources := s.entropy.sources.map (fun x => (x.1, { x.2 with rctFails := 0, aptFails := 0, requals := 0 })) } }
  else if (clearSub idx).isSome then { s with counts := s.counts.filter (fun x => !clearsCount idx x.1) }
  else s

/-- COUNT_CLEAR: a write of domain 0. -/
def execCountClear (index : BitVec 16) (s : State) : Host.Outcome State Fault Refusal :=
  .next (if s.writable then s.countClear index.toNat else s)

end Sys2Proof.Machine
end

