-- ==== Sys2Proof/Machine/Persist.lean ====
section
/-! DEFINITION. Persistence of the vault (R180, R293, R298, R304 to R320, R335): the image and its version tree, rounds of
export, prepare and commit, the root journal, loading at Assembly, patrol scrub, retraining and purges. -/

namespace Sys2Proof.Machine

open Sys2Proof

/-! ### The version tree (R304, R305) -/

/-- The record of a data page: VERSION and MAC. -/
def pageRec (t : List (Nat × (Nat × Bytes))) (p : Nat) : Nat × Bytes := (tget t p).getD (0, zeros 24)

/-- The 32 bytes of a child record. -/
def recBytes (r : Nat × Bytes) : Bytes := leBytes 8 r.1 ++ fit 24 r.2

/-- The highest VERSION of a list of pages. -/
def topVersion (t : List (Nat × (Nat × Bytes))) : Nat := t.foldl (fun a x => max a x.2.1) 0

/-- The 512 bytes of node `j` at height `h` above level 5, of a tree that lists only pages under it. -/
def nodeBytes (key : Bytes) : Nat → Nat → List (Nat × (Nat × Bytes)) → Bytes
  | 0, j, t => (List.range 16).flatMap (fun i => recBytes (pageRec t (16 * j + i)))
  | h + 1, j, t => (List.range 16).flatMap (fun i =>
      let c := 16 * j + i
      let sub := t.filter (fun x => x.1 / 16 ^ (h + 1) == c)
      let v := topVersion sub
      if v = 0 then zeros 32
      else recBytes (v, kmac256 key (nodeBytes key h c sub ++ [u8 (5 - h)] ++ leBytes 4 c ++ leBytes 8 v) 24 "QVND".toList))

/-- The nodes of the pages under them: the part of a tree under node `j` at height `h`. -/
def underNode (t : List (Nat × (Nat × Bytes))) (h j : Nat) : List (Nat × (Nat × Bytes)) :=
  t.filter (fun x => x.1 / 16 ^ (h + 1) == j)

/-- The first image page of the nodes of a height (R304). -/
def nodeBase : Nat → Nat
  | 0 => 548 | 1 => 36 | 2 => 4 | 3 => 2 | _ => 1

/-- The content of node page `k` of a height: eight nodes (R304). -/
def nodePage (key : Bytes) (t : List (Nat × (Nat × Bytes))) (h k : Nat) : Bytes :=
  fit 4096 ((List.range 8).flatMap (fun i =>
    let sub := underNode t h (8 * k + i)
    if sub.isEmpty then zeros 512 else nodeBytes key h (8 * k + i) sub))

/-- ROOT_MAC of a tree and round (R305). -/
def rootMacOf (key : Bytes) (t : List (Nat × (Nat × Bytes))) (seq : Nat) : Bytes :=
  kmac256 key (nodePage key t 4 0 ++ leBytes 8 seq) 24 "QVRT".toList

/-- MAC of a data page (R305). -/
def pageMac (key page : Bytes) (p version : Nat) : Bytes :=
  kmac256 key (page ++ leBytes 4 (8740 + p) ++ leBytes 8 version) 24 "QVPG".toList

/-- The header page (R306). -/
def headerPage (seq : Nat) (mac : Bytes) : Bytes :=
  fit 4096 (leBytes 4 0x4D495651 ++ [1#8, 0#8, 0#8, 0#8] ++ leBytes 8 seq ++ fit 32 deviceIdBytes ++ fit 24 mac)

/-! ### Rounds (R309 to R312) -/

/-- ROOT_SEQ of the open round. -/
def State.roundSeq (s : State) : Nat := match s.vault.pending with | some (n, _) => n | none => s.vault.nextSeq

/-- Keys that lie on the pages of a list. -/
def onPages (pages : List Nat) (i : Nat) : Bool := pages.contains (i / 32)

/-- A round opens: the dirty set is frozen, the ceilings it holds are noted, and the commit request clears (R189, R309,
R313). -/
def State.openRound (s : State) : State :=
  let seq := s.vault.nextSeq
  let key := s.sealKey
  let pages := s.vault.dirty
  let tree := pages.foldl (fun t p => tput t p (seq, pageMac key (s.pageBytes p) p seq)) s.vault.tree
  { s with vault := { s.vault with
      frozen := pages, dirty := [], roundOpen := true, exported := 0, roundTree := tree, commitReq := false,
      keys := s.vault.keys.map (fun x => (x.1, if onPages pages x.1 then { x.2 with inRound := true } else x.2)),
      counters := s.vault.counters.map (fun x =>
        (x.1, match s.key? x.1 with | some k => { x.2 with ceilRound := k.ceil } | none => x.2)) } }

/-- A list of numbers without neighbours that repeat. -/
def dedup : List Nat → List Nat
  | [] => []
  | a :: r => match dedup r with
    | [] => [a]
    | b :: r' => if a = b then b :: r' else a :: b :: r'

/-- The records of a round in order: KIND and image page (R310). -/
def roundRecords (frozen : List Nat) : List (Nat × Nat) :=
  frozen.map (fun p => (2, 8740 + p))
    ++ [0, 1, 2, 3, 4].flatMap (fun h => (dedup (frozen.map (fun p => p / (8 * 16 ^ (h + 1))))).map (fun k => (1, nodeBase h + k)))
    ++ [(0, 0)]

/-- The height and number of a node page of the image. -/
def nodeOfPage (n : Nat) : Nat × Nat :=
  if 548 ≤ n then (0, n - 548) else if 36 ≤ n then (1, n - 36) else if 4 ≤ n then (2, n - 4)
  else if 2 ≤ n then (3, n - 2) else (4, 0)

/-- The bytes of an image page of the open round. -/
def State.recordPage (s : State) (kind n : Nat) : Bytes :=
  match kind with
  | 2 => match tget s.vault.copies (n - 8740) with
    | some c => c.2
    | none => s.pageBytes (n - 8740)
  | 1 => nodePage s.sealKey s.vault.roundTree (nodeOfPage n).1 (nodeOfPage n).2
  | _ => headerPage s.roundSeq (rootMacOf s.sealKey s.vault.roundTree s.roundSeq)

/-- The 4,160 bytes of an export record (R310). -/
def State.exportRecord (s : State) (r : Nat × Nat) : Bytes :=
  leBytes 4 0x52585651 ++ [1#8, u8 r.1, u8 (flag (r.1 == 0)), 0#8] ++ leBytes 8 s.roundSeq ++ leBytes 4 r.2 ++ zeros 4
    ++ leBytes 8 s.roundSeq ++ zeros 32 ++ s.recordPage r.1 r.2

/-- Records left in the open round. -/
def State.exportLeft (s : State) : Nat :=
  if s.vault.roundOpen then (roundRecords s.vault.frozen).length - s.vault.exported else 0

/-- VAULT_EXPORT, VAULT_PREPARE and VAULT_COMMIT (R38, R299, R310 to R312). -/
def persistSpec (h : Header) (d : Nat) (p : ParamBlock) : JobSpec :=
  let op := h.opcode
  { key := .null, opcodeOk := d == 0, psetOk := h.pset == 0, flags := if op = 0x1301 then fOut else 0, inLen := some 0,
    outNeed := if op = 0x1301 then 4160 else 0, ctx := if op = 0x1302 then 0 else 1,
    options := if op = 0x1302 then 0 else 0x0100, bodyOk := p.body.isEmpty, cls := cKeyUnit, lo := 0, hi := 7,
    sched := if op = 0x1301 then none else some 40 }

/-- An export, prepare or commit out of turn (R310 to R312). -/
def State.outOfTurn (s : State) (op : Nat) : Bool :=
  match op with
  | 0x1301 => s.vault.pending.isSome
  | 0x1302 => !(s.vault.roundOpen && s.vault.pending.isNone && s.exportLeft == 0)
  | 0x1303 => s.vault.pending.isNone
  | _ => false

/-- VAULT_EXPORT (R310). -/
def execVaultExport (slot : Fin 4096) (s : State) : Host.Outcome State Fault Refusal :=
  s.runOp slot.val 0x1301 fun s j =>
    let s1 := if s.vault.roundOpen || s.vault.dirty.isEmpty then s else s.openRound
    let s2 := if bit j.pb.options 8 && s1.vault.roundOpen then { s1 with vault := { s1.vault with exported := 0 } } else s1
    let n := min (min (j.hdr.outLen / 4160) (s2.cfg 0x4001 3)) s2.exportLeft
    let recs := ((roundRecords s2.vault.frozen).drop s2.vault.exported).take n
    s2.finish slot.val (4 + 8 * n) { status := stOk, info := n, out := recs.flatMap s2.exportRecord }

/-- Records that a released VAULT_EXPORT has written leave the round (R310). -/
def State.countExported (s : State) (j : Job) (r : Result) : State :=
  if j.hdr.opcode = 0x1301 ∧ s.vault.roundOpen then
    { s with vault := { s.vault with exported := min (s.vault.exported + r.info) (roundRecords s.vault.frozen).length } }
  else s

/-- COPY_AREA_FREED (R309): the copy of a page whose record is exported leaves the copy area, and a job that waited for the
room may take a start right. -/
def execCopyAreaFreed (page : Nat) (s : State) : Host.Outcome State Fault Refusal :=
  .next (if (s.vault.frozen.drop s.vault.exported).contains page then s
    else { s with vault := { s.vault with copies := tdel s.vault.copies page } })

/-! ### The root journal (R307, R308, R311 to R313) -/

/-- The content of a slot: WSEQ one higher than that of the previous slot written, and its CRC (R307). -/
def State.slotContent (s : State) (committed : Bool) (root : Nat × Bytes) (nextSeq : Nat) : JournalSlot :=
  ({ committed := committed, wseq := s.vault.wseq + 1, rootSeq := root.1, nextSeq := nextSeq, mac := root.2, crc := 0 } : JournalSlot).sealed

/-- A slot write begins: the next slot of the active region, the first of all in slot 0 (R308). -/
def State.beginSlot (s : State) (c : JournalSlot) (job : Option Nat) : State :=
  let next := if s.vault.journal.isEmpty then 0 else (s.vault.slot + 1) % 64
  { s with vault := { s.vault with writing := some { region := s.vault.region, slot := next, content := c, job := job } } }

/-- A slot write can begin: none is under way, and PWR_FAIL_N is not asserted (R308, R317). -/
def State.canWriteSlot (s : State) : Bool := s.vault.writing.isNone && !s.mode.pwrFail

/-- VAULT_PREPARE (R311). -/
def execVaultPrepare (slot : Fin 4096) (s : State) : Host.Outcome State Fault Refusal :=
  s.runOp slot.val 0x1302 fun s _ =>
    if !s.canWriteSlot then s
    else
      let seq := s.vault.nextSeq
      (s.beginSlot (s.slotContent false (seq, rootMacOf s.sealKey s.vault.roundTree seq) (seq + 1)) (some slot.val)).finish slot.val 40
        { status := stOk, info := seq }

/-- VAULT_COMMIT, and with OPTIONS bit [8] ABANDON (R312). -/
def execVaultCommit (slot : Fin 4096) (s : State) : Host.Outcome State Fault Refusal :=
  s.runOp slot.val 0x1303 fun s j =>
    if !s.canWriteSlot then s
    else
      let root := if bit j.pb.options 8 then (s.vault.rootSeq, s.vault.rootMac) else s.vault.pending.getD (s.vault.rootSeq, s.vault.rootMac)
      (s.beginSlot (s.slotContent true root s.vault.nextSeq) (some slot.val)).finish slot.val 40 { status := stOk, info := root.1 }

/-- The round ends with its root current (R189, R312). -/
def State.commitRound (s : State) (c : JournalSlot) : State :=
  { s with vault := { s.vault with
      rootSeq := c.rootSeq, rootMac := c.mac, tree := s.vault.roundTree,
      keys := s.vault.keys.map (fun x => (x.1, if x.2.inRound then { x.2 with durable := true, inRound := false } else x.2)),
      counters := s.vault.counters.map (fun x => (x.1, { x.2 with ceilC := x.2.ceilRound })) } }

/-- The round is abandoned: its pages become dirty again (R312). -/
def State.abandonRound (s : State) : State :=
  { s with vault := { s.vault with
      dirty := s.vault.frozen.foldl insertNat s.vault.dirty,
      keys := s.vault.keys.map (fun x => (x.1, { x.2 with inRound := false })) } }

/-- What both ends of a round have in common (R312, R313): a reservation made in the meantime raises the commit request. -/
def State.closeRound (s : State) : State :=
  let s1 := { s with vault := { s.vault with pending := none, roundOpen := false, frozen := [], exported := 0, copies := [],
                                             roundTree := [], lastCommit := s.beat, reservedInRound := false } }
  if s.vault.reservedInRound then s1.requestCommit else s1

/-- The grant of a job that has ended while its slot was being written ends with the write (R313). -/
def State.endLateGrant (s : State) (w : SlotWrite) : State :=
  match w.job with
  | some n => if ((s.job? n).map Job.live).getD false then s else s.dropCommit n
  | none => s

/-- One more COMMITTED slot since the last rotation: that is a commit (R308, R313). -/
def State.countCommit (s : State) (w : SlotWrite) : State :=
  if w.content.committed then { s with vault := { s.vault with commits := s.vault.commits + 1 } } else s

/-- What a written slot brings about: a pending root, a commit, an abandonment, a rotation; an acceptance has acted
before. -/
def State.slotWritten (s0 : State) (w : SlotWrite) : State :=
  let s := s0.countCommit w
  if w.region ≠ s.vault.region then
    ({ s with vault := { s.vault with region := w.region, rotations := s.vault.rotations + 1, commits := 0 } }).endGrant maRotate
  else if w.job.isNone then s
  else if !w.content.committed then
    { s with vault := { s.vault with pending := some (w.content.rootSeq, w.content.mac), nextSeq := w.content.nextSeq,
                                     lastPending := some s.beat } }
  else if s.vault.pending = some (w.content.rootSeq, w.content.mac) then (s.commitRound w.content).closeRound
  else s.abandonRound.closeRound

/-- One more write of a region (R468). -/
def State.countWrite (s : State) (region : Nat) : State :=
  { s with dict := { s.dict with life := { s.dict.life with journal := countAdd s.dict.life.journal region 1 64 } } }

/-- The writing job ends with ENGINE_FAULT, or the rotation's grant ends, after a second failure (R308). -/
def State.slotLost (s : State) (w : SlotWrite) : State :=
  match w.job with
  | some n => (s.endJob n stEngineFault 0x92 (s.beat + 1)).endLateGrant w
  | none => if w.region ≠ s.vault.region then s.endGrant maRotate else s

/-- JOURNAL_SLOT_WRITTEN (R308): the write and its read-back end; `ok` says that the read-back agrees. After PWR_FAIL_N the second attempt
does not start (R317). -/
def execJournalSlotWritten (ok : Bool) (s : State) : Host.Outcome State Fault Refusal :=
  match s.vault.writing with
  | none => .next s
  | some w =>
    if !w.started then .next s
    else
    let put := fun (c : JournalSlot) => { s.vault with journal := tput s.vault.journal (64 * w.region + w.slot) c }
    if ok then
      let v := { put w.content with slot := w.slot, wseq := w.content.wseq, writing := none }
      .next (((({ s with vault := v }).countWrite w.region).slotWritten w).endLateGrant w)
    else
      let (k, s1) := s.draw
      let torn := put (w.content.torn k)
      if w.fails = 0 then
        let v := { torn with writing := some { w with slot := (w.slot + 1) % 64, fails := 1, started := !s.mode.pwrFail } }
        .next ((({ s1 with vault := v }).countWrite w.region).raise 0x92 { slot := none })
      else
        -- the next write of this region goes on in ring order behind the slot that has failed
        let v := { torn with writing := none, slot := if w.region = s.vault.region then w.slot else torn.slot }
        .next (((({ s1 with vault := v }).countWrite w.region).raise 0x92).slotLost w)

/-- The current slot: the highest WSEQ among valid slots (R308). -/
def currentSlot (journal : List (Nat × JournalSlot)) (p : JournalSlot → Bool) : Option (Nat × JournalSlot) :=
  journal.foldl (fun best x =>
    if x.2.valid && p x.2 then
      (match best with | some b => if b.2.wseq < x.2.wseq then some x else best | none => some x)
    else best) none

/-- At Assembly every slot is read (R308): torn slots are counted, and the current slot gives the roots. A slot never written, or
written over with zeros, holds no content and fails nothing. -/
def State.readJournal (s : State) : State :=
  let torn := (s.vault.journal.filter (fun x => x.2.crc != crc32 x.2.head)).length
  let cur := currentSlot s.vault.journal (fun _ => true)
  let com := currentSlot s.vault.journal (fun c => c.committed)
  let v := { s.vault with
    torn := torn, region := (cur.map (fun x => x.1 / 64)).getD 0, slot := (cur.map (fun x => x.1 % 64)).getD 0,
    wseq := (cur.map (·.2.wseq)).getD 0, nextSeq := (cur.map (·.2.nextSeq)).getD 1,
    rootSeq := (com.map (·.2.rootSeq)).getD 0, rootMac := (com.map (·.2.mac)).getD (zeros 24),
    pending := match cur with | some x => if x.2.committed then none else some (x.2.rootSeq, x.2.mac) | none => none }
  (List.range torn).foldl (fun a _ => a.raise 0x93) { s with vault := v }

/-- JOURNAL_ROTATION (R308, R429): under its grant the current slot is copied to slot 0 of the next region. -/
def execJournalRotation (s : State) : Host.Outcome State Fault Refusal :=
  .next (match s.grantOf maRotate, currentSlot s.vault.journal (fun _ => true) with
    | some _, some c =>
      if s.canWriteSlot && decide (s.cfg 0x4001 4 ≤ s.vault.commits) then
        { s with vault := { s.vault with
            writing := some { region := (s.vault.region + 1) % 16, slot := 0,
                              content := { c.2 with wseq := s.vault.wseq + 1 }.sealed } } }
      else s
    | _, _ => s)

/-- COMMIT_REQUEST (R313): pages are dirty and COMMIT_PERIOD has passed since the last commit. -/
def execCommitRequest (s : State) : Host.Outcome State Fault Refusal :=
  .next (if s.vault.loaded && !s.vault.dirty.isEmpty && !s.vault.roundOpen && s.vault.pending.isNone
      && decide (s.vault.lastCommit + msBeats (s.cfg 0x4001 1) ≤ s.beat) then s.requestCommit else s)

/-- COMMIT_INTERVAL_EXPIRY (R311): 78,125 beats after the previous PENDING slot was written, a waiting VAULT_PREPARE becomes
eligible. -/
def execCommitIntervalExpiry (s : State) : Host.Outcome State Fault Refusal :=
  .next (match s.vault.lastPending with
    | some b => if b + 78125 ≤ s.beat then { s with vault := { s.vault with lastPending := none } } else s
    | none => s)

/-! ### Loading (R315, R316) -/

/-- The bytes of the image at an offset, from its spans: start and length of each, and its bytes (none: zeros). -/
def imageAt : List (Nat × Nat × Bytes) → Nat → Byte
  | [], _ => 0#8
  | (a, n, b) :: r, off => if a ≤ off ∧ off < a + n then b.getD (off - a) 0#8 else imageAt r off

/-- An image page. -/
def imagePage (img : List (Nat × Nat × Bytes)) (n : Nat) : Bytes := (List.range 4096).map (fun i => imageAt img (4096 * n + i))

/-- The length of the vault image: 1,057,316 pages (R304). -/
def imageLen : Nat := 0x102224000

/-- The walk of the list against VLOAD_LEN (R315): spans, and VLOAD_CAUSE and VLOAD_PAGE where it ends the load. -/
def walkImage (len : Nat) : List (Bytes × Bytes) → Nat → List (Nat × Nat × Bytes) → (List (Nat × Nat × Bytes)) ⊕ (Nat × Nat)
  | [], n, _ => .inr (6, n / 4096)
  | (e, data) :: r, n, acc =>
    let x := parseSg e
    if x.tag ≠ 0 then .inr (1, n / 4096)
    else if x.link && !x.last then walkImage len r n acc
    else if len < n + x.len then .inr (6, n / 4096)
    else
      let acc' := acc ++ [(n, x.len, if x.zeroFill then [] else data)]
      if x.last then (if n + x.len = len then .inl acc' else .inr (6, (n + x.len) / 4096))
      else walkImage len r (n + x.len) acc'

/-- Node `j` at a height of an image. -/
def imageNode (img : List (Nat × Nat × Bytes)) (h j : Nat) : Bytes := slice (imagePage img (nodeBase h + j / 8)) (512 * (j % 8)) 512

/-- A child agrees with the record above it (R305): VERSION 0 stands for a zero MAC and zero content. -/
def childOk (record content : Bytes) (mac : Nat → Bytes) : Bool :=
  let v := field record 0 8
  if v = 0 then allZero record && allZero content else slice record 8 24 == mac v

/-- The record of child `c` in its parent of an image. -/
def imageRecord (img : List (Nat × Nat × Bytes)) (h c : Nat) : Bytes := slice (imageNode img h (c / 16)) (32 * (c % 16)) 32

/-- The first node of a height that fails. -/
def badNode (key : Bytes) (img : List (Nat × Nat × Bytes)) (h : Nat) : Option Nat :=
  (List.range (16 ^ (4 - h))).find? (fun c => !childOk (imageRecord img (h + 1) c) (imageNode img h c)
    (fun v => kmac256 key (imageNode img h c ++ [u8 (5 - h)] ++ leBytes 4 c ++ leBytes 8 v) 24 "QVND".toList))

/-- The first data page that fails. -/
def badPage (key : Bytes) (img : List (Nat × Nat × Bytes)) : Option Nat :=
  (List.range 1048576).find? (fun p => !childOk (imageRecord img 0 p) (imagePage img (8740 + p))
    (fun v => pageMac key (imagePage img (8740 + p)) p v))

/-- The acceptable roots (R316): ROOT_SEQ and ROOT_MAC. -/
def State.acceptable (s : State) : List (Nat × Bytes) :=
  match currentSlot s.vault.journal (fun _ => true) with
  | none => [(0, zeros 24)]
  | some c =>
    if c.2.committed then [(c.2.rootSeq, c.2.mac)] else [(c.2.rootSeq, c.2.mac), (s.vault.rootSeq, s.vault.rootMac)]

/-- The checks of a presented image, header page first, then the nodes top down, then the data pages (R315, R316):
VLOAD_CAUSE and VLOAD_PAGE of the first that fails. -/
def State.checkImage (s : State) (img : List (Nat × Nat × Bytes)) : Option (Nat × Nat) :=
  let key := s.sealKey
  let head := imagePage img 0
  let seq := field head 8 8
  let mac := slice head 48 24
  if field head 0 4 ≠ 0x4D495651 ∨ byteAt head 4 ≠ 1 ∨ !allZero (slice head 5 3) ∨ !allZero (head.drop 72) then some (1, 0)
  else if slice head 16 32 ≠ deviceIdBytes then some (2, 0)
  else if seq = 0 ∨ !s.acceptable.contains (seq, mac) then some (3, 0)
  else if kmac256 key (imagePage img 1 ++ leBytes 8 seq) 24 "QVRT".toList ≠ mac then some (4, 1)
  else match [3, 2, 1, 0].findSome? (fun h => (badNode key img h).map (fun c => (4, nodeBase h + c / 8))) with
    | some x => some x
    | none => (badPage key img).map (fun p => (5, 8740 + p))

/-- A refusal of the load (R316, R320). -/
def State.refuseLoad (s : State) (status cause page seq : Nat) : State :=
  ({ s with vault := { s.vault with loadStatus := status, loadCause := cause, loadPage := page, loadSeq := seq } }).raise 0x91

/-- The bodies of a key from its sealed entries, under the present measurements (R285, R287, R344). -/
def State.openBodies (s : State) (i : Nat) (k : Key) : Bytes × Bool :=
  let md := s.measDigest (bits k.attrs 39 32)
  let one := fun (o : Nat) => slice k.sealed (96 * o) 96
  let iv := fun (o : Nat) => entryIv (i + o) k.version
  let key := fun (o : Nat) => s.entryKeyOf k.domain (i + o) k.gen md
  ((List.range k.span).flatMap (fun o => gcmOpen (key o) (iv o) (one o)),
   (List.range k.span).all (fun o => gcmTagOk (key o) (iv o) (entryHead k (o != 0) ++ slice (s.entryBytes (i + o)) 112 16) (one o)))

/-- The typecodes of the levels that a body of class 0x5 holds (R179). -/
def levelsOf (k : Key) (body : Bytes) : List (Nat × Nat) :=
  if k.cls = 5 then Config.levels body else []

/-- A loaded key is opened once its measurements agree (R287): body, tags, and the counter values that stood in its body
(R191, R263). -/
def State.openKey (s : State) (i : Nat) : State :=
  match s.key? i with
  | none => s
  | some k =>
    if k.sealed.isEmpty || k.measCheck != measCheckOf (s.measDigest (bits k.attrs 39 32)) then s
    else
      let b := s.openBodies i k
      let k' := { k with body := b.1, tagOk := b.2, sealed := [], md := s.measDigest (bits k.attrs 39 32), levels := levelsOf k b.1 }
      let s1 := s.setKey i k'
      if k'.counted then s1.setCounter i { next := k'.ceil, ceilC := k'.ceil, ceilRound := k'.ceil, ready := !stateful k'.cls } else s1

/-- The first entry of a key in an entry of an image, or the key that is retired there. -/
def parseEntry (e : Bytes) : Option Key :=
  let st := bits (byteAt e 0) 6 5
  if st = 0 ∨ bit (byteAt e 0) 4 then none
  else some { cls := byteAt e 0 % 16, state := st, pset := byteAt e 1, gen := field e 2 2, version := field e 4 4,
              attrs := field e 8 8, domain := byteAt e 112, span := if st = 3 then 1 else byteAt e 113 % 64,
              measCheck := slice e 116 4, durable := true, pkTag := slice e 120 8 }

/-- The key at an index of an image page, with its sealed bodies or its public key. -/
def parseKey (page : Bytes) (o : Nat) : Option Key :=
  (parseEntry (slice page (128 * o) 128)).map (fun k =>
    let bodies := (List.range k.span).flatMap (fun c => slice page (128 * (o + c) + 16) 96)
    if k.state = 1 then { k with sealed := bodies } else if k.state = 2 then { k with body := bodies } else k)

/-- The keys of an image. -/
def imageKeys (img : List (Nat × Nat × Bytes)) : List (Nat × Key) :=
  (List.range 1048576).flatMap (fun p =>
    let page := imagePage img (8740 + p)
    if allZero page then [] else (List.range 32).filterMap (fun o => (parseKey page o).map (fun k => (32 * p + o, k))))

/-- The FREE entries of an image that have been used: GEN and DOMAIN. -/
def imageFreed (img : List (Nat × Nat × Bytes)) : List (Nat × (Nat × Nat)) :=
  (List.range 1048576).flatMap (fun p =>
    let page := imagePage img (8740 + p)
    if allZero page then []
    else (List.range 32).filterMap (fun o =>
      let e := slice page (128 * o) 128
      if bits (byteAt e 0) 6 5 = 0 ∧ 1 < field e 2 2 then some (32 * p + o, (field e 2 2, byteAt e 112)) else none))

/-- The owners of the data pages of an image (R281, R290). -/
def imageOwners (img : List (Nat × Nat × Bytes)) : List (Nat × Nat) :=
  (List.range 1048576).filterMap (fun p =>
    let page := imagePage img (8740 + p)
    if allZero page then none else some (p, byteAt page 112))

/-- The records of the data pages of an image. -/
def imageTree (img : List (Nat × Nat × Bytes)) : List (Nat × (Nat × Bytes)) :=
  (List.range 1048576).filterMap (fun p =>
    let r := imageRecord img 0 p
    if field r 0 8 = 0 then none else some (p, (field r 0 8, slice r 8 24)))

/-- EXP_QUOTA of a domain rises to its commitment (R297). -/
def State.raiseQuota (s : State) (d : Nat) : State :=
  if s.expQuota d < s.commitment d then s.setCfg (0x2000 + d) 0x0E (s.commitment d) else s

/-- What follows any acceptance (R191, R297, R313, R316, R335), but for a slot write after PWR_FAIL_N (R317): the chosen root is
committed, keys are opened, quotas rise, and pages older than their domain's EPOCH_SEQ are noted for the sweep. -/
def State.acceptVault (s : State) (root : Nat × Bytes) (status : Nat) : State :=
  let s1 := (s.vault.keys.map (·.1)).foldl (fun a i => a.openKey i) s
  let s2 := (List.range 256).foldl (fun a d => a.raiseQuota d) s1
  let old := (s2.vault.keys.filter (fun x =>
    x.2.state != 3 && decide ((pageRec s2.vault.tree (x.1 / 32)).1 < (s2.dom x.2.domain).epochSeq))).map (·.1)
  let s3 := { s2 with vault := { s2.vault with loaded := true, loadStatus := status, loadCause := 0, rootSeq := root.1,
                                               rootMac := root.2, pending := none, lastCommit := s2.beat, sweepKeys := old } }
  match currentSlot s.vault.journal (fun _ => true) with
  | some c =>
    if c.2.committed || s3.mode.pwrFail then s3
    else s3.beginSlot (s3.slotContent true root c.2.nextSeq) none
  | none => s3

/-- A load can begin: Assembly, none under way, none accepted (R315). -/
def State.mayLoad (s : State) : Bool := s.mode.mode == mAssembly && s.vault.loadStatus != 1 && !s.vault.loaded

/-- The first VLOAD_START ends the boot-image phase and chooses the wheel (R102, R443). -/
def State.loadPhase (s : State) : State := s.bootEnd.chooseWheel

/-- VLOAD_START = 1, if it is not refused (R315). -/
def State.vloadImage (s : State) : Option State :=
  if !s.mayLoad then none
  else
    let s1 := s.loadPhase
    some { s1 with vault := { s1.vault with loadStatus := 1, loadCause := 0, loadPage := 0, loadSeq := 0 } }

/-- VLOAD_IMAGE (R315): domain 0 writes VLOAD_START = 1. -/
def execVloadImage (s : State) : Host.Outcome State Fault Refusal := .next (s.vloadImage.getD s)

/-- VLOAD_START = 2, if it is not refused (R316): the image of root 0. -/
def State.vloadEmpty (s : State) : Option State :=
  if !s.mayLoad then none
  else
    let s1 := s.loadPhase
    some (if s1.acceptable.any (fun r => r.1 == 0) then
        (({ s1 with sec := { s1.sec with attestKey := 0, attestHash := zeros 32 },
                    vault := { s1.vault with keys := [], freed := [], pageDomain := [], tree := [], counters := [], loadPage := 0, loadSeq := 0 } }).acceptVault
          (0, zeros 24) 3)
      else s1.refuseLoad stVaultInvalid 3 0 0)

/-- VLOAD_EMPTY (R316): domain 0 writes VLOAD_START = 2. -/
def execVloadEmpty (s : State) : Host.Outcome State Fault Refusal := .next (s.vloadEmpty.getD s)

/-- The end of a load (R315, R316): the list entries in the order read, each with the bytes of its span, and the image page
at which the bus failed, if it did. -/
def State.vloadDone (s : State) (list : List (Bytes × Bytes)) (bus : Option Nat) : State :=
  match bus with
  | some p => s.refuseLoad stVaultInvalid 7 p 0
  | none =>
    match walkImage (s.cfg 0x4002 2) list 0 [] with
    | .inr (cause, page) => s.refuseLoad stVaultInvalid cause page 0
    | .inl img =>
      let seq := field (imagePage img 0) 8 8
      match s.checkImage img with
      | some (cause, page) =>
        s.refuseLoad (if cause = 3 ∧ seq < s.vault.rootSeq then stRollback else stVaultInvalid) cause page seq
      | none =>
        ({ s with vault := { s.vault with keys := imageKeys img, freed := imageFreed img, pageDomain := imageOwners img, tree := imageTree img, counters := [],
                                          loadPage := 1057315, loadSeq := seq } }).acceptVault (seq, slice (imagePage img 0) 48 24) 2

/-- VLOAD_DONE (R315, R316). -/
def execVloadDone (list : List (Bytes × Bytes)) (bus : Option Nat) (s : State) : Host.Outcome State Fault Refusal :=
  .next (if s.vault.loadStatus = 1 ∧ s.mode.mode = mAssembly then s.vloadDone list bus else s)

/-! ### Vault DRAM and the expansion cache (R292, R293, R298) -/

/-- Events of the vault DRAM controller: 0 corrected, 1 uncorrectable, 2 integrity tag (R292). -/
def State.dramEvent (s : State) (kind : Nat) (n : Named) : State :=
  match kind with
  | 0 => ({ s with vault := { s.vault with ceCount := bump 64 s.vault.ceCount 1 } }).raise 0x58 n
  | 1 => ({ s with vault := { s.vault with ueCount := bump 32 s.vault.ueCount 1 } }).raise 0x59 n
  | _ => ({ s with vault := { s.vault with tagFails := bump 32 s.vault.tagFails 1 } }).raise 0x5A n

/-- PATROL_SCRUB_SLICE (R293, R429): a slice of 512 beats ends, with the errors that it met; a pass over every line ends once
SCRUB_PERIOD has gone by. -/
def execPatrolScrubSlice (found : List (Fin 3)) (s : State) : Host.Outcome State Fault Refusal :=
  .next (match s.grantOf maScrub with
    | some (_, since) =>
      if s.beat < since + 512 then s
      else
        let s1 := found.foldl (fun a k => a.dramEvent k.val {}) (s.endGrant maScrub)
        if s1.vault.scrubSince + secBeats (s1.cfg 0x4004 1) ≤ s1.beat then
          { s1 with vault := { s1.vault with scrubPasses := bump 32 s1.vault.scrubPasses 1, scrubSince := s1.beat } }
        else s1
    | none => s)


/-- DRAM_RETRAIN (R293): the window of 480 beats ends; or the first training in Self-test ends. -/
def execDramRetrain (passed : Bool) (s : State) : Host.Outcome State Fault Refusal :=
  .next (if s.mode.mode = mSelfTest then
      (if passed then { s with vault := { s.vault with trainedTemp := s.dieTemp } } else s.raise 0x5B)
    else match s.vault.retrainOpen with
    | some since =>
      if s.beat < since + 480 then s
      else
        let s1 := s.endGrant maRetrain
        let v := { s1.vault with retrainFrom := none, retrainOpen := none }
        if passed then { s1 with vault := { v with trainedTemp := s.dieTemp, retrains := bump 32 v.retrains 1 } }
        else ({ s1 with vault := v }).raise 0x5B
    | none => s)

/-- A purge of a domain's unpinned material is called for (R298). -/
def State.callPurge (s : State) (d : Nat) : State :=
  ({ s with vault := { s.vault with purging := insertNat s.vault.purging d } }).request maPurge d

/-- EXPANSION_PURGE_SLICE (R298, R429): the granted slice evicts the unpinned material of its domain that no job waits for. -/
def execExpansionPurgeSlice (s : State) : Host.Outcome State Fault Refusal :=
  .next (match s.grantOf maPurge with
    | some (d, since) =>
      if s.beat < since + 512 then s
      else
        let s1 := s.endGrant maPurge
        { s1 with vault := { s1.vault with
            purging := s1.vault.purging.filter (fun x => x != d),
            expansions := s1.vault.expansions.filter (fun e => e.domain != d || e.pinned || e.waiting.isSome) } }
    | none => s)

/-! ### Traversal state after Assembly (R180, R191) -/

/-- The slot of the internal job that rebuilds a key's traversal state. -/
def rebuildSlot (i : Nat) : Nat := 8192 + i

/-- The internal job of a rebuild: the work of GENERATE in slices (R180, R181). -/
def State.rebuildJob (s : State) (i : Nat) (k : Key) : Job :=
  let u := genClass k.cls k.pset
  { queue := 1024, domain := k.domain, seq := s.jobs.nextSeq, admitBeat := s.beat, age := s.beat, hdr := { opcode := opRebuild },
    phase := 3, cls := u.1, unitLo := u.2.1, unitHi := u.2.2, fetchEnd := s.beat, keyIndex := some i, key := some k,
    tasks := hbsTasks (s.usableGroups k.domain u.2.1 u.2.2) k.tree, policy := s.policyNow }

/-- STATEFUL_REBUILD (R180): an internal job of the key's domain begins, and once every task has run the traversal state is
there. -/
def execStatefulRebuild (index : Nat) (s : State) : Host.Outcome State Fault Refusal :=
  .next (match s.key? index, s.counter? index with
    | some k, some c =>
      if c.ready then s
      else match s.job? (rebuildSlot index) with
        | none =>
          if !s.serves then s
          else
          let s1 := s.setJob (rebuildSlot index) (s.rebuildJob index k)
          { s1 with jobs := { s1.jobs with nextSeq := s1.jobs.nextSeq + 1 } }
        | some j =>
          if j.tasks.isEmpty && j.suspended.isEmpty && j.slices.isEmpty then
            ((s.dropJob (rebuildSlot index)).setCounter index { c with ready := true }).addExpansion index k none
          else s
    | _, _ => s)

/-- After Assembly each counted key at or below its low mark is reserved at once (R191). -/
def State.reserveAll (s : State) : State :=
  (s.vault.counters.map (·.1)).foldl (fun a i =>
    match a.key? i, a.counter? i with
    | some k, some c => if c.ceilC - c.next ≤ a.lowMark k then a.reserve i else a
    | _, _ => a) s

/-! ### Sweeps (R334, R335) -/

/-- The first keys of a list that together take at most `room` entries, at least one. -/
def sweepTake : Nat → List (Nat × Nat) → List Nat
  | _, [] => []
  | room, (i, n) :: r => if n ≤ room then i :: sweepTake (room - n) r else []

/-- A key is freed, and its traversal rebuild stops. -/
def State.sweepKey (s : State) (i : Nat) : State := (s.stopInternal (rebuildSlot i) (s.beat + 1)).destroyKey i

/-- A sweeping domain becomes active, or unused when the sweep ends in retirement (R334). -/
def State.endSweep (s : State) (d : Nat) : State :=
  let r := s.dom d
  if r.dstate ≠ 2 then s
  else if r.retire then
    let s1 := s.writeDom d { r with dstate := 0, retire := false, officers := [], authorities := [], quorumM := 0 }
    (List.range 1024).foldl (fun a n =>
      if a.qcfg n 1 ≠ d then a
      else if (a.queue n).state = .disabled ∧ !(a.queue n).disabling then a.setCfg (0x2400 + n) 1 0xFFFF
      else
        let b := a.disableQueue n
        b.setQueue n { b.queue n with retiring := true }) s1
  else s.writeDom d { r with dstate := 1 }

/-- ASSEMBLY_SWEEP (R335): 32 entries of pages older than their domain's EPOCH_SEQ are freed. -/
def execAssemblySweep (s : State) : Host.Outcome State Fault Refusal :=
  .next (if s.vault.sweepKeys.isEmpty || !s.vault.loaded then s
    else
      let spans := s.vault.sweepKeys.map (fun i => (i, ((s.key? i).map (·.span)).getD 1))
      let now := sweepTake 32 spans
      let s1 := now.foldl State.sweepKey s
      let left := s.vault.sweepKeys.drop now.length
      let s2 := { s1 with vault := { s1.vault with sweepKeys := left } }
      let domains := (List.range 256).filter (fun d =>
        (s2.dom d).dstate == 2 && !(left.any (fun i => ((s2.key? i).map (·.domain)) == some d)))
      domains.foldl State.endSweep s2)

end Sys2Proof.Machine
end

