-- ==== Sys2Proof/Machine/Entropy.lean ====
section
/-! DEFINITION. Noise sources, the conditioner, generators, the entropy start-up and entropy study (13). -/

namespace Sys2Proof.Machine

open Sys2Proof

/-! ### Health tests (R356 to R358) -/

/-- DESIGN of a source: SOURCE_2 and SOURCE_3 are of design B (R356). -/
def designB (i : Nat) : Bool := decide (2 ≤ i)

/-- RCT cutoff (R356). -/
def rctCutoff (i : Nat) : Nat := if designB i then 51 else 41

/-- APT cutoff (R356). -/
def aptCutoff (i : Nat) : Nat := if designB i then 843 else 800

/-- The raw bits of a window, earliest first. -/
def rawBits (b : Bytes) : List Bool := b.flatMap (fun x => (List.range 8).map (fun i => x.getLsbD i))

/-- The repetition count over bits: whether a run reaches the cutoff, and the last bit with the length of its run. -/
def rctScan (cut : Nat) : List Bool → Bool → Nat → Bool × Bool × Nat
  | [], last, run => (false, last, run)
  | b :: r, last, run =>
    let n := if run ≠ 0 && b == last then run + 1 else 1
    if cut ≤ n then (true, b, n) else rctScan cut r b n

/-- The adaptive proportion test of a window fails. -/
def aptFails {α : Type} [BEq α] (cut : Nat) (l : List α) : Bool :=
  match l with
  | [] => false
  | b :: _ => decide (cut ≤ (l.filter (fun x => x == b)).length)

/-- A run of equal samples reaches a cutoff. -/
def runReaches (cut : Nat) : Bytes → Byte → Nat → Bool
  | [], _, _ => false
  | b :: r, last, run =>
    let n := if run ≠ 0 && b == last then run + 1 else 1
    decide (cut ≤ n) || runReaches cut r b n

/-- The 4,096 conditioned samples of step 3 fail a test: RCT with cutoff 4, APT with window 512 and cutoff 13 (R371). -/
def samplesFail (l : Bytes) : Bool :=
  runReaches 4 (l.take 4096) 0#8 0 || (List.range 8).any (fun k => aptFails 13 (slice l (512 * k) 512))

/-! ### The qualified set (R360) -/

/-- A source is qualified. -/
def State.qualified (s : State) (i : Nat) : Bool := (s.source i).state == 2

/-- The qualified sources include one of each design. -/
def State.entropyMin (s : State) : Bool := (s.qualified 0 || s.qualified 1) && (s.qualified 2 || s.qualified 3)

/-- The first stage: the exclusive-or of successive pairs of bits, earliest first (R357). -/
def debias : Bytes → Bytes
  | a :: b :: r =>
    u8 (((List.range 8).map (fun i =>
      let x := if i < 4 then a else b
      flag (xor (x.getLsbD (2 * (i % 4))) (x.getLsbD (2 * (i % 4) + 1))) * 2 ^ i)).foldl (· + ·) 0) :: debias r
  | _ => []

/-- ENTROPY_STATE follows the qualified set: low, and back in the beat in which the minimum is restored; step 3 of the
start-up begins once it is met (R360, R372). -/
def State.followSources (s : State) : State :=
  let e := s.entropy
  if e.state = 2 ∧ !s.entropyMin then ({ s with entropy := { e with state := 3, bits := [] } }).raise 0x83
  else if e.state = 3 ∧ s.entropyMin then { s with entropy := { e with state := 2, rootDue := some e.fifo.length } }
  else if e.state = 1 ∧ e.step = 3 ∧ s.entropyMin ∧ e.stepBeat = 0 then
    { s with entropy := { e with stepBeat := s.beat, condStart := s.beat } }
  else s

/-- The unit that an entropy source's event names is the noise source (R405). R432 counts engine units alone as unusable, and a noise
source takes class 0 in its record (log 66). -/
def noiseSource (i : Nat) : Named := { unit := some (0, i), detail := i }

/-- A source is suspended, and its first requalification is requested (R358, R359). -/
def State.suspend (s : State) (i : Nat) : State :=
  ((s.setSource i { s.source i with state := 3, failedInRow := 0, nextAttempt := some s.beat }).followSources).request maRequal i

/-- An RCT failure (R358, R359): the source is suspended and its first requalification is requested. In a study failures are
counted and raise their source, and suspend nothing (R374). -/
def State.rctFails (s : State) (i : Nat) : State :=
  let x := s.source i
  let x1 := { x with rctFails := bump 32 x.rctFails 1, lastFail := s.beat, run := 0 }
  let s1 := (s.setSource i x1).raise 0x80 (noiseSource i)
  if s.entropy.state = 4 then s1 else s1.suspend i

/-- An APT failure (R358): the window goes, the source stays qualified. -/
def State.aptFailure (s : State) (i : Nat) : State :=
  let x := s.source i
  (s.setSource i { x with aptFails := bump 32 x.aptFails 1, lastFail := s.beat }).raise 0x81 (noiseSource i)

/-- The conditioner takes released windows: from step 3 of the start-up on, while the minimum of sources is there (R360, R371, R372). -/
def State.conditions (s : State) : Bool :=
  let e := s.entropy
  e.state == 2 || (e.state == 1 && decide (3 ≤ e.step) && e.stepBeat != 0 && s.entropyMin)

/-- The tests of R357 run on a source: a qualified one from step 3 of the start-up on, and in a study every source that is captured
(R374). -/
def State.tests (s : State) (i : Nat) : Bool :=
  match s.entropy.state with
  | 0 => false
  | 1 => s.qualified i && decide (3 ≤ s.entropy.step)
  | 4 => s.qualified i || bit s.entropy.studyMask i
  | _ => s.qualified i

/-- A window of 1,024 raw bits of a source is complete (R357, R358, R360): it is released, or fails a test. -/
def State.window (s : State) (i : Nat) (raw : Bytes) : State :=
  let x := s.source i
  let l := rawBits raw
  let r := rctScan (rctCutoff i) l x.lastBit x.run
  if r.1 then s.rctFails i
  else
    let s1 := s.setSource i { x with lastBit := r.2.1, run := r.2.2 }
    if aptFails (aptCutoff i) l then s1.aptFailure i
    else if s1.conditions then { s1 with entropy := { s1.entropy with bits := s1.entropy.bits ++ debias raw } }
    else s1

/-- NOISE_WINDOW (R357). -/
def execNoiseWindow (source : Fin 4) (raw : Bytes) (s : State) : Host.Outcome State Fault Refusal :=
  .next (if raw.length = 128 ∧ s.tests source.val then s.window source.val raw else s)

/-- RCT_FAILURE (R358): a run reaches the cutoff within a window. -/
def execRctFailure (source : Fin 4) (s : State) : Host.Outcome State Fault Refusal :=
  .next (if s.tests source.val then s.rctFails source.val else s)

/-- The end of a requalification attempt (R359): passed after 4,096 bits, or failed at the first test failure. -/
def State.requalified (s : State) (i : Nat) (passed : Bool) : State :=
  let x := s.source i
  let s1 := s.endGrant maRequal
  if passed then
    (s1.setSource i { x with state := 2, failedInRow := 0, nextAttempt := none, run := 0 }).followSources
  else
    let y := { x with failedInRow := x.failedInRow + 1, lastFail := s.beat }
    if s.cfg 0x5000 6 ≤ y.failedInRow then
      (s1.setSource i { y with state := 5, nextAttempt := none }).raise 0x82 (noiseSource i)
    else s1.setSource i { y with state := 3, nextAttempt := some (s.beat + msBeats (s.cfg 0x5000 7)) }

/-- REQUALIFICATION_ATTEMPT (R359). -/
def execRequalificationAttempt (source : Fin 4) (passed : Bool) (s : State) : Host.Outcome State Fault Refusal :=
  .next (match s.grantOf maRequal with
    | some (who, since) =>
      if who = source.val ∧ (s.source who).state = 4 ∧ (!passed ∨ since + 500 ≤ s.beat) then s.requalified who passed else s
    | none => s)

/-- REQUAL_PERIOD_EXPIRY (R359): a new attempt is requested. -/
def execRequalPeriodExpiry (source : Fin 4) (s : State) : Host.Outcome State Fault Refusal :=
  .next (match (s.source source.val).nextAttempt with
    | some b => if b ≤ s.beat ∧ (s.source source.val).state = 3 then s.request maRequal source.val else s
    | none => s)

/-! ### The conditioner and the root (R361 to R363) -/

/-- The root DRBG reseeds from the block at a place of the buffer (R362, R363). -/
def State.reseedRoot (s : State) (n : Nat) : State :=
  let e := s.entropy
  { s with entropy := { e with fifo := e.fifo.eraseIdx n, root := drbgUpdate e.root (e.fifo.getD n []), rootLast := s.beat,
                               rootDue := none, rootStopped := false, rootReseeds := bump 64 e.rootReseeds 1 } }

/-- CONDITIONED_BLOCK (R361): SHA3-384 over 768 debiased bits, no earlier than block n's beat; a block equal to the one before it is
discarded. The blocks of step 3 of the start-up are its samples (R362, R371). With a full buffer the root DRBG takes at once the block
that it has waited for since the minimum was restored (R360; DEDUCED; log 73). -/
def State.condition (s : State) : State :=
  let e := s.entropy
  let n := e.condCount + 1
  let sampled := e.state == 1 && e.step == 3 && decide (e.samples.length < 4096)
  let full := decide (16 ≤ e.fifo.length) && !sampled
  if !s.conditions ∨ e.bits.length < 96 ∨ (full ∧ e.rootDue ≠ some e.fifo.length) ∨ s.beat < e.condStart + 125 * n / 2
      ∨ s.beat < e.condLast + 62 then s
  else
    let b := sha3_384 (e.bits.take 96)
    let e1 := { e with bits := e.bits.drop 96, condCount := n, condLast := s.beat, lastBlock := some b }
    if e.lastBlock = some b then ({ s with entropy := e1 }).raise 0x85
    else if sampled then { s with entropy := { e1 with samples := e.samples ++ b } }
    else
      let s1 := { s with entropy := { e1 with fifo := e.fifo ++ [b] } }
      if full then s1.reseedRoot e.fifo.length else s1

/-- CONDITIONED_BLOCK. -/
def execConditionedBlock (s : State) : Host.Outcome State Fault Refusal := .next s.condition

/-- ROOT_RESEED (R360, R363): every ROOT_PERIOD beats, and from the first block issued after the minimum is restored. -/
def execRootReseed (s : State) : Host.Outcome State Fault Refusal :=
  let e := s.entropy
  .next (if !e.rootUp ∨ e.state ≠ 2 then s
    else match e.rootDue with
      | some n => if n < e.fifo.length then s.reseedRoot n else s
      | none => if !e.fifo.isEmpty ∧ s.rootPeriod then s.reseedRoot 0 else s)

/-- ROOT_AGE_EXPIRY (R363). -/
def execRootAgeExpiry (s : State) : Host.Outcome State Fault Refusal :=
  .next (if s.entropy.rootUp ∧ s.entropy.rootLast + 15625 < s.beat then
      { s with entropy := { s.entropy with rootStopped := true } }
    else s)

/-! ### Masks (R369, R370) -/

/-- A mask unit. -/
def State.maskUnit (s : State) (u : Nat) : MaskUnit := (tget s.entropy.masks u).getD {}

/-- Sets a mask unit. -/
def State.setMask (s : State) (u : Nat) (m : MaskUnit) : State :=
  { s with entropy := { s.entropy with masks := tput s.entropy.masks u m } }

/-- The sponge of a unit now: it runs 21 permutations in each beat since it absorbed (R369). -/
def State.spongeNow (s : State) (m : MaskUnit) : Bytes :=
  primOut .keccak [fit 200 m.sponge, leBytes 8 (21 * (s.beat - m.last))] 200

/-- A unit absorbs 48 bytes (R369). -/
def State.absorbed (s : State) (m : MaskUnit) (b : Bytes) : MaskUnit :=
  { seeded := true, last := s.beat, sponge := primOut .keccak [xorBytes (s.spongeNow m) (fit 200 b), leBytes 8 1] 200 }

/-- Output block `k` of a unit since it absorbed (R369). -/
def maskBlock (m : MaskUnit) (k : Nat) : Bytes := primOut .keccak [fit 200 m.sponge, leBytes 8 k] 168

/-- Two successive output blocks of a unit agree (R369); the model compares them when the unit reseeds (DESIGN CHOICE; log 73). -/
def State.masksRepeat (s : State) (m : MaskUnit) : Bool :=
  m.seeded && (List.range (21 * (s.beat - m.last) - 1)).any (fun k => maskBlock m (k + 1) == maskBlock m (k + 2))

/-- The generator is ready again once both units have reseeded (R370). -/
def State.followMasks (s : State) : State :=
  if (s.maskUnit 0).seeded && (s.maskUnit 1).seeded then { s with entropy := { s.entropy with maskReady := true } } else s

/-- A reseed of a unit fails: the generator is not ready until both units have reseeded (R370). -/
def State.masksLost (s : State) (u : Nat) : State :=
  let both := (List.range 2).foldl (fun a v => a.setMask v { a.maskUnit v with seeded := false }) s
  let s1 := both.setMask u { both.maskUnit u with heldFrom := none }
  { s1 with entropy := { s1.entropy with maskReady := false } }

/-- Unit `u` absorbs 48 bytes of its internal instance, or its request is held there (R369, R370); `bad` says that the DRBG engine's
comparison fails on the request (R366). -/
def State.reseedMask (s : State) (u : Nat) (bad : Bool) : State :=
  let m := s.maskUnit u
  if !s.canServe (256 + u) then s.setMask u { m with heldFrom := some (m.heldFrom.getD s.beat) }
  else if bad then (s.mismatch (256 + u)).masksLost u
  else
    let (b, s1) := s.serve (256 + u) 48
    (s1.setMask u (s1.absorbed m b)).followMasks

/-- MASK_UNIT_RESEED (R366, R369, R370): the operand is the unit, and whether the comparison of the DRBG engine fails. -/
def execMaskUnitReseed (unit : Fin 2 × Bool) (s : State) : Host.Outcome State Fault Refusal :=
  let m := s.maskUnit unit.1.val
  .next (if s.entropy.state < 2 ∨ s.entropy.state = 4 ∨ (m.seeded ∧ s.beat < m.last + 7813) then s
    else (if s.masksRepeat m then s.raise 0x87 else s).reseedMask unit.1.val unit.2)

/-- MASK_GENERATOR_NOT_READY (R370): the held request of a unit ends with ENTROPY_WAIT elapsed. -/
def execMaskGeneratorNotReady (unit : Fin 2) (s : State) : Host.Outcome State Fault Refusal :=
  .next (match (s.maskUnit unit.val).heldFrom with
    | some b => if b + msBeats (s.cfg 0x5000 4) ≤ s.beat then s.masksLost unit.val else s
    | none => s)

/-! ### Start-up (R371, R372, R375, R380, R381) -/

/-- No generator delivers output, and the sequence begins at step 1, with every source that is not retired enabled (R371, R375). -/
def State.beginEntropy (s0 : State) (study : Bool) : State :=
  let s := s0.dropActivity maRequal
  { s with entropy := { s.entropy with
      state := 1, step := 1, startBeat := s.beat, stepBeat := s.beat, stepFails := 0, limitOver := false, afterStudy := study,
      bits := [], fifo := [], lastBlock := none, samples := [], condCount := 0, condLast := 0, root := [], rootUp := false, rootDue := none,
      rootStopped := false, instances := [], standIn := if study then s.entropy.standIn else [], masks := [],
      maskReady := false,
      sources := (List.range 4).map (fun i => (i, { s.source i with
        state := if (s.source i).state = 5 then 5 else 1, nextAttempt := none, failedInRow := 0, run := 0 })) } }

/-- The first conditioned block that waits. -/
def State.takeBlock (s : State) : Bytes × State :=
  (s.entropy.fifo.headD [], { s with entropy := { s.entropy with fifo := s.entropy.fifo.tail } })

/-- A new root seed, which is one fresh block, is installed in the steps of R380 (R362). -/
def State.installSeed (s : State) : State :=
  let (b, s1) := s.takeBlock
  let gen := bump 32 s1.ao.rootGen 1
  let s2 := { s1 with ao := { s1.ao with nextSeed := b, nextGen := gen } }
  let s3 := s2.writeLc s2.lcState gen
  ({ s3 with ao := { s3.ao with rootSeed := s3.ao.nextSeed, rootGen := gen, nextSeed := zeros 48, nextGen := 0 },
             sec := { s3.sec with seedDue := false } }).advanceAll

/-- A new LOG_KEY and PATTERN_KEY from a conditioned block each (R381), of which the first 32 bytes are taken (DESIGN CHOICE; log 73). -/
def State.installKeys (s : State) : State :=
  let (b, s1) := s.takeBlock
  let (c, s2) := s1.takeBlock
  { s2 with ao := { s2.ao with logKey := b.take 32, patternKey := c.take 32 }, sec := { s2.sec with keysDue := false } }

/-- The step after a step of R371 begins. -/
def State.entropyStep (s : State) (n : Nat) : State := { s with entropy := { s.entropy with step := n, stepBeat := s.beat } }

/-- The end of step 2: sources that fail the RCT or the APT are counted, raise their source and are suspended (R358, R372). -/
def State.testSources (s : State) (rct apt : Nat) : State :=
  let s1 := (List.range 4).foldl (fun a i =>
    if (a.source i).state ≠ 1 then a
    else if bit rct i then a.rctFails i
    else if bit apt i then (a.aptFailure i).suspend i
    else a.setSource i { a.source i with state := 2 }) s
  let s2 := s1.entropyStep 3
  { s2 with entropy := { s2.entropy with stepBeat := if s2.entropyMin then s2.beat else 0, condStart := s2.beat } }

/-- The end of step 3 on its samples (R371, R372): a failure discards them and repeats it, and the third in a row raises
CONDITIONER_FAULT. -/
def State.testConditioner (s : State) : State :=
  let s0 := { s with entropy := { s.entropy with samples := [] } }
  if samplesFail s.entropy.samples then
    let n := s.entropy.stepFails + 1
    let s1 := { s0 with entropy := { s0.entropy with stepFails := n, stepBeat := s.beat } }
    if n % 3 = 0 then s1.raise 0x85 else s1
  else s0.entropyStep (if !s.entropy.afterStudy && (s.sec.seedDue || s.sec.keysDue) then 4 else 5)

/-- Blocks of step 4: a new root seed, and LOG_KEY and PATTERN_KEY (R381, R441). -/
def State.seedBlocks (s : State) : Nat := (if s.sec.seedDue then 1 else 0) + (if s.sec.keysDue then 2 else 0)

/-- The end of step 4. -/
def State.seedStep (s : State) : State :=
  let s1 := if s.sec.seedDue then s.installSeed else s
  (if s1.sec.keysDue then s1.installKeys else s1).entropyStep 5

/-- The line key of vault DRAM is drawn from the root DRBG at each reset (R292). -/
def State.drawLineKey (s : State) : State :=
  let (b, s1) := s.rootBytes 32
  if s.mode.mode = mSelfTest then { s1 with vault := { s1.vault with lineKey := b } } else s

/-- The end of step 5: the root DRBG is instantiated from the next block (R363). -/
def State.rootStep (s : State) : State :=
  let (b, s1) := s.takeBlock
  let root := drbgNew b (ascii "QRRB1".toList ++ deviceIdBytes)
  (({ s1 with entropy := { s1.entropy with root := root, rootUp := true, rootLast := s.beat } }).drawLineKey).entropyStep 6

/-- The end of step 6: every instance is instantiated (R364). -/
def State.instanceStep (s : State) : State :=
  ((List.range 264).foldl (fun a i => a.instantiate i) s).entropyStep 7

/-- A mask unit's first seeding (R369, R371). -/
def State.seedMask (s : State) (u : Nat) : State :=
  let (b, s1) := s.serve (256 + u) 48
  s1.setMask u (s1.absorbed {} b)

/-- A step of R441 ends. -/
def State.stepDone (s : State) (n : Nat) : State :=
  { s with mode := { s.mode with step := n + 1, startupBeats := tput s.mode.startupBeats n s.beat } }

/-- The end of step 7: ENTROPY_STATE 2, or 3 where the minimum is lost (R360); after a study the mode returns to Ceremony, and
doorbells kept since start their fetches (R63, R375, R447). -/
def State.readyStep (s : State) : State :=
  let s0 := (s.seedMask 0).seedMask 1
  let s1 := { s0 with entropy := { s0.entropy with state := 2, step := 0, maskReady := true, afterStudy := false } }
  if s.entropy.afterStudy ∧ s.mode.mode = mStudy then
    ((({ s1 with mode := { s1.mode with ceremonyBeat := s1.beat, ceremonyOver := false } }).changeMode mCeremony).followSources).wakePending
  else (if s.mode.mode = mSelfTest ∧ s.mode.step = 4 then s1.stepDone 4 else s1).followSources

/-- Beats of a step of R371, with 63 for each block of step 4 (R441). -/
def State.stepBeats (s : State) : Nat → Nat
  | 1 => 15625 | 2 => 125 | 3 => 5375 | 4 => 63 * s.seedBlocks | 5 => 63 | 6 => 264 | _ => 2

/-- The conditioned blocks that the end of a step needs are there (R371). -/
def State.stepFed (s : State) : Bool :=
  let e := s.entropy
  match e.step with
  | 3 => e.stepBeat != 0 && s.entropyMin && decide (4096 ≤ e.samples.length)
  | 4 => decide (s.seedBlocks ≤ e.fifo.length)
  | 5 => !e.fifo.isEmpty
  | _ => true

/-- ENTROPY_STARTUP_STEP (R371, R372): the step under way ends; `failed` names the sources whose samples of step 2 fail the RCT, and
those whose samples fail the APT. -/
def execEntropyStartupStep (failed : Fin 16 × Fin 16) (s : State) : Host.Outcome State Fault Refusal :=
  let e := s.entropy
  .next (if e.state ≠ 1 ∨ s.mode.stopped ∨ s.beat < e.stepBeat + s.stepBeats e.step ∨ !s.stepFed then s
    else match e.step with
      | 1 => s.entropyStep 2
      | 2 => s.testSources failed.1.val failed.2.val
      | 3 => s.testConditioner
      | 4 => s.seedStep
      | 5 => s.rootStep
      | 6 => s.instanceStep
      | 7 => s.readyStep
      | _ => s)

/-- STARTUP_LIMIT_EXPIRY (R372). -/
def execStartupLimitExpiry (s : State) : Host.Outcome State Fault Refusal :=
  let e := s.entropy
  .next (if e.state = 1 ∧ e.step < 7 ∧ !e.limitOver ∧ e.startBeat + msBeats (s.cfg 0x5000 8) ≤ s.beat then
      ({ s with entropy := { e with limitOver := true } }).raise 0x84
    else s)

/-! ### Entropy study (R373 to R375) -/

/-- Beats of a capture: raw bits at 64 Mb/s, and 1,000 warm-ups for restarts (R371, R374). -/
def captureBeats (kind samples : Nat) : Nat :=
  if kind = 2 then 1000 * (15625 + 123) else ceilDiv (samples * 1000) 8192

/-- Entropy study begins (R374, R447): generators stop, and the capture runs. -/
def State.beginStudy (s : State) : State :=
  { s with entropy := { s.entropy with
      state := 4, bits := [], fifo := [], root := [], rootUp := false, instances := [], masks := [], maskReady := false,
      studyState := 1, studyBits := [], studyPos := 0 } }

/-- STUDY_CAPTURE_END (R374): the bits captured from each selected source. -/
def execStudyCaptureEnd (captured : List (Nat × Bytes)) (s : State) : Host.Outcome State Fault Refusal :=
  let e := s.entropy
  .next (if s.mode.mode = mStudy ∧ e.studyState = 1 ∧ s.mode.modeBeat + captureBeats e.studyKind e.studySamples ≤ s.beat then
      let keep := (bitList 4 e.studyMask).map (fun i =>
        (i, fit ((e.studySamples + 7) / 8) ((tget captured i).getD [])))
      { s with entropy := { e with studyState := 2, studyBits := keep } }
    else s)

/-- STUDY_SELECT (R376): a write of domain 0; the read restarts at bit 0. -/
def execStudySelect (source : Fin 4) (s : State) : Host.Outcome State Fault Refusal :=
  .next (if s.writable then
      let s1 := s.setCfg 0x5030 2 source.val
      { s1 with entropy := { s1.entropy with studyPos := 0 } }
    else s)

/-- The next 1,024 bytes of the capture, none past its end (R376). -/
def State.studyData (s : State) : Option (Bytes × State) :=
  let b := (tget s.entropy.studyBits (s.cfg 0x5030 2)).getD []
  if b.length ≤ s.entropy.studyPos then none
  else some (fit 1024 (b.drop s.entropy.studyPos), { s with entropy := { s.entropy with studyPos := s.entropy.studyPos + 1024 } })

/-- STUDY_DATA (R376): a read advances; one past the end changes nothing. -/
def execStudyData (s : State) : Host.Outcome State Fault Refusal :=
  .next ((s.studyData.map (·.2)).getD s)

/-- A write of STUDY_EXIT (R375), none outside Entropy study: the capture is erased and the sequence repeated without step 4. -/
def State.studyExit (s : State) : Option State :=
  if s.mode.mode ≠ mStudy ∨ s.entropy.state ≠ 4 then none
  else some (({ s with entropy := { s.entropy with studyState := 0, studyBits := [], studyPos := 0 } }).beginEntropy true)

/-- STUDY_EXIT: a write of domain 0. -/
def execStudyExit (s : State) : Host.Outcome State Fault Refusal := .next (s.studyExit.getD s)

/-! ### Random bits for the host (R365, R368) -/

/-- GET_RANDOM and GET_RANDOM_PR. -/
def randomSpec (h : Header) (pr : Bool) : JobSpec :=
  { key := .null, psetOk := h.pset == 0, flags := fOut, inLen := some 0,
    limitOk := decide (1 ≤ h.outLen) && decide (h.outLen ≤ 65536), cls := cKeyUnit, lo := 0, hi := 7, drbg := true,
    sched := some ((if pr then 2 else 1) + ceilDiv h.outLen 64) }

/-- GET_RANDOM (R368). -/
def execGetRandom (slot : Fin 4096) (s : State) : Host.Outcome State Fault Refusal :=
  s.runOp slot.val 0x1101 fun s j =>
    s.finish slot.val (1 + ceilDiv j.hdr.outLen 64) { status := stOk, out := j.random j.hdr.outLen }

/-- A prediction-resistant request at its grant (R363, R365, R368): a block of the conditioner reseeds the root, and the
root the instance. -/
def State.grantPr (s : State) (d : Nat) : State :=
  let s1 := (s.reseedRoot 0).reseed d
  { s1 with entropy := { s1.entropy with prRequests := bump 64 s1.entropy.prRequests 1 } }

/-- GET_RANDOM_PR (R368). -/
def execGetRandomPr (slot : Fin 4096) (s : State) : Host.Outcome State Fault Refusal :=
  s.runOp slot.val 0x1102 fun s j =>
    s.finish slot.val (2 + ceilDiv j.hdr.outLen 64) { status := stOk, out := j.random j.hdr.outLen }

end Sys2Proof.Machine
end

