-- ==== Sys2Proof/Machine/Streams.lean ====
section
/-! DEFINITION. The stream operations (R269 to R273). -/

namespace Sys2Proof.Machine

open Sys2Proof

/-- The stream context of a name of a domain (R269). -/
def State.stream? (s : State) (d id : Nat) : Option Stream := tget s.streams (65536 * d + id)

/-- Binds or changes a stream context. -/
def State.setStream (s : State) (d id : Nat) (c : Stream) : State := { s with streams := tput s.streams (65536 * d + id) c }

/-- Releases a name and its context (R269). -/
def State.unbindStream (s : State) (d id : Nat) : State := { s with streams := tdel s.streams (65536 * d + id) }

/-- The STREAM_INIT in flight on a name that was admitted last before a number of admission (R271). -/
def State.initBefore (s : State) (d id seq : Nat) : Option Job :=
  (s.jobs.slots.filter (fun x => x.2.hdr.opcode == 0x1201 && x.2.domain == d && x.2.hdr.streamId == id && x.2.live
    && decide (x.2.seq < seq))).foldl (fun b x => match b with
      | some y => if y.seq < x.2.seq then some x.2 else b
      | none => some x.2) none

/-- The streams as a job admitted with a number finds them: the parameters of a name are those of the last STREAM_INIT before it, released
or not (R271, R272). -/
def State.streamsBefore (s : State) (d id seq : Nat) : State :=
  match s.initBefore d id seq with
  | some j => s.setStream d id (initStream j.hdr j.pb [])
  | none => s

/-- The names that a domain holds (R269). -/
def State.streamsOf (s : State) (d : Nat) : Nat := (s.streams.filter (fun x => x.1 / 65536 == d)).length

/-- The computations that a stream can be of (R271). -/
def streamKind (k : Nat) : Bool :=
  [0x0C03, 0x0C04, 0x0C05, 0x0C06, 0x0C07, 0x0C08, 0x0C09, 0x0C0E, 0x0C0F, 0x0E01, 0x0E02, 0x0E03, 0x0E04,
   0x0D01, 0x0D02, 0x0D03, 0x0D04, 0x0D05, 0x0D06, 0x0E05, 0x0E06].contains k

/-- The body of STREAM_INIT is well formed (R257, R271). -/
def initBodyOk (s : State) (h : Header) (p : ParamBlock) : Bool :=
  let k := field p.body 0 2
  decide (4 ≤ p.body.length) && streamKind k && field p.body 2 2 == 0
    && (if bodyless k then p.body.length == 4 else symBodyOk s k h.pset (p.body.drop 4))

/-- A new computation is begun by an UPDATE or FINAL on a context without one (R272); the argument is its counter. -/
def Stream.restart (c : Stream) (counter : Option Nat) : Stream :=
  if c.active then c else { c.discarded with active := true, counter := counter }

/-- A computation of a DEV_IV counter value (R263): GCM_ENC or GMAC_GEN with IV_LEN 0. -/
def Stream.devIv (c : Stream) : Bool := (c.kind == 0x0C06 || c.kind == 0x0C08) && ivLen c.body == 0

/-- Bytes of data in the input of an UPDATE or FINAL: T is no data (R271). -/
def Stream.dataOf (c : Stream) (final : Bool) (n : Nat) : Nat := n - (if final && tagInInput c.kind then tagLen c.body else 0)

/-- Bytes that an UPDATE or FINAL writes (R271). -/
def Stream.outOf (c : Stream) (final : Bool) (n : Nat) : Nat :=
  let data := c.dataOf final n
  if isPlainCipher c.kind || isAeadDec c.kind then data
  else if isAeadEnc c.kind then data + (if final then tagLen c.body else 0)
  else if !final then 0
  else match c.kind with
    | 0x0D01 => hLen c.pset
    | 0x0E05 => 32
    | k => if k = 0x0D02 ∨ k = 0x0E06 ∨ isVerifier k then 0 else tagLen c.body

/-- The rules that every stream job of a context shares: unit, key and attributes (R250, R254, R256, R262). -/
def streamBase (h : Header) (c : Stream) : JobSpec :=
  let u := symUnits c.kind c.pset
  { key := if keyless c.kind then .null else .vault, cls := u.1, lo := u.2.1, hi := u.2.2, masked := isAes c.kind,
    usage := if symUsage c.kind = 99 then none else some (symUsage c.kind),
    keyOk := fun k => k.cls == symClass c.kind && (symClass c.kind == 0xD || k.pset == h.pset) && k.state == 1 }

/-- The schedule of STREAM_INIT (R271): H of its KIND, D = 0, T = 1. -/
def initLen (c : Stream) (fn aad : Nat) : Nat :=
  schedH { op := c.kind, fn := fn, aad := aad, nc := 0, out := 0, str := false, first := true, last := false } + 1

/-- STREAM_INIT (R269, R271, R273): no input, no output, H of its KIND, D = 0, T = 1. A KIND that AES_MODES or OTHER_ALGS disables is
refused as the one-shot operation is, in every job of the stream (DEDUCED from R276; log 23). -/
def streamInitSpec (s : State) (h : Header) (p : ParamBlock) : JobSpec :=
  let c := initStream h p []
  { streamBase h c with
    opcodeOk := !streamKind c.kind || modeOn s c.kind, psetOk := !streamKind c.kind || symPset s c.kind h.pset, flags := fAad,
    inLen := some 0, ctx := 2, bodyOk := initBodyOk s h p, streamOk := h.streamId != 0 && (keyless c.kind || !h.nullKey), counts := c.devIv,
    attrOk := fun k => symAttr c.kind (ivLen c.body) k && (!isAeadDec c.kind || k.attr aStreamOk),
    sched := some (initLen c h.pset (aadLen h p)) }

/-- STREAM_UPDATE and STREAM_FINAL on a bound context (R269 to R272). -/
def streamNextSpec (s : State) (h : Header) (c : Stream) (final : Bool) : JobSpec :=
  let n := c.dataOf final h.inLen
  { streamBase h c with
    opcodeOk := modeOn s c.kind, psetOk := h.pset == c.pset && symPset s c.kind h.pset, flags := fIn ||| fOut,
    streamOk := h.streamId != 0 && h.keyHandle == c.handle,
    inOk := (if c.kind = 0x0C03 ∨ c.kind = 0x0C04 then h.inLen % 16 == 0
             else !(final && tagInInput c.kind) || decide (tagLen c.body ≤ h.inLen)),
    limitOk := !(final && (c.kind == 0x0D02 || c.kind == 0x0E06))
      || (decide (1 ≤ h.outLen) && decide (h.outLen ≤ s.cfg 0x3250 6)),
    outNeed := c.outOf final h.inLen, attrOk := symAttr c.kind (ivLen c.body), counts := c.devIv && !c.active,
    keyLimitOk := fun _ => dataFits c.kind c.body ((if c.active then c.data.length else 0) + n),
    sched := some (shapeLen { op := c.kind, fn := c.pset, aad := 0, nc := min n 65536,
                              out := if c.kind = 0x0D03 then tagLen c.body else h.outLen,
                              str := !(strOf c.body).isEmpty, first := false, last := final && decide (n ≤ 65536) }),
    dataLen := some n }

/-- STREAM_DISCARD (R269, R271): a key-unit start right and a schedule of 0 beats. -/
def streamDiscardSpec (h : Header) (p : ParamBlock) (bound : Bool) : JobSpec :=
  { key := .null, psetOk := !bound || h.pset == 0, streamOk := h.streamId != 0 && bound, inLen := some 0, ctx := 1,
    options := 0x0100, bodyOk := p.body.isEmpty, cls := cKeyUnit, lo := 0, hi := 7, sched := some 0 }

/-- The rules of a stream operation of a domain; an unbound name passes all comparisons and ends with BAD_CONTEXT. -/
def streamSpec (s : State) (d op : Nat) (h : Header) (p : ParamBlock) : JobSpec :=
  match op with
  | 0x1201 => streamInitSpec s h p
  | 0x1204 => streamDiscardSpec h p (s.stream? d h.streamId).isSome
  | _ =>
    match s.stream? d h.streamId with
    | some c => streamNextSpec s h c (op == 0x1203)
    | none => { key := .either, flags := fIn ||| fOut, streamOk := false, cls := cSymmetric, hi := 7 }

/-- The invocation of a computation (R262). -/
def Stream.iv (c : Stream) (j : Job) : Bytes :=
  match c.counter, j.key with
  | some n, some k => k.fixed ++ beBytes 8 n
  | _, _ => ivOf c.body

/-- What the data from offset `from_` of a computation yields (R271). -/
def Stream.yield (c : Stream) (j : Job) (data : Bytes) (from_ : Nat) : Bytes :=
  if isPlainCipher c.kind || isAeadEnc c.kind || isAeadDec c.kind then
    (cipherOut c.kind j.secret (c.iv j) c.aad data).drop from_
  else []

/-- The tag, MAC, digest or output that ends a computation over its data. -/
def Stream.close (c : Stream) (j : Job) (data : Bytes) : Bytes :=
  let iv := c.iv j
  let key := j.secret
  let t := tagLen c.body
  let other := cipherOut c.kind key iv c.aad data
  if isAeadEnc c.kind then tagOut c.kind key iv c.aad data other t
  else if isAeadDec c.kind then tagOut c.kind key iv c.aad other data t
  else match c.kind with
    | 0x0C08 | 0x0C09 | 0x0C0E | 0x0C0F => tagOut c.kind key iv c.aad data [] t
    | 0x0D01 => fnOut c.pset [] data (hLen c.pset)
    | 0x0D02 => fnOut c.pset (strOf c.body) data j.hdr.outLen
    | 0x0D03 => fnOut c.pset (strOf c.body) data t
    | 0x0D04 | 0x0D05 | 0x0D06 => macOut c.pset key data (strOf c.body) t
    | 0x0E05 => primOut .ascon [[0#8], data] 32
    | 0x0E06 => primOut .ascon [[1#8], data] j.hdr.outLen
    | _ => []

/-- Schedule of the present chunk of an UPDATE or FINAL (R268, R271). -/
def Stream.len (c : Stream) (j : Job) (final : Bool) : Nat :=
  let n := c.dataOf final j.hdr.inLen
  shapeLen { op := c.kind, fn := c.pset, aad := 0, nc := min (n - 65536 * j.chunk) 65536,
             out := if c.kind = 0x0D03 then tagLen c.body else j.hdr.outLen, str := !(strOf c.body).isEmpty,
             first := false, last := final && lastChunk j.chunk n }

/-- Block count of a job in chunks (R44). -/
def chunkCount (chunk n : Nat) : Nat := if 65536 < n then min (chunk + 1) 0x7FF else 0

/-- Masks of a stream job's schedule (R251). -/
def Stream.masks (c : Stream) (len : Nat) : Nat := if isAes c.kind then 64 + 16 * len else 0

/-- The result of a chunk of STREAM_UPDATE. -/
def updateResult (c : Stream) (j : Job) : Result :=
  let n := j.hdr.inLen
  let upTo := c.data ++ j.input.take (min n (65536 * (j.chunk + 1)))
  let out := c.yield j upTo (c.data.length + 65536 * j.chunk)
  if lastChunk j.chunk n then
    { status := stOk, out := out, info := upTo.length, blocks := chunkCount j.chunk n,
      stream := some { c with data := upTo, written := if isAeadDec c.kind then c.written + n else c.written } }
  else { status := stOk, out := out, more := true }

/-- The result of a chunk of STREAM_FINAL: a decrypting kind writes its plaintext only if the tag passes (R273). -/
def finalResult (c : Stream) (j : Job) : Result :=
  let n := c.dataOf true j.hdr.inLen
  if !lastChunk j.chunk n then
    { status := stOk, more := true,
      out := if isAeadDec c.kind then []
             else c.yield j (c.data ++ j.input.take (65536 * (j.chunk + 1))) (c.data.length + 65536 * j.chunk) }
  else
    let data := c.data ++ j.input.take n
    let t := j.input.drop n
    let close := c.close j data
    let base : Result := { status := stOk, blocks := chunkCount j.chunk n, stream := some c.discarded,
                           info := if c.devIv then c.counter.getD 0 else data.length }
    if isAeadDec c.kind then
      if close == t then { base with out := c.yield j data c.data.length }
      else { base with status := if 0 < c.written then stTagFailExposed else stTagFail, info := 0, exposed := c.written,
                       bumps := [(entryKey 0x3251 2, 1), (entryKey 0x3251 3, holdAt 32 c.written)] }
    else if isVerifier c.kind then
      if close == t then base else { base with status := stCompareMismatch, info := 0 }
    else { base with out := c.yield j data (c.data.length + 65536 * j.chunk) ++ close }

/-- STREAM_INIT (R269, R271): the context is bound anew with the computation begun. A name that an earlier UNBIND has released since the
admission is bound again within the quota; beyond it the job ends with QUOTA after its schedule (the rule names the admission alone:
DESIGN CHOICE; log 23). -/
def execStreamInit (slot : Fin 4096) (s : State) : Host.Outcome State Fault Refusal :=
  s.runOp slot.val 0x1201 fun s _ =>
    let s1 := s.assignDue
    match s1.job? slot.val with
    | none => s1
    | some j =>
      let c := { initStream j.hdr j.pb j.aad with active := true, counter := j.counter }
      let len := initLen c c.pset j.aad.length
      let open_ := (s1.stream? j.domain j.hdr.streamId).isSome || decide (s1.streamsOf j.domain < s1.cfg (0x2000 + j.domain) 0x10)
      (s1.finish slot.val len (if open_ then { status := stOk, info := j.counter.getD 0, stream := some c }
        else { status := stQuota })).useMasks (c.masks len)

/-- A job of STREAM_UPDATE or STREAM_FINAL. A name that an earlier job has released since the admission ends it with BAD_CONTEXT at the
end of its staging (R269; the rule gives no beat: DESIGN CHOICE; log 23). -/
def State.streamRun (s : State) (slot : Nat) (final : Bool) (f : Stream → Job → Result) : State :=
  let s1 := s.assignDue
  match s1.job? slot with
  | none => s1
  | some j =>
    match s1.stream? j.domain j.hdr.streamId with
    | none => s1.finish slot 0 { status := stBadContext }
    | some c0 =>
      let c := c0.restart j.counter
      let len := c.len j final
      (s1.finish slot len (f c j)).useMasks (c.masks len)

/-- STREAM_UPDATE (R271, R272). -/
def execStreamUpdate (slot : Fin 4096) (s : State) : Host.Outcome State Fault Refusal :=
  s.runOp slot.val 0x1202 fun s _ => s.streamRun slot.val false updateResult

/-- STREAM_FINAL (R271, R273). -/
def execStreamFinal (slot : Fin 4096) (s : State) : Host.Outcome State Fault Refusal :=
  s.runOp slot.val 0x1203 fun s _ => s.streamRun slot.val true finalResult

/-- STREAM_DISCARD (R269, R271): the running state goes; with UNBIND the release also frees the name. A name released since the admission
ends it with BAD_CONTEXT, as it ends the other operations (DESIGN CHOICE; log 23). -/
def execStreamDiscard (slot : Fin 4096) (s : State) : Host.Outcome State Fault Refusal :=
  s.runOp slot.val 0x1204 fun s j =>
    s.finish slot.val 0 (match s.stream? j.domain j.hdr.streamId with
      | some c => { status := stOk, stream := some c.discarded }
      | none => { status := stBadContext })

/-- What a released stream job leaves of its context (R269, R271). -/
def State.releaseStream (s : State) (j : Job) (r : Result) : State :=
  match r.stream with
  | none => s
  | some c =>
    if j.hdr.opcode = 0x1204 ∧ bit j.pb.options 8 then s.unbindStream j.domain j.hdr.streamId
    else s.setStream j.domain j.hdr.streamId c

end Sys2Proof.Machine
end

