-- ==== Sys2Proof/Machine/Specs.lean ====
section
/-! DEFINITION. The rules of every operation code (R38), and the checks that admission makes with them (R34, R41). -/

namespace Sys2Proof.Machine

open Sys2Proof

/-! ### Orders, envelopes and attestation (R327, R330, R338, R342, R350) -/

/-- A device-level order action (R332). -/
def deviceAction (a : Nat) : Bool := decide (1 ≤ a) && decide (a ≤ 0x0D)

/-- An order action (R332). -/
def knownAction (a : Nat) : Bool := deviceAction a || (decide (0x40 ≤ a) && decide (a ≤ 0x44))

/-- ORDER_SUBMIT (R38, R330): the header's PSET is the action. -/
def orderSpec (d : Nat) (h : Header) : JobSpec :=
  { key := .null, opcodeOk := !deviceAction h.pset || d == 0, psetOk := knownAction h.pset, flags := fIn,
    cls := cSwallowtail, hi := 15, cls2 := cIbex, triple := true }

/-- PAYLOAD_LEN and SIG_COUNT as the schedule of a malformed order takes them (R330). -/
def orderShape (n : Nat) : Nat × Nat :=
  let count := min 16 ((n - 72) / 5400)
  (n - 72 - 5400 * count, count)

/-- The reserved fields of an order outside its payload are zero (R327, R328). -/
def orderReserved (b : Bytes) (len count : Nat) : Bool :=
  byteAt b 7 == 0 && allZero (slice b 41 7) && allZero (slice b 62 2) && allZero (slice b 68 4)
    && (List.range count).all (fun k =>
      let x := slice b (72 + len + 5400 * k) 5400
      decide (byteAt x 1 ≤ 1) && allZero (slice x 2 2) && allZero (slice x 2021 3) && allZero (slice x 5397 3))

/-- A payload of an action has its fixed length, or the counts and lengths it carries agree with its length (R329 step 1;
R100, R192, R332, R333, R336, R337, R345, R373, R390, R409, R428, R470, R495). -/
def payloadOk (action : Nat) (p : Bytes) : Bool :=
  match action with
  | 0x01 | 0x03 | 0x40 => p.length == 8 + 2024 * byteAt p 2
  | 0x02 | 0x04 | 0x07 | 0x08 | 0x09 => p.length == 4
  | 0x05 => decide (4 ≤ p.length) && (parseRecords p.length (field p 0 2) (p.drop 4)).isSome
  | 0x06 => p.length == 48
  | 0x0A | 0x0D | 0x42 => p.length == 8
  | 0x0B => p.length == 40 + 32 * byteAt p 0
  | 0x0C => p.length == 12
  | 0x41 => p.length == (if byteAt p 1 = 1 then 2028 else 4)
  | 0x43 =>
    let rest := p.drop (32 + 8 + 48 * byteAt p 36)
    decide (40 + 48 * byteAt p 36 ≤ p.length) && (rest.isEmpty || (decide (8 ≤ rest.length) && rest.length == 8 + 48 * byteAt rest 4))
  | 0x44 => p.isEmpty
  | _ => false

/-- Step 1 of R329 for an order on a domain's queue. -/
def orderFormat (d : Nat) (h : Header) (b : Bytes) : Bool :=
  let len := field b 64 4
  let count := byteAt b 5
  decide (72 ≤ b.length) && field b 0 4 == 0x44524F51 && byteAt b 4 == 1 && decide (2 ≤ count) && decide (count ≤ 16)
    && b.length == 72 + len + 5400 * count && byteAt b 6 == h.pset && byteAt b 40 == d && orderReserved b len count
    && payloadOk h.pset (slice b 72 len)

/-- PAYLOAD_LEN and SIG_COUNT that the schedule of an order uses (R330). -/
def orderLens (d : Nat) (h : Header) (b : Bytes) : Nat × Nat :=
  if orderFormat d h b then (field b 64 4, byteAt b 5) else orderShape h.inLen

/-- The end of the last signature block (R330). -/
def orderSigs (d : Nat) (h : Header) (b : Bytes) : Nat :=
  4 + ceilDiv (72 + (orderLens d h b).1) 1440 + 152 * (orderLens d h b).2

/-- IMPORT_ENVELOPE (R338, R340, R342): at most 32 entries. -/
def importSpec (h : Header) : JobSpec :=
  { key := .null, psetOk := h.pset == 0, flags := fIn, creates := true, cls := cSwallowtail, hi := 15, cls2 := cIbex,
    triple := true, masked := true }

/-- Bytes of an envelope before its signature block, and of BODY (R338, R342). -/
def envelopeLens (h : Header) (b : Bytes) : Nat × Nat :=
  let before := h.inLen - 5400
  (before, before - 80 - (if bit (byteAt b 5) 1 then 0 else 1568))

/-- The end of an envelope's signature block (R342). -/
def envelopeSigs (h : Header) (b : Bytes) : Nat := 4 + ceilDiv (envelopeLens h b).1 1440 + 152

/-- The schedule of IMPORT_ENVELOPE (R342). -/
def envelopeLen (h : Header) (b : Bytes) : Nat :=
  envelopeSigs h b
    + (if bit (byteAt b 5) 1 then 0 else 34 + (2 + ceilDiv (6 * ceilDiv (envelopeLens h b).2 8) 8)) + 320

/-- Bytes of an attestation statement (R351). -/
def State.statementLen (s : State) (nonce : Nat) : Nat := 5343 + nonce + 32 * s.herd.members.length

/-- ATTEST (R350): the schedule of CSIG_SIGN with PSET 0x14, preceded by 4 beats. -/
def attestSpec (s : State) (h : Header) : JobSpec :=
  { key := .vault, psetOk := h.pset == 0, aux := true, flags := fIn ||| fOut, drbg := true,
    limitOk := decide (16 ≤ h.inLen) && decide (h.inLen ≤ 64) && decide (s.statementLen h.inLen ≤ h.outLen),
    cls := cSwallowtail, hi := 15, cls2 := cIbex, triple := true, hash := 1, masked := true, bare := true,
    attempts := some (140, 28, 4), cls2Len := 234, noExp := true }

/-! ### The operations without a start right (R39, R48, R49) -/

/-- NOP, FENCE and ABORT. -/
def plainSpec (h : Header) (aux : Bool) : JobSpec := { key := .null, psetOk := h.pset == 0, inLen := some 0, aux := aux }

/-- ECHO. -/
def echoSpec (h : Header) : JobSpec :=
  { key := .null, psetOk := h.pset == 0, flags := fIn ||| fOut, limitOk := decide (h.inLen ≤ 65536), outNeed := h.inLen }

/-! ### The table (R38) -/

/-- The operations of the groups 0x01 to 0x08. -/
def specLow (s : State) (h : Header) (p : ParamBlock) : Option JobSpec :=
  match h.opcode with
  | 0x0101 => some (mlkemEncapsSpec s h p)
  | 0x0102 => some (mlkemCheckSpec s h)
  | 0x0103 => some (mlkemDecapsSpec s h p)
  | 0x0201 => some (mldsaSignSpec s h p)
  | 0x0202 => some (mldsaSignMuSpec s h)
  | 0x0203 => some (mldsaVerifySpec s h p)
  | 0x0204 => some (mldsaVerifyMuSpec s h)
  | 0x0301 => some (fndsaSignSpec s h p)
  | 0x0302 => some (fndsaVerifySpec s h p)
  | 0x0401 => some (slhdsaSignSpec s h p)
  | 0x0402 => some (slhdsaVerifySpec s h p)
  | 0x0501 => some (hbsSignSpec s h 5)
  | 0x0502 => some (hbsVerifySpec s h p 5)
  | 0x0503 => some (hbsReserveSpec s h 5)
  | 0x0601 => some (hbsSignSpec s h 6)
  | 0x0602 => some (hbsVerifySpec s h p 6)
  | 0x0603 => some (hbsReserveSpec s h 6)
  | 0x0701 => some (codeEncapsSpec s h p 7)
  | 0x0702 => some (codeDecapsSpec s h p 7)
  | 0x0801 => some (codeEncapsSpec s h p 8)
  | 0x0802 => some (codeDecapsSpec s h p 8)
  | _ => none

/-- The classical and composite operations. -/
def specClassic (s : State) (h : Header) (p : ParamBlock) : Option JobSpec :=
  match h.opcode with
  | 0x0901 => some (rsaEncryptSpec s h p)
  | 0x0902 => some (rsaDecryptSpec s h p)
  | 0x0903 | 0x0905 => some (rsaSignSpec s h p)
  | 0x0904 | 0x0906 => some (rsaVerifySpec s h p)
  | 0x0A01 => some (ecdsaSignSpec s h p)
  | 0x0A02 => some (ecdsaVerifySpec s h p)
  | 0x0A03 => some (ecdhSpec s h p)
  | 0x0A04 => some (ecCheckSpec s h)
  | 0x0B01 => some (eddsaSignSpec s h p)
  | 0x0B02 => some (eddsaVerifySpec s h p)
  | 0x0B03 => some (xdhSpec s h p)
  | 0x0F01 => some (hkemEncapsSpec s h p)
  | 0x0F02 => some (hkemDecapsSpec s h p)
  | 0x0F03 => some (csigSignSpec s h p)
  | 0x0F04 => some (csigVerifySpec s h p)
  | _ => none

/-- The operations of the vault, of the domains, and those without a start right. -/
def specVault (s : State) (d : Nat) (h : Header) (p : ParamBlock) : Option JobSpec :=
  match h.opcode with
  | 0x1001 => some (generateSpec s h p)
  | 0x1002 => some (destroySpec h)
  | 0x1003 => some (deriveSpec s h p)
  | 0x1004 => some (exportSpec h)
  | 0x1005 => some (importSpec h)
  | 0x1006 => some (attestSpec s h)
  | 0x1007 => some (querySpec h p)
  | 0x1101 => some (randomSpec h false)
  | 0x1102 => some (randomSpec h true)
  | 0x1301 | 0x1302 | 0x1303 => some (persistSpec h d p)
  | 0x1401 => some (orderSpec d h)
  | 0x1501 | 0x1502 => some (plainSpec h false)
  | 0x1503 => some (echoSpec h)
  | 0x1504 => some (plainSpec h true)
  | _ => none

/-- Bytes that the schedule of an operation draws from its domain's instance (R113, R144, R147, R153, R155, R160, R169, R201, R209,
R225, R302, R368). -/
def drawLen (h : Header) (p : ParamBlock) : Nat :=
  match h.opcode with
  | 0x0101 => 32
  | 0x0201 | 0x0202 => if h.has flDet then 0 else 32
  | 0x0301 => 72
  | 0x0401 => if h.has flDet then 0 else slhN h.pset
  | 0x0501 => lmsN h.pset
  | 0x0701 => codeDraw 7 h.pset
  | 0x0801 => codeDraw 8 h.pset
  | 0x0901 => phLen p.hash
  | 0x0903 => p.saltLen
  | 0x0A01 => if h.has flDet then 0 else nth [40, 56, 74] h.pset
  | 0x0F01 => 32 + clKeyLen h.pset
  | 0x0F03 => if h.has flDet then 0 else 32 + (if (clHalf h.pset).1 = 10 then nth [40, 56, 74] (clHalf h.pset).2 else 0)
  | 0x1001 =>
    (match p.cls with
      | 9 => rsaK h.pset / 2
      | 10 => nth [40, 56, 74] h.pset
      | c => secretLen c h.pset)
  | 0x1004 => if wrapsByKem h then 32 else 0
  | 0x1006 => 88
  | 0x1101 | 0x1102 => h.outLen
  | _ => 0

/-- The bytes that staging draws for a job: those of its schedule, which are n for the LM-OTS signature of each level of
an HSS key (R182), and FIXED of a new DEV_IV entry (R262, R366). -/
def Job.drawn (j : Job) : Nat :=
  drawLen j.hdr j.pb * (if j.hdr.opcode = 0x0501 then max 1 ((j.key.map (·.levels.length)).getD 1) else 1)
    + (if bit j.pb.attributes aDevIv && j.hdr.opcode != 0x1005 then 4 else 0)

/-- A job that creates a DEV_IV entry draws FIXED from the domain's DRBG; an envelope carries it (R262). -/
def JobSpec.withFixed (spec : JobSpec) (h : Header) (p : ParamBlock) : JobSpec :=
  if spec.creates && bit p.attributes aDevIv && h.opcode != 0x1005 then { spec with drbg := true } else spec

/-- The rules of an operation of a domain by its group, none for a code that R38 does not list. -/
def specIn (s : State) (d : Nat) (h : Header) (p : ParamBlock) : Option JobSpec :=
  let op := h.opcode
  if op / 256 ≤ 8 then specLow s h p
  else if 0x0C01 ≤ op ∧ op ≤ 0x0C11 then some (symSpec s op h p)
  else if 0x0D01 ≤ op ∧ op ≤ 0x0D06 then some (symSpec s op h p)
  else if 0x0D07 ≤ op ∧ op ≤ 0x0D09 then some (kdfSpec s op h p)
  else if 0x0E01 ≤ op ∧ op ≤ 0x0E06 then some (symSpec s op h p)
  else if op / 256 ≤ 0x0F then specClassic s h p
  else if 0x1201 ≤ op ∧ op ≤ 0x1204 then some (streamSpec s d op h p)
  else specVault s d h p

/-- The rules of an operation of a domain. -/
def specOf (s : State) (d : Nat) (h : Header) (p : ParamBlock) : Option JobSpec := (specIn s d h p).map (fun x => x.withFixed h p)

/-- The machine as a job of a domain admitted with a number sees it: a stream job with the parameters of the last STREAM_INIT before it
(R271). -/
def State.viewOf (s : State) (d : Nat) (h : Header) (seq : Nat) : State :=
  if h.opcode / 256 = 0x12 then s.streamsBefore d h.streamId seq else s

/-- The rules of a job, with the policy in force at its admission. -/
def State.spec (s : State) (j : Job) : JobSpec :=
  (specOf ((s.viewOf j.domain j.hdr j.seq).asAdmitted j) j.domain j.hdr j.pb).getD { key := .null }

/-! ### The parameter block (R34) -/

/-- The template of a block (R33, R34, R262, R283). -/
def templateOk (p : ParamBlock) : Bool :=
  let a := p.attributes
  !attrReserved a && allZero (slice p.template 10 6) && byteAt p.template 8 / 16 == 0 && classPset p.cls p.newPset
    && (!bit a aDevIv || (p.cls == 0xC && decide (p.newPset ≤ 3) && !bit a aHerd))

/-- The checks of R34 on the bytes of a context block, of which the first 1,024 have been read. -/
def blockOk (spec : JobSpec) (h : Header) (b : Bytes) : Bool :=
  let p := parseBlock b
  let len := blockLen b
  decide (8 ≤ b.length) && byteAt b 0 == 1 && decide (byteAt b 1 ≤ 1) && field b 6 2 == 0 && decide (len ≤ 1024)
    && decide (len ≤ h.ctxLen) && (decide (h.ctxLen = len) || h.has flCtxIsAad)
    && p.options &&& (0xFFFF - spec.options) == 0 && p.tpl == spec.creates && (!p.tpl || (templateOk p && spec.templateOk))
    && spec.bodyOk

/-- A context block where one is needed, none where none is taken, and its own checks (R34). -/
def contextOk (spec : JobSpec) (h : Header) (b : Bytes) : Bool :=
  if h.ctxLen = 0 then spec.ctx != 2 else spec.ctx != 0 && blockOk spec h b

/-! ### Admission checks (R41) -/

/-- KEY_HANDLE, AUX_HANDLE and STREAM_ID (R39, R41, R49, R271). -/
def State.handlesOk (s : State) (d : Nat) (spec : JobSpec) (h : Header) : Bool :=
  (spec.key != .null || h.nullKey) && (spec.aux || h.auxHandle == 0) && (h.opcode / 256 == 0x12 || h.streamId == 0) && spec.streamOk
    && (h.opcode != 0x1504 || (h.auxHandle / 2 ^ 26 == 0 && s.qcfg (bits h.auxHandle 25 16) 1 == d))

/-- FLAGS (R28, R38). -/
def flagsOk (spec : JobSpec) (h : Header) : Bool :=
  (h.flags &&& (0xFFFF - (fmask flOwn ||| fmask flFence ||| fmask flIntr ||| spec.flags))) == 0 && spec.flagsOk

/-- A job in more than one chunk (R267). -/
def JobSpec.chunked (spec : JobSpec) : Bool :=
  match spec.dataLen with
  | some n => decide (65536 < n)
  | none => false

/-- Bytes of the domain's staging quota that a job's fetch phase needs: its input where it is of fixed length and longer than
the data window, the host public key of a CM_ENCAPS whatever its length, or the plaintext of a long AEAD decryption (R69, R211, R264). -/
def stagingNeed (spec : JobSpec) (h : Header) (aad window : Nat) : Nat :=
  match spec.plain with
  | some n => if 65536 < n then n else 0
  | none => if spec.chunked || (decide (h.inLen + aad ≤ 1024 * window) && !(h.opcode == 0x0801 && h.nullKey)) then 0 else h.inLen + aad

/-- STAGING_QUOTA of a domain in bytes (R326). -/
def State.stagingQuota (s : State) (d : Nat) : Nat := 1024 * s.cfg (0x2000 + d) 0x0F

/-- An input that exceeds the whole quota (R69); an AEAD decryption then reserves nothing (R264). -/
def State.stagingOk (s : State) (d : Nat) (spec : JobSpec) (need : Nat) : Bool := spec.plain.isSome || decide (need ≤ s.stagingQuota d)

/-- Some unit and every further resource that the operation needs is usable for the domain (R41 check 9; R92, R108, R162,
R213, R223, R274). -/
def State.unitsOk (s : State) (d : Nat) (spec : JobSpec) : Bool :=
  spec.cls == 0
    || (s.anyUsable d spec.cls spec.lo spec.hi
        && (spec.cls2 == 0 || s.anyUsable d spec.cls2 0 (classUnits spec.cls2 - 1))
        && ((!spec.triple && spec.hash != 2) || s.anyUsable d cHawkmoth 0 5)
        && (spec.hash != 1 || s.anyUsable d cHawkmoth 6 11)
        && decide (spec.slices ≤ s.wheel.slices (s.wheel.groupOf d)))

/-- The Muntjac core serves the job in place of an AES lane (R274). -/
def State.byMuntjac (s : State) (d : Nat) (spec : JobSpec) : Bool := spec.muntjac.isSome && !s.unitsOk d spec

/-- Units of entry quota that a creating job takes (R40, R288, R340). -/
def quotaUnits (h : Header) (p : ParamBlock) : Nat := if h.opcode = 0x1005 then 32 else keySpan p.cls p.newPset

/-- The attributes that a template's new entry will carry (R40). -/
def State.templateAttrs (s : State) (d group : Nat) (p : ParamBlock) : Nat := s.newAttrs d group p.cls p.newPset p.attributes false

/-- What the new key of a template adds to the pinned commitment; an envelope names its key only in its input (R296). -/
def State.templateCommit (s : State) (d group : Nat) (h : Header) (p : ParamBlock) : Nat × Nat :=
  if h.opcode = 0x1005 then (0, 0)
  else newCommit p.cls p.newPset (s.templateAttrs d group p) (if p.cls = 5 then bodyLevels p.body else [])

/-- Entry quota, pinned commitment and stream quota (R41 check 10). -/
def State.quotaOk (s : State) (d group : Nat) (spec : JobSpec) (h : Header) (p : ParamBlock) : Bool :=
  (!spec.creates
    || (decide (s.entriesUsed d + quotaUnits h p ≤ s.cfg (0x2000 + d) 0x0D)
        && (h.opcode == 0x1005 || !commits p.cls (s.templateAttrs d group p)
          || decide (s.committed d (s.templateCommit d group h p) ≤ s.expQuota d))))
    && (h.opcode != 0x1201 || (s.stream? d h.streamId).isSome || decide (s.streamsOf d < s.cfg (0x2000 + d) 0x10))

/-- The queue's domain admits jobs (R323, R334). -/
def State.admits (s : State) (d : Nat) : Bool := s.active d || ((s.dom d).dstate == 2 && !(s.dom d).retire)

/-- The status of the first check of R41 that fails for a header of queue `n`, none where all pass. -/
def State.admissionFailure (s : State) (n : Nat) (h : Header) (b : Bytes) : Option Nat :=
  let d := s.qcfg n 1
  let p := if h.ctxLen = 0 then {} else parseBlock b
  if !s.admits d then some stQueueDenied
  else if !h.crcOk || h.hdrVer != 1 || h.reserved != 0 then some stHdrCheck
  else if s.jobs.slots.any (fun x => x.2.queue == n && x.2.hdr.tag == h.tag) then some stTagCollision
  else match specOf (s.viewOf d h s.jobs.nextSeq) d h p with
    | none => some stBadOpcode
    | some spec =>
      if !spec.opcodeOk then some stBadOpcode
      else if !spec.psetOk then some stBadPset
      else if !flagsOk spec h then some stBadFlags
      else if !((spec.inLen.map (fun n => h.inLen == n)).getD true && decide (spec.inMin ≤ h.inLen) && spec.inOk) then some stLengthMismatch
      else if !(spec.limitOk && decide (spec.outNeed ≤ h.outLen)
          && s.stagingOk d spec (stagingNeed spec h (aadLen h p) (s.qcfg n 0xE))) then some stLengthLimit
      else if !(s.handlesOk d spec h && contextOk spec h b && (!spec.creates || !bit p.attributes aHerd || s.mayReplicate)) then
        some stBadContext
      else if !(s.unitsOk d spec || spec.muntjac.isSome) then some stBlockUnusable
      else if !s.quotaOk d (s.qcfg n 3) spec h p then some stQuota
      else none

end Sys2Proof.Machine
end

