-- ==== Sys2Proof/Machine/Admit.lean ====
section
/-! DEFINITION. Phases 1 and 2 of a job: admission, list walks, prefetch, and the end of the fetch phase (R13 to R18, R36,
R54, R55, R60, R67 to R69). -/

namespace Sys2Proof.Machine

open Sys2Proof

/-! ### Windows and staging space (R68, R69, R97, R264) -/

/-- VALID cells of a group in an image, and in the whole image (R97). -/
def validCells (b : Bytes) (g : Nat) : Nat × Nat :=
  (List.range 65536).foldl (fun a k =>
    let c := parseCell (field b (0x400 + 4 * k) 4)
    if c.valid then (a.1 + (if c.group = g then 1 else 0), a.2 + 1) else a) (0, 0)

/-- The share of the data intake buffer of a group, in KiB (R97). Of a group at or above GROUP_COUNT the rule says nothing: under an
image it reads as a group without VALID cells, and under the factory wheel as 0 (DESIGN CHOICE; log 61). -/
def WheelState.dataShare (w : WheelState) (g : Nat) : Nat :=
  match w.image with
  | none => if g = 0 then 16384 else 0
  | some b =>
    let v := validCells b g
    let kib := 256 + (16384 - 256 * w.groupCount) * v.1 / v.2
    kib - kib % 4

/-- Data windows that the jobs of a group hold, in KiB. -/
def State.windowsOf (s : State) (g : Nat) : Nat :=
  s.jobs.slots.foldl (fun a x => if s.wheel.groupOf x.2.domain = g then a + x.2.windowKiB else a) 0

/-- The window of a job, where its group's share has room (R68). -/
def State.takeWindow (s : State) (slot : Nat) : State :=
  match s.job? slot with
  | none => s
  | some j =>
    let g := s.wheel.groupOf j.domain
    let w := s.qcfg j.queue 0xE
    if j.phase ≤ 2 ∧ j.windowKiB = 0 ∧ s.windowsOf g + w ≤ s.wheel.dataShare g then s.setJob slot { j with windowKiB := w } else s

/-- Bytes of staging space that a domain's jobs hold. -/
def State.stagingOf (s : State) (d : Nat) : Nat := s.jobs.slots.foldl (fun a x => if x.2.domain = d then a + x.2.stagingUse else a) 0

/-- Bytes of the staging area in use: those of jobs, and the public keys of expanded Classic McEliece keys (R206, R291, R326). -/
def State.stagingTotal (s : State) : Nat :=
  s.jobs.slots.foldl (fun a x => a + x.2.stagingUse) 0
    + s.vault.expansions.foldl (fun a e => match s.key? e.index with
        | some k => if k.cls = 8 then a + publicLen1 8 k.pset else a
        | none => a) 0

/-- Staging space that a job still needs: none where its plaintext exceeds the whole quota (R264). -/
def State.stagingWant (s : State) (j : Job) : Nat :=
  let need := stagingNeed (s.spec j) j.hdr (aadLen j.hdr j.pb) (s.qcfg j.queue 0xE)
  if j.stagingUse ≠ 0 ∨ s.stagingQuota j.domain < need then 0 else need

/-- The staging space of a job, where its domain's quota has room. -/
def State.takeStaging (s : State) (slot : Nat) : State :=
  match s.job? slot with
  | none => s
  | some j =>
    let need := s.stagingWant j
    if need ≠ 0 ∧ s.stagingOf j.domain + need ≤ s.stagingQuota j.domain ∧ s.stagingTotal + need ≤ 2 ^ 31 then
      s.setJob slot { j with stagingUse := need }
    else s

/-! ### Admission (R14, R15, R55, R67) -/

/-- Slots that a queue takes from those that no queue has reserved: all that its jobs still hold where it is not enabled (R55, R77). -/
def State.sharedUse (s : State) (n : Nat) : Nat :=
  s.inflight n - (if (s.queue n).state = .disabled then 0 else s.qcfg n 0xF)

/-- A job slot is available to a queue (R55). -/
def State.slotFree (s : State) (n : Nat) : Bool :=
  decide (s.inflight n < s.qcfg n 0x10)
    && (decide (s.inflight n < s.qcfg n 0xF)
        || decide ((s.rings.queues.map (·.1)).foldl (fun a m => a + s.sharedUse m) 0
            + s.enabledQueues.foldl (fun a m => a + s.qcfg m 0xF) 0 < 4096))

/-- The lowest free job slot. -/
def State.freeSlot (s : State) : Option Nat := (List.range 4096).find? (fun k => (s.job? k).isNone)

/-- The modes that admit for a domain (R15). -/
def State.admitting (s : State) (d : Nat) : Bool :=
  s.mode.mode == mService || s.mode.mode == mDegraded || (d == 0 && s.mode.mode == mCeremony)

/-- The oldest fetched header of a queue is whole, with its parameter block (R31, R65). -/
def IntakeHeader.ready (e : IntakeHeader) : Bool := !e.reread && (e.hdr.ctxLen == 0 || e.block.isSome || !e.hdr.crcOk)

/-- A queue's next header can be admitted (R15, R67). -/
def State.queueReady (s : State) (n : Nat) : Bool :=
  let q := s.queue n
  q.state == .running && ((q.intake.head?.map IntakeHeader.ready).getD false) && s.admitting (s.qcfg n 1)
    && s.slotFree n && decide (s.inflight n + q.unread < s.ringSize n)

/-- The queue that the round of R14 comes to next. -/
def State.nextQueue (s : State) : Option Nat :=
  let ready := (s.rings.queues.map (·.1)).filter s.queueReady
  match ready.find? (fun n => decide (s.jobs.rotation ≤ n)) with
  | some n => some n
  | none => ready.head?

/-- The job of an admitted header before its checks. -/
def State.freshJob (s : State) (n : Nat) (e : IntakeHeader) : Job :=
  { queue := n, domain := s.qcfg n 1, seq := s.jobs.nextSeq, admitBeat := s.beat, age := s.beat, hdr := e.hdr, policy := s.policyNow,
    pb := if e.hdr.ctxLen = 0 then {} else parseBlock (e.block.getD []), ringIndex := e.index }

/-- A header that fails its checks is completed at once (R14, R41, R82). -/
def State.admitFailed (s : State) (slot n : Nat) (j : Job) (st : Nat) : State :=
  let s1 := s.setJob slot { j with phase := 9, status := some st, endBeat := s.beat }
  if st = stHdrCheck ∨ st = stTagCollision then s1.violation j.domain (some n) (some slot) else s1

/-- The target of an ABORT, if it is in flight (R49): a header whose tag was already taken, or is not to be trusted, is not the
job of its tag. -/
def State.abortTarget (s : State) (h : Header) : Option Nat :=
  (s.slotsWhere (fun j => j.queue == bits h.auxHandle 25 16 && j.hdr.tag == h.auxHandle % 65536
    && j.status != some stTagCollision && j.status != some stHdrCheck)).head?

/-- ABORT takes effect (R45, R49): its target ends under R24, and it is over itself. -/
def State.abortTargetJob (s : State) (slot : Nat) (j : Job) : State :=
  let t := s.abortTarget j.hdr
  let info := ((t.bind s.job?).map (·.phase)).getD 0xFF
  let s1 := match t with | some k => s.meetJob k .abort | none => s
  s1.setJob slot { j with phase := 9, status := some stOk, info := info, endBeat := s.beat, target := t }

/-- ABORT (R49): in the beat of its admission, in which the job stays in phase 1. -/
def execAbort (slot : Fin 4096) (s : State) : Host.Outcome State Fault Refusal :=
  .next (match s.job? slot.val with
    | some j => if j.phase = 1 ∧ j.hdr.opcode = 0x1504 then s.abortTargetJob slot.val j else s
    | none => s)

/-- A header that passes enters the fetch phase: quota is taken, and STREAM_INIT binds its name (R16, R40, R68, R269). -/
def State.admitJob (s : State) (slot : Nat) (j : Job) : State :=
  let spec := s.spec j
  let muntjac := s.byMuntjac j.domain spec
  let j' := { j with cls := if muntjac then 8 else spec.cls, unitLo := spec.lo, unitHi := spec.hi, cls2 := spec.cls2,
                     masked := spec.masked && !muntjac, drbg := spec.drbg,
                     quotaUnits := if spec.creates then quotaUnits j.hdr j.pb else 0,
                     commit := if spec.creates then s.templateCommit j.domain (s.qcfg j.queue 3) j.hdr j.pb else (0, 0),
                     inWalk := Walk.start (j.hdr.has flSgIn) j.hdr.inAddr j.hdr.inLen,
                     outWalk := Walk.start (j.hdr.has flSgOut) j.hdr.outAddr j.hdr.outLen,
                     tasks := if j.sliced then
                         hbsTasks (s.usableGroups j.domain spec.lo spec.hi)
                           (treeLevels j.pb.cls j.pb.newPset (if j.pb.cls = 5 then bodyLevels j.pb.body else []))
                       else [] }
  let s1 := s.setJob slot j'
  let s2 := if j.hdr.opcode = 0x1201 ∧ (s1.stream? j.domain j.hdr.streamId).isNone then
      s1.setStream j.domain j.hdr.streamId (initStream j.hdr j.pb [])
    else s1
  (s2.takeWindow slot).takeStaging slot

/-- Bytes of the input that the chunks run so far have consumed (R267). -/
def State.consumed (s : State) (j : Job) : Nat := if (s.spec j).chunked then 65536 * j.chunk else 0

/-- Bytes that enter the input from a position of its spans on: zero-filled spans supply their own (R36). -/
def placeInput : List Span → Nat → Bytes → Bytes
  | [], _, _ => []
  | sp :: r, pos, data =>
    if sp.len ≤ pos then placeInput r (pos - sp.len) data
    else
      let room := sp.len - pos
      if sp.zero then zeros room ++ placeInput r 0 data
      else data.take room ++ (if room ≤ data.length then placeInput r 0 (data.drop room) else [])

/-- The input with the bytes of a read, and the zero-filled spans that follow, up to a limit within IN_LEN. -/
def Job.feed (j : Job) (limit : Nat) (data : Bytes) : Bytes :=
  (j.input ++ placeInput j.inWalk.spans j.input.length data).take (min limit j.hdr.inLen)

/-- Bytes of the input that must be there for the schedule of chunk `c` (R16, R69, R70). -/
def State.inputNeed (s : State) (j : Job) : Nat :=
  match (s.spec j).dataLen with
  | some n => if 65536 * (j.chunk + 1) < n then 65536 * (j.chunk + 1) else j.hdr.inLen
  | none => j.hdr.inLen

/-- Where the reads of a job in chunks stop: DATA_HIGH bytes beyond what its chunks have consumed, or the end of the chunk that is
next (R68, R70). The input of any other job is read whole (R69). -/
def State.readLimit (s : State) (j : Job) : Nat :=
  if (s.spec j).chunked then max (s.consumed j + 1024 * s.qcfg j.queue 0xE) (s.inputNeed j) else j.hdr.inLen

/-- Reads of input are being issued: since the last stop at DATA_HIGH the unconsumed bytes have fallen below DATA_LOW (R68), or the
chunk that is next is not whole. That second case is for settings under which a chunk would otherwise never be whole, against R70
(DEDUCED; log 55). -/
def State.reads (s : State) (j : Job) : Bool :=
  j.reading || decide (j.input.length < s.consumed j + 1024 * s.qcfg j.queue 0xD) || decide (j.input.length < s.inputNeed j)

/-- A walk ended badly, or found another total than the header declares (R37, R42). -/
def Walk.bad (w : Walk) (declared : Nat) : Bool := w.err != 0 || w.total != declared

/-- The data reads that a job calls for: further input while its reads are being issued, from the first byte that no zero-filled span
supplies, and its associated data behind the body of its parameter block (R32, R36, R68). -/
def State.wantedData (s : State) (slot : Fin 4096) (j : Job) : List (DmaRead × Nat) :=
  let have_ := (j.feed (s.readLimit j) []).length
  if !j.live || j.dmaErr.isSome || j.windowKiB == 0 || !j.inWalk.done || j.inWalk.bad j.hdr.inLen then []
  else (if s.reads j && decide (have_ < s.readLimit j) then [(.data slot false, spanAddr j.inWalk.spans have_)] else [])
    ++ (if j.phase == 2 && decide (j.aad.length < aadLen j.hdr j.pb) then
          [(.data slot true, j.hdr.ctxAddr + (j.hdr.ctxLen - aadLen j.hdr j.pb) + j.aad.length)] else [])

/-- The reads that a job calls for, each with its address (R36, R68). -/
def State.wantedReads (s : State) (slot : Fin 4096) (j : Job) : List (DmaRead × Nat) :=
  (if j.phase == 2 && !j.inWalk.done then [(.entry slot false, j.inWalk.next)] else [])
    ++ (if j.phase == 2 && !j.outWalk.done then [(.entry slot true, j.outWalk.next)] else []) ++ s.wantedData slot j

/-- The reads that a job calls for are issued (R36, R68, R480). -/
def State.askReads (s : State) (slot : Nat) : State :=
  match s.job? slot with
  | some j => if slot < 4096 then s.askAll j.queue (s.wantedReads (Fin.ofNat 4096 slot) j) else s
  | none => s

/-- STAGING_SPACE_FREED (R69). -/
def execStagingSpaceFreed (slot : Fin 4096) (s : State) : Host.Outcome State Fault Refusal :=
  .next (match s.job? slot.val with
    | some j => if j.phase = 2 then ((s.takeWindow slot.val).takeStaging slot.val).askReads slot.val else s
    | none => s)

/-- The host's header is given back with OWN cleared (R60). -/
def State.clearOwn (s : State) (n : Nat) (e : IntakeHeader) : State :=
  if s.canSend (s.qcfg n 1) then s.send (.ownClear n e.index (e.hdr.flags / 256 % 128))
  else s.writeRefused n (s.qcfg n 4 + 64 * e.index + 5)

/-- One header of queue `n` is admitted into a slot (R14, R41). -/
def State.admitHeader (s : State) (n slot : Nat) (e : IntakeHeader) : State :=
  let q := s.queue n
  let j := s.freshJob n e
  let failed := s.admissionFailure n e.hdr (e.block.getD [])
  let s1 := s.setQueue n { q with intake := q.intake.drop 1 }
  let s2 := { s1 with jobs := { s1.jobs with rotation := (n + 1) % 1024, admitted := s1.jobs.admitted + 1,
                                             nextSeq := s1.jobs.nextSeq + 1 } }
  let s3 := match failed with
    | some st => s2.admitFailed slot n j st
    | none => if e.hdr.opcode = 0x1504 then s2.setJob slot { j with phase := 1 } else s2.admitJob slot j
  (s3.clearOwn n e).askReads slot

/-- ADMISSION (R14): the next header of the round, at most 4 in a beat. -/
def execAdmission (s : State) : Host.Outcome State Fault Refusal :=
  .next (if 4 ≤ s.jobs.admitted then s
    else match s.nextQueue, s.freeSlot with
      | some n, some slot =>
        match (s.queue n).intake.head? with
        | some e => s.admitHeader n slot e
        | none => s
      | _, _ => s)

/-! ### The list walks and the prefetch (R16, R36, R68) -/

/-- SG_ENTRY_RETURN (R36). -/
def execSgEntryReturn (slot : Fin 4096) (output : Bool) (entry : Bytes) (s : State) : Host.Outcome State Fault Refusal :=
  .next (match s.job? slot.val with
    | none => s
    | some j =>
      let w := if output then j.outWalk else j.inWalk
      if j.phase ≠ 2 ∨ w.done then s
      else
        let w' := w.hop output j.domain (parseSg entry)
        ((s.closeRetry (.entry slot output)).setJob slot.val
          (if output then { j with outWalk := w' } else { j with inWalk := w' })).askReads slot.val)

/-- Input arrives in the window, up to the limit, where reads stop (R68). -/
def State.takeInput (s : State) (j : Job) (data : Bytes) : Job :=
  if !s.reads j then j
  else
    let input := j.feed (s.readLimit j) data
    { j with input := input, reading := decide (input.length < s.readLimit j) }

/-- INPUT_DATA_RETURN (R31, R68): input or associated data arrives in the window. -/
def execInputDataReturn (slot : Fin 4096) (aad : Bool) (data : Bytes) (s : State) : Host.Outcome State Fault Refusal :=
  let s0 := s.takeWindow slot.val
  .next (match s0.job? slot.val with
    | none => s
    | some j =>
      if !j.live || j.windowKiB = 0 then s0
      else
        ((s0.closeRetry (.data slot aad)).setJob slot.val
          (if aad then { j with aad := (j.aad ++ data).take (aadLen j.hdr j.pb) } else s0.takeInput j data)).askReads slot.val)

/-! ### The probe of the expansion cache (R18, R116, R255, R295, R297) -/

/-- The expanded material that a handle's job uses: the key, and for class 0xD the function of the job. -/
def State.expansionOf (s : State) (j : Job) (handle : Nat) : Option (Nat × Key) :=
  match s.key? (handleIndex handle) with
  | some k =>
    if handle = 0 ∨ handleDomain handle ≠ j.domain ∨ k.state ≠ 1 ∨ k.gen ≠ handleGen handle ∨ handleClass handle ≠ k.cls
        ∨ stateful k.cls ∨ expUnits k.cls k.pset = 0 ∨ (s.spec j).noExp then none
    else some (handleIndex handle, k)
  | none => none

/-- The function whose state a class-0xD key needs for a job (R255). -/
def State.expansionFunc (s : State) (j : Job) : Nat :=
  if j.isStream ∧ j.hdr.opcode ≠ 0x1201 then ((s.stream? j.domain j.hdr.streamId).map (·.pset)).getD j.hdr.pset else j.hdr.pset

/-- The material is in the cache. -/
def State.expansionHit (s : State) (j : Job) (i : Nat) (k : Key) : Bool :=
  match s.expansion? i with
  | some e => k.cls != 13 || e.funcs.contains (s.expansionFunc j)
  | none => false

/-- The handles that staging resolves. -/
def Job.handles (j : Job) : List Nat := if j.hdr.opcode = 0x1504 then [] else [j.hdr.keyHandle, j.hdr.auxHandle]

/-- The first handle of a job whose material is not in the cache. -/
def State.missing (s : State) (j : Job) : Option (Nat × Key) :=
  j.handles.findSome? (fun h => match s.expansionOf j h with
    | some (i, k) => if s.expansionHit j i k then none else some (i, k)
    | none => none)

/-- Counts the hits and misses of the probe (R321). -/
def State.countProbe (s : State) (j : Job) : State :=
  j.handles.foldl (fun a h => match s.expansionOf j h with
    | some (i, k) =>
      if s.expansionHit j i k then { a with vault := { a.vault with expHits := bump 64 a.vault.expHits 1 } }
      else { a with vault := { a.vault with expMisses := bump 64 a.vault.expMisses 1 } }
    | none => a) s

/-- The internal job that expands a key for a waiting job, with its age (R18, R90). -/
def State.expansionJob (s : State) (slot : Nat) (j : Job) (i : Nat) (k : Key) : Job :=
  let u := if k.cls = 13 then symUnits 0x0D04 (s.expansionFunc j) else genClass k.cls k.pset
  { queue := 1024, domain := j.domain, seq := j.seq, admitBeat := s.beat, age := j.age, hdr := { opcode := opExpansion }, phase := 3,
    cls := u.1, unitLo := u.2.1, unitHi := u.2.2, masked := k.state != 2 && genMasksOf k.cls k.pset != 0, fetchEnd := s.beat, keyIndex := some i,
    key := some k, target := some slot, chunk := 0 }

/-- Room for the material can be made, or it is pinned and has its units (R296, R297). -/
def State.canExpand (s : State) (i : Nat) (k : Key) : Bool :=
  k.attr aPin || (s.expansion? i).isSome || s.expRoom k.domain k.units

/-- An expansion run is inserted for the first material that a job misses; where no room can be made, none is, and the
job's staging will end it (R18, R297). -/
def State.probe (s : State) (slot : Nat) : State :=
  match s.job? slot with
  | none => s
  | some j =>
    match s.missing j with
    | none => s
    | some (i, k) =>
      if s.canExpand i k then s.setJob (4096 + slot) (s.expansionJob slot j i k)
      else s.setJob slot { j with noRoom := true }

/-! ### The end of the fetch phase (R16, R86) -/

/-- The list walks have ended, and what the first schedule needs is there, or a bus error ends the wait for it: that error is
reported in staging (R16, R24, R36). -/
def State.fetched (s : State) (j : Job) : Bool :=
  j.dmaErr.isSome
    || (j.inWalk.done && j.outWalk.done && j.windowKiB != 0 && s.stagingWant j == 0
        && (j.inWalk.bad j.hdr.inLen || j.outWalk.bad j.hdr.outLen
            || (decide (s.inputNeed j ≤ j.input.length) && decide (aadLen j.hdr j.pb ≤ j.aad.length))))

/-- FETCH_END (R16, R18, R86, R313). -/
def execFetchEnd (slot : Fin 4096) (s : State) : Host.Outcome State Fault Refusal :=
  let s0 := ((s.takeWindow slot.val).takeStaging slot.val).onJob slot.val (fun j => s.takeInput j [])
  .next (match s0.job? slot.val with
    | none => s
    | some j =>
      if j.phase ≠ 2 ∨ !s0.fetched j then s
      else
        let s1 := s0.setJob slot.val { j with phase := 3, fetchEnd := s.beat }
        let s2 := if j.hdr.opcode / 256 = 0x13 then s1.request maCommit slot.val else s1
        (s2.countProbe j).probe slot.val)

end Sys2Proof.Machine
end

