-- ==== Sys2Proof/Machine/Tamper.lean ====
section
/-! DEFINITION. The always-on domain and the detectors: meshes, sense inputs, supplies, fuses, the responses while the main
die is off, and forced events (14, R409). -/

namespace Sys2Proof.Machine

open Sys2Proof

/-! ### Alarms (R394, R395) -/

/-- An AO copy of a numeric entry (R378, R403). -/
def State.aoCfg (s : State) (idx sub : Nat) : Int := (tget s.ao.config (entryKey idx sub)).getD (dfltOf idx sub)

/-- AO_CONFIG: the AO copies of R403 in the order of their entries, little-endian, then zeros (R378; log 65). -/
def State.aoConfig (s : State) : Bytes :=
  let num := fun (idx sub n : Nat) => leBytes n ((s.aoCfg idx sub) % 2 ^ (8 * n)).toNat
  fit 28 (num 0x6000 1 2 ++ num 0x6000 7 2 ++ num 0x6000 9 4 ++ num 0x6000 10 1
    ++ (List.range 4).flatMap (fun i => num (0x6020 + i) 1 1 ++ num (0x6020 + i) 2 1 ++ num (0x6020 + i) 3 1))

/-- The battery-backed RAM before CHECK (R378). -/
def State.aoRamHead (s : State) : Bytes :=
  fit 48 s.ao.rootSeed ++ leBytes 4 s.ao.rootGen ++ fit 48 s.ao.nextSeed ++ leBytes 4 s.ao.nextGen ++ fit 32 s.ao.logKey
    ++ fit 32 s.ao.patternKey ++ leBytes 8 s.ao.patternCtr ++ [u8 (flag s.ao.intruded + 2 * flag s.ao.erasedOff), 0#8, 0#8, 0#8]
    ++ leBytes 4 s.ao.eraseMap ++ s.aoConfig ++ leBytes 4 s.ao.logSeq

/-- The 2 KiB of the battery-backed RAM. CHECK follows every change of what lies before it (R378, R380, R392). -/
def State.aoRam (s : State) : Bytes :=
  s.aoRamHead ++ leBytes 4 (crc32 s.aoRamHead ^^^ s.ao.checkErr) ++ zeros 1828

/-- The AO domain acts alone on an alarm: the erase map decides, and the entry is sealed (R394, R395, R398). -/
def State.aoAlone (s : State) (src : Nat) : State :=
  if bit s.ao.eraseMap src then s.eraseSeed.aoLog src 3 else s.aoLog src 0

/-- An alarm of a source: it alarms and logs again only after the next device reset (R395). -/
def State.alarm (s : State) (src : Nat) (n : Named := {}) : State :=
  if s.ao.alarmed.contains src then s
  else
    let s1 := { s with ao := { s.ao with alarmed := insertNat s.ao.alarmed src } }
    if s1.mainOn then s1.raise src n else s1.aoAlone src

/-- A board-facing source is monitored: armed, not fused, not being fused (R389, R390). -/
def State.monitored (s : State) (src : Nat) : Bool :=
  s.isArmed src && !s.isFused src && (match armBit src with | some b => !bit s.ao.unmonitored b | none => true)

/-! ### Meshes (R384, R385) -/

/-- The seed of a line's pattern: the first 16 bits of AES-256 of the period and the line (R384; log 65). -/
def State.lineSeed (s : State) (line : Nat) : Nat :=
  field (aesBlock s.ao.patternKey (ascii "QMSH".toList ++ leBytes 8 s.ao.patternCtr ++ leBytes 4 line)) 0 2

/-- The sequence of x^16 + x^14 + x^13 + x^11 + 1: the next state. -/
def lfsrNext (v : Nat) : Nat :=
  let b := xor (xor (v.testBit 0) (v.testBit 2)) (xor (v.testBit 3) (v.testBit 5))
  v / 2 + 32768 * flag b

/-- The mesh of a line: two lines each of MESH_A to MESH_D, then four of MESH_PKG. -/
def lineMesh (line : Nat) : Nat := if line < 8 then line / 2 else 4

/-- The twelve lines' states, drawn anew at the start of a period. -/
def State.lineStates (s : State) : List Nat :=
  if s.ao.lines.length = 12 then s.ao.lines else (List.range 12).map s.lineSeed

/-- A line's two samples differ from the pattern bit and its complement. -/
def lineBad (v : Nat) (sample : Bool × Bool) : Bool := sample.1 != v.testBit 0 || sample.2 == v.testBit 0

/-- A mesh. -/
def State.mesh (s : State) (m : Nat) : Mesh := (tget s.ao.meshes m).getD {}

/-- One step of a mesh. -/
def Mesh.after (x : Mesh) (bad : Bool) (sec : Nat) : Mesh where
  consecutive := if bad then x.consecutive + 1 else 0
  history := (2 * x.history + flag bad) % 2 ^ 64
  mismatches := if bad then bump 32 x.mismatches 1 else x.mismatches
  lastMismatch := if bad then sec else x.lastMismatch

/-- Muntjac computes each AES block twice; where the two results for the patterns of a period that begins differ, MUNTJAC_COMPARE is
raised (R384, R402; DEDUCED; log 74). -/
def State.drawPatterns (s : State) (differ : Bool) : State :=
  if differ && s.ao.lines.length != 12 then s.alarm 0x13 else s

/-- A step of every mesh, with the two samples of each line (R384). -/
def State.meshStep (s : State) (samples : List (Bool × Bool)) : State :=
  let st := s.lineStates
  let bad := fun (m : Nat) => (List.range 12).any (fun l => lineMesh l == m && lineBad (st.getD l 0) (samples.getD l (false, false)))
  let meshes := (List.range 5).foldl (fun t m => tput t m ((s.mesh m).after (bad m) s.calSec)) s.ao.meshes
  let wrap := decide (65534 ≤ s.ao.lineStep)
  { s with ao := { s.ao with meshes := meshes, lines := if wrap then [] else st.map lfsrNext,
                             lineStep := if wrap then 0 else s.ao.lineStep + 1,
                             patternCtr := if wrap then s.ao.patternCtr + 1 else s.ao.patternCtr } }

/-- MESH_STEP (R384, R402): the samples of the lines, and whether the two computations of the seeds, where a period begins, differ. -/
def execMeshStep (samples : List (Bool × Bool) × Bool) (s : State) : Host.Outcome State Fault Refusal :=
  .next ((s.drawPatterns samples.2).meshStep samples.1)

/-- MESH_ALARM (R385): MESH_MISMATCH_LIMIT steps in a row mismatched. -/
def execMeshAlarm (mesh : Fin 5) (s : State) : Host.Outcome State Fault Refusal :=
  .next (if s.monitored mesh.val && decide (s.aoCfg 0x6000 10 ≤ (s.mesh mesh.val).consecutive) then s.alarm mesh.val else s)

/-! ### Sense inputs and ZEROISE_IN (R386 to R388) -/

/-- A sense input. -/
def State.sense (s : State) (i : Nat) : Sense := (tget s.ao.senses i).getD {}

/-- Sets a sense input. -/
def State.setSense (s : State) (i : Nat) (x : Sense) : State := { s with ao := { s.ao with senses := tput s.ao.senses i x } }

/-- The sampling period in 1/32,768 s (R379, R386). -/
def State.samplePeriod (s : State) : Nat := if s.mainOn then 1 else 32

/-- Sum of the current bin and the seven before it. -/
def Sense.sum (x : Sense) : Nat := (x.bins.take 8).foldl (· + ·) 0

/-- A sample of a sense input (R386, R387): the run, the count of transitions, and SENSE_CHATTER once the sum exceeds its
limit. -/
def State.senseSample (s : State) (i : Nat) (level : Bool) : State :=
  let x := s.sense i
  let active := level == (s.aoCfg (0x6020 + i) 1 == 1)
  let change := active != x.level
  let count := change && s.monitored (5 + i)
  let bins := if count then (x.bins.headD 0 + 1) :: x.bins.drop 1 else x.bins
  let y := { x with level := active, transitions := if change then bump 32 x.transitions 1 else x.transitions, bins := bins,
                    runTime := if active then some (match x.runTime with | some t => t + s.samplePeriod | none => 0) else none }
  let beyond := decide (s.aoCfg (0x6020 + i) 3 < y.sum)
  let s1 := s.setSense i { y with beyond := beyond }
  if beyond && !x.beyond && s.monitored 9 then s1.alarm 9 { detail := i } else s1

/-- A sample of ZEROISE_IN, active low (R388). -/
def State.zeroiseSample (s : State) (level : Bool) : State :=
  { s with ao := { s.ao with zeroRun := if level then 0 else s.ao.zeroRun + 1 } }

/-- A sampling period passes in the second under way. The samples of SENSE_A tell the calendar's fraction, since no command is a count of
its crystal; the drift between it and the AO oscillator is left out (R378, R386, R398; DESIGN CHOICE; log 74). -/
def State.passPeriod (s : State) : State :=
  if s.dict.calValid then { s with dict := { s.dict with calTicks := s.dict.calTicks + s.samplePeriod } } else s

/-- SENSE_SAMPLE (R386, R388): inputs 0 to 3 are SENSE_A to SENSE_D, 4 is ZEROISE_IN. -/
def execSenseSample (input : Fin 5) (level : Bool) (s : State) : Host.Outcome State Fault Refusal :=
  .next (if input.val = 0 then s.passPeriod.senseSample 0 level
    else if input.val < 4 then s.senseSample input.val level else s.zeroiseSample level)

/-- SENSE_ALARM (R386): an armed input has been active for SENSE_DEBOUNCE. -/
def execSenseAlarm (input : Fin 4) (s : State) : Host.Outcome State Fault Refusal :=
  .next (match (s.sense input.val).runTime with
    | some t =>
      if s.monitored (5 + input.val) && decide (32768 * s.aoCfg (0x6020 + input.val) 2 ≤ 1000 * t) then s.alarm (5 + input.val) else s
    | none => s)

/-- CHATTER_BIN_ROLL (R387): a new bin begins for every input, and the oldest of eight is dropped. -/
def execChatterBinRoll (s : State) : Host.Outcome State Fault Refusal :=
  .next ((List.range 4).foldl (fun a i => a.setSense i { a.sense i with bins := (0 :: (a.sense i).bins).take 8 }) s)

/-- ZEROISE_REQUEST (R388): three consecutive active samples. -/
def execZeroiseRequest (s : State) : Host.Outcome State Fault Refusal :=
  .next (if s.monitored 0x0A && decide (3 ≤ s.ao.zeroRun) then s.alarm 0x0A else s)

/-! ### Main-die detectors (R391, R392) -/

/-- A detector's reading is beyond its limit: voltages in mV, the shortest cycle in ps, cycles per REFCLK period in
hundredths, temperatures in 0.1 °C, photodiodes as a mask, mismatching shield lines or their resistance in per cent of that
at start. -/
def State.detectorFires (s : State) (k : Nat) (r : Int) : Bool :=
  match k with
  | 0 | 1 => decide (r < 600)
  | 2 | 3 => decide (920 < r)
  | 4 => decide (r < 750)
  | 5 => decide (r < 980) || decide (1020 < r)
  | 6 | 7 => decide (s.cfgI 0x6030 1 < r)
  | 8 | 9 => decide (r < s.cfgI 0x6030 2)
  | 10 | 11 => decide (0 < r) && decide (r < 256)
  | 12 => decide (0 < r)
  | 13 => decide (r < 80) || decide (120 < r)
  | _ => decide (r < 700) || decide (920 < r)

/-- What a detector's reading leaves in the entries of 0x6030 and in the level monitors' quantities (R403, R467). -/
def State.noteReading (s : State) (k : Nat) (r : Int) : State :=
  match k with
  | 0 | 1 | 2 | 3 => { s with ao := { s.ao with vcoreMv := r.toNat } }
  | 4 => { s with ao := { s.ao with glitchMargin := min s.ao.glitchMargin (r - 750).toNat } }
  | 6 | 8 => { s with ao := { s.ao with dieTempA := r } }
  | 7 | 9 => { s with ao := { s.ao with dieTempB := r } }
  | 10 | 11 => { s with ao := { s.ao with lightLast := r.toNat % 256 } }
  | 14 | 15 => { s with ao := { s.ao with vsramMv := r.toNat } }
  | _ => s

/-- DETECTOR_ALARM (R391, R392): detector `k` is source 0x20 + k. -/
def execDetectorAlarm (detector : Fin 16) (reading : Int) (s : State) : Host.Outcome State Fault Refusal :=
  .next (if s.mainOn && s.detectorFires detector.val reading then
      (s.noteReading detector.val reading).alarm (0x20 + detector.val) { detail := reading.toNat }
    else s)

/-! ### AO temperature, supplies and the crystal (R379, R383, R402) -/

/-- AO_TEMP_ALARM (R402): a reading in 0.1 °C below AO_TEMP_LOW or above 125 °C. -/
def execAoTempAlarm (temp : Int) (s : State) : Host.Outcome State Fault Refusal :=
  let s1 := { s with ao := { s.ao with aoTemp := temp } }
  .next (if temp < s.aoCfg 0x6000 9 then s1.alarm 0x0B else if 1250 < temp then s1.alarm 0x0C else s1)

/-- VBAT_LOW (R383): a reading of VBAT in mV. The source is raised once for each fall below VBAT_LOW_MV, which goes before the one alarm
of a source between resets that R395 allows (DEDUCED; log 74). -/
def execVbatLow (mv : BitVec 16) (s : State) : Host.Outcome State Fault Refusal :=
  let low := decide ((mv.toNat : Int) < s.aoCfg 0x6000 7)
  let s1 := { s with ao := { s.ao with vbatMv := mv.toNat, vbatLow := low } }
  .next (if low && !s.ao.vbatLow then (if s1.mainOn then s1.raise 0x0D else s1.aoAlone 0x0D) else s1)

/-- The contents were lost with VBAT: CHECK no longer fits them, by a free amount (R381, log 4). -/
def State.loseCheck (s : State) : State :=
  let (k, s1) := s.draw
  { s1 with ao := { s1.ao with checkErr := 1 + Config.free k % (2 ^ 32 - 1) } }

/-- VBAT is gone while VAO_MAIN is: the AO domain loses the battery-backed RAM and the Lockdown hold (R381, R440). The spec states no
voltage at which they go; the model takes a reading of 0 mV (DESIGN CHOICE; log 74). -/
def State.loseAo (s : State) : State :=
  if s.ao.supplyVbat && s.ao.vbatMv == 0 then { s.loseCheck with mode := { s.mode with lockdownHold := false } } else s

/-- VBAT_FAIL (R383, R440): a reading of VBAT below 2.50 V, while the main die is off. -/
def execVbatFail (mv : BitVec 16) (s : State) : Host.Outcome State Fault Refusal :=
  .next (if s.mainOn || decide (2500 ≤ mv.toNat) then s
    else (({ s with ao := { s.ao with vbatMv := mv.toNat } }).alarm 0x0E).loseAo)

/-- The calendar is no longer valid, and its count returns to 0 (R469). -/
def State.clearCalendar (s : State) : State :=
  { s with dict := { s.dict with calValid := false, calSeconds := 0, calFrac := 0 } }

/-- AO_CLOCK (R402, R469): the crystal stops, and the calendar becomes invalid. -/
def execAoClock (s : State) : Host.Outcome State Fault Refusal :=
  .next (s.clearCalendar.alarm 0x0F)

/-- AO_SUPPLY_SWITCH (R379). -/
def execAoSupplySwitch (s : State) : Host.Outcome State Fault Refusal :=
  .next { s with ao := { s.ao with supplyVbat := true } }

/-- AO_SUPPLY_RETURN (R379). -/
def execAoSupplyReturn (s : State) : Host.Outcome State Fault Refusal :=
  .next { s with ao := { s.ao with supplyVbat := false } }

/-! ### Fuses (R390) -/

/-- The sources of a FUSE_MASK stop being monitored, and their fuses are to burn in bit order (R390). -/
def State.beginFuse (s : State) (mask : Nat) : State :=
  { s with ao := { s.ao with unmonitored := s.ao.unmonitored ||| mask,
                             burning := s.ao.burning ++ (bitList 9 mask).filter (fun b => !s.ao.burning.contains b),
                             burnAt := if s.ao.burning.isEmpty then s.beat else s.ao.burnAt } }

/-- FUSE_BURN_STEP (R390): a burn of 100 µs ends, or fails. -/
def execFuseBurnStep (ok : Bool) (s : State) : Host.Outcome State Fault Refusal :=
  match s.ao.burning with
  | [] => .next s
  | b :: r =>
    .next (if s.beat < s.ao.burnAt + 782 then s
      else
        let s1 := { s with ao := { s.ao with burning := r, burnAt := s.beat } }
        if ok then ({ s1 with ao := { s1.ao with fused := setBit s1.ao.fused b } }).writeEraseMap
        else s1.raise 0x14 { detail := b })

/-! ### The Lockdown hold and forced events (R409, R440) -/

/-- LOCKDOWN_HOLD_CLEAR (R440): the core rails have stayed below 0.1 V for 10 ms. -/
def execLockdownHoldClear (s : State) : Host.Outcome State Fault Refusal :=
  .next (if s.mode.mode = mDormant then { s with mode := { s.mode with lockdownHold := false } } else s)

/-- The sources that alarm once between device resets (R395): those that the AO domain senses, but VBAT_LOW (R383), and the detectors of
the main die. -/
def alarmSource (src : Nat) : Bool :=
  (decide (src ≤ 0x0F) && src != 0x0D) || src == 0x13 || (decide (0x20 ≤ src) && decide (src ≤ 0x2F))

/-- A forced event of a source: one of its events in every respect (R409). -/
def State.forced (s : State) (src : Nat) : State :=
  if alarmSource src then s.alarm src { forced := true } else s.raise src { forced := true }

/-- A source that can be forced: neither reserved nor fused. -/
def State.forceable (s : State) (src : Nat) : Bool := faultDefined src && !s.isFused src

/-- A write of FORCE, none where it is refused (R409). -/
def State.force (s : State) (src : Nat) : Option State :=
  if s.forceable src && decide (s.classOf src ≤ 3) then some (s.forced src) else none

/-- FORCE: a write of domain 0. -/
def execForce (source : Fin 192) (s : State) : Host.Outcome State Fault Refusal :=
  .next (if s.writable then (s.force source.val).getD s else s)

end Sys2Proof.Machine
end

