-- ==== Sys2Proof/Machine/SelfTest.lean ====
section
/-! DEFINITION. Steps 1 to 7 of the start: records, self-tests, the records of the AO domain and control-store patches
(R324, R345, R380, R381, R397 to R400, R414 to R428, R441). -/

namespace Sys2Proof.Machine

open Sys2Proof

/-- The beat at which the present step of R441 began: the end of the step before it. -/
def State.stepStart (s : State) : Nat := countOf s.mode.startupBeats (s.mode.step - 1)

/-- The step of R441 under way is `n`, its beats have passed, and PWR_FAIL_N has not stopped the sequence (R448). -/
def State.stepDue (s : State) (m n beats : Nat) : Bool :=
  s.mode.mode == m && s.mode.step == n && !s.mode.stopped && decide (s.stepStart + beats ≤ s.beat)

/-! ### Clearing (R319, R347) -/

/-- The vault is emptied (R319), and with it a registration as owner attestation key (R349). -/
def State.emptyVault (s : State) : State :=
  { s with sec := { s.sec with attestKey := 0, attestHash := zeros 32 },
           vault := { lineKey := s.vault.lineKey, rotations := s.vault.rotations, commits := s.vault.commits,
                      journal := s.vault.journal, trainedTemp := s.vault.trainedTemp } }

/-- Zeros are written over every journal slot (R319). -/
def State.zeroJournal (s : State) : State := { s with vault := { s.vault with journal := [] } }

/-- Every tenant domain becomes unused, with its slots emptied; counters are kept (R347). -/
def State.clearTenants (s : State) : State :=
  ((List.range 256).drop 1).foldl (fun a d =>
    let r := a.dom d
    if r.dstate = 0 ∧ r.officers = [] ∧ r.authorities = [] then a
    else a.writeDom d { r with dstate := 0, retire := false, officers := [], authorities := [], quorumM := 0, importKey := 0 }) s

/-- What follows the completion of an order that changes the life cycle, before the device enters Reset (R347). Every epoch advances with
the new root seed, and in SCRAPPED, which gets none, here. -/
def State.clearLc (s : State) : State :=
  let s0 := (s.emptyVault.zeroJournal).clearTenants
  let s1 := if s.lcState = 5 then s0.advanceAll else s0
  { s1 with sec := { s1.sec with seedDue := s.lcState != 5, zeroDue := true, lcOrder := none } }

/-! ### Step 1 (R324, R345, R380, R381) -/

/-- A seed left in NEXT_SEED is promoted, or discarded (R380). -/
def State.promoteSeed (s : State) : State :=
  if s.ao.nextGen = 0 then s
  else if s.ao.nextGen = s.seedGen then
    { s with ao := { s.ao with rootSeed := s.ao.nextSeed, rootGen := s.ao.nextGen, nextSeed := zeros 48, nextGen := 0 } }
  else { s with ao := { s.ao with nextSeed := zeros 48, nextGen := 0 } }

/-- The battery-backed RAM is valid (R381). -/
def State.ramValid (s : State) : Bool := s.ao.checkErr == 0 && s.ao.rootGen == s.seedGen

/-- Battery-backed RAM and log RAM that were lost are zeroed, and new keys and a new seed are called for, no seed in SCRAPPED;
the calendar is no longer valid (R381, R469). -/
def State.loseRam (s0 : State) : State :=
  let s := s0.clearCalendar
  { s with ao := { s.ao with rootSeed := zeros 48, rootGen := 0, nextSeed := zeros 48, nextGen := 0, logKey := zeros 32,
                             patternKey := zeros 32, patternCtr := 0, intruded := false, erasedOff := false, eraseMap := 0,
                             config := [], checkErr := 0, log := [], logSeq := 0, logCopied := 0, lines := [], lineStep := 0 },
           settings := s.settings.filter (fun x => !aoCopied (x.1 / 256) (x.1 % 256)),
           sec := { s.sec with ramLost := true, keysDue := true, seedDue := s.lcState != 5 } }

/-- Copies of a domain's record fail their check (R324): the other copy serves, with what it last took. Where both fail, a tenant's slots
are empty and the domain is unused; its counters, which are never reset (R329, R341), stay as they stood (DESIGN CHOICE; log 63). -/
def State.domainBad (s : State) (d : Nat) (bad0 bad1 : Bool) : State :=
  let r := s.dom d
  let c := s.domCopies d
  if bad0 && bad1 then
    if d = 0 then s.raiseAt 0x95 4 { detail := d }
    else (s.setDom d { r with dstate := 0, retire := false, officers := [], authorities := [], quorumM := 0, importKey := 0 }).raise
      0x95 { detail := d }
  else
    let s1 := if (if c.current = 0 then bad0 else bad1) then
        { s with sec := { s.sec with copies := tput s.sec.copies d (c.fallBack r) } }.setDom d c.other
      else s
    if bad0 || bad1 then s1.raise 0x95 { detail := d } else s1

/-- The life-cycle record is read: a bad current copy leaves the other to serve (R345). -/
def State.readLc (s : State) (bad0 bad1 : Bool) : State :=
  let c := s.sec.lcCopies
  if !(bad0 && bad1) && (if c.current = 0 then bad0 else bad1) then
    { s with lcState := c.other.1, lcSeq := c.other.2.1, seedGen := c.other.2.2,
             sec := { s.sec with lcCopies := { c.fallBack (s.lcState, s.lcSeq, s.seedGen) with seq := c.other.2.1 } } }
  else s

/-- IMPORT_COUNTER of every domain takes IMPORT_CEIL at a start (R341). -/
def State.startImports (s : State) : State :=
  { s with domains := s.domains.map (fun x => (x.1, { x.2 with importCounter := x.2.importCeil })) }

/-- RESET_RECORDS_READ (R441 step 1): `ramLost` says that CHECK is not correct, `bad` names the domain records of which a copy is bad,
with the copies that are; `lcBad` names the bad copies of the life-cycle record, and besides a read of MRAM that was corrected (1) or
could not be (2), which raises MRAM_CE or MRAM_UE (R407). VSEL drives the fused code from here on (R520). -/
def execResetRecordsRead (ramLost : Bool) (bad : List (Fin 256 × Bool × Bool)) (lcBad : (Bool × Bool) × Fin 3) (s : State) :
    Host.Outcome State Fault Refusal :=
  .next (if !s.stepDue mReset 1 7813 then s
    else
      let s0 := s.readLc lcBad.1.1 lcBad.1.2
      let s1 := (if ramLost then s0.loseCheck else s0).promoteSeed
      let s2 := if s1.ramValid then s1 else s1.loseRam
      let s3 := if s2.ao.intruded ∧ s2.lcState ≠ 5 then { s2 with sec := { s2.sec with seedDue := true } } else s2
      let s4 := (({ s3 with mode := { s3.mode with vsel := Config.vselCode.val } }).stepDone 1 |>.changeMode mSelfTest).writeEraseMap
      let s5 := (bad.foldl (fun a x => a.domainBad x.1.val x.2.1 x.2.2) s4).startImports
      let s6 := if lcBad.2 = 1 then s5.raise 0x46 else if lcBad.2 = 2 then s5.raise 0x47 else s5
      if lcBad.1.1 && lcBad.1.2 then s6.raise 0x96 else s6)

/-! ### BIST and known-answer tests (R414, R416, R417) -/

/-- A partition fails at start: its units are marked unusable, or, for a singular one, the device goes to Lockdown (R416). -/
def State.startFails (s : State) (p : Nat) : State :=
  let s1 := { s with selfTest := { s.selfTest with startupFails := setBit s.selfTest.startupFails p } }
  if p < 42 then s1.failPartition p 0xB1 else s1.raise 0xB2 { detail := p }

/-- Every failed partition of a test. -/
def State.startFailures (s : State) (failed : List (Fin 52)) : State := failed.foldl (fun a p => a.startFails p.val) s

/-- MEMORY_BIST_END (R416, R441 step 2). -/
def execMemoryBistEnd (failed : List (Fin 52)) (s : State) : Host.Outcome State Fault Refusal :=
  .next (if s.stepDue mSelfTest 2 117188 then (s.stepDone 2).startFailures failed else s)

/-- The units that a partition holds, the key units in 44 and the ChaCha20-Poly1305 and Ascon lanes in 50 (R414). -/
def testedUnits (p : Nat) : List (Nat × Nat) :=
  if p = 44 then (List.range 8).map (fun i => (7, i))
  else if p = 50 then (List.range 4).map (fun i => (6, 4 + i))
  else partitionUnits p

/-- The units of the partitions that have passed every test of this start have ended a passed test (R417, R432). -/
def State.notePasses (s : State) : State :=
  ((List.range 52).filter (fun p => !bit s.selfTest.startupFails p)).foldl (fun a p =>
    (testedUnits p).foldl (fun b x => b.setUnit x.1 x.2 { b.unit x.1 x.2 with lastTest := s.beat }) a) s

/-- LOGIC_BIST_END (R416, R441 step 3): the entropy start-up begins. -/
def execLogicBistEnd (failed : List (Fin 52)) (s : State) : Host.Outcome State Fault Refusal :=
  .next (if s.stepDue mSelfTest 3 312500 then ((s.stepDone 3).beginEntropy false).startFailures failed else s)

/-- KNOWN_ANSWER_TESTS_END (R391, R417, R441 step 6): the Patch window opens. `detectorBad` names the detectors, of the 16 of R391, whose
injection path has failed. -/
def execKnownAnswerTestsEnd (failed : List (Fin 52)) (detectorBad : List (Fin 16)) (s : State) : Host.Outcome State Fault Refusal :=
  .next (if !s.stepDue mSelfTest 6 15625 then s
    else
      let s1 := ((s.stepDone 6).startFailures failed).notePasses
      let s2 := (List.finRange 16).foldl (fun a k =>
        a.noteInjections (if detectorBad.contains k then 0 else 1) (detectorBad.contains k) k.val) s1
      if s2.mode.mode = mSelfTest then
        ({ s2 with mode := { s2.mode with windowBeat := s.beat } }).changeMode mPatch
      else s2)

/-! ### Step 5 (R381, R397, R400) -/

/-- The life cycle becomes INTRUDED, and what R347 clears is cleared (R346, R397); SCRAPPED stays, with its vault emptied and its journal
zeroed (R319). -/
def State.intrude (s : State) : State :=
  if s.lcState = 5 then s.emptyVault.zeroJournal
  else (((s.writeLc 6 s.seedGen).emptyVault).zeroJournal).clearTenants

/-- The chain of tags over the entries held (R399, R400). -/
def chainOk (key : Bytes) : Bytes → List (Nat × Bytes) → Bool
  | _, [] => true
  | prev, (n, e) :: r =>
    slice e 12 4 == primOut .cmac [key, e.take 12 ++ leBytes 4 n ++ prev] 4 && chainOk key (slice e 12 4) r

/-- The tag before the oldest entry held: zero before the first, and unknown once the ring has wrapped. -/
def State.chainHolds (s : State) : Bool :=
  match s.ao.log with
  | [] => true
  | (n, e) :: r => if n = 1 then chainOk s.ao.logKey (zeros 4) ((n, e) :: r) else chainOk s.ao.logKey (slice e 12 4) r

/-- An entry of the AO log is copied into the fault record logs, marked REPLAYED, with its calendar time; the response of its
class is not applied a second time, and ALARM_OUT stays (R400, R401). -/
def State.replay (s : State) (e : Bytes) : State :=
  let src := byteAt e 8
  let s1 := s.logFault src (s.classOf src) { forced := bit (byteAt e 9) 2, replayed := true, time := some (field e 0 6) }
  { s1 with fault := { s1.fault with alarmOut := s.fault.alarmOut } }

/-- Entries above AO_LOG_COPIED are copied (R400). -/
def State.copyLog (s : State) : State :=
  let new := s.ao.log.filter (fun x => decide (s.ao.logCopied < x.1))
  let s1 := new.foldl (fun a x => a.replay x.2) s
  { s1 with ao := { s1.ao with logCopied := s.ao.logSeq } }

/-- A lost battery-backed RAM counts as an intrusion erase in OWNED and DECOMMISSIONED (R381). -/
def State.lossIntrudes (s : State) : Bool := s.sec.ramLost && (s.lcState == 3 || s.lcState == 4)

/-- Length of step 5, with 32,768 beats more after an intrusion or a life-cycle change (R441). The zeroing that R319 asks for after a loss
that is no intrusion adds none, since R441 gives it no beats (DEDUCED; log 72). -/
def State.step5Beats (s : State) : Nat := if s.ao.intruded || s.lossIntrudes || s.sec.zeroDue then 1563 + 32768 else 1563

/-- The actions of R381 and R397. -/
def State.intrusions (s : State) : State :=
  let s1 := if s.sec.ramLost then
      let a := if s.lossIntrudes then s.intrude else s.emptyVault.zeroJournal
      ({ a with sec := { a.sec with ramLost := false } }).raise 0x10
    else s
  let s2 := if s1.ao.intruded then
      let a := s1.intrude
      ({ a with ao := { a.ao with intruded := false, erasedOff := false } }).raise 0x11
    else s1
  if s2.sec.zeroDue then ({ s2 with sec := { s2.sec with zeroDue := false } }).zeroJournal else s2

/-- AO_RECORDS_STEP_END (R441 step 5). -/
def execAoRecordsStepEnd (s : State) : Host.Outcome State Fault Refusal :=
  .next (if !s.stepDue mSelfTest 5 s.step5Beats then s
    else
      let ok := s.chainHolds
      let s1 := (s.stepDone 5).intrusions
      let s2 := { s1 with ao := { s1.ao with logChain := ok } }
      (if ok then s2 else s2.raise 0x12).copyLog)

/-! ### Patches (R422 to R428) -/

/-- Check 1 of R424. -/
def patchFormat (b : Bytes) : Bool :=
  let n := field b 16 4
  decide (64 ≤ b.length) && field b 0 4 == 0x48435051 && byteAt b 4 == 1 && byteAt b 5 == 9 && field b 6 2 == 0
    && field b 8 4 != 0 && decide (8 ≤ n) && decide (n ≤ 179256) && b.length == 64 + n + 4723 && !bit (byteAt b 20) 7
    && field b 21 3 == 0 && field b 36 4 == 0 && allZero (slice b 56 8)

/-- Check 2: both signatures over SHA3-512 of header and ciphertext, under the Ronlith key. -/
def patchSigned (b : Bytes) : Bool :=
  let n := field b 16 4
  let d := primOut .digest [[9#8], b.take (64 + n)] 64
  let pk := (List.range 2592).map Config.patchPkPq
  let sigCl := slice b (64 + n + 4627) 96
  dsaVerifies 3 pk (dsaMu pk ([0#8, 5#8] ++ ascii "QPCH1".toList ++ d)) (slice b (64 + n) 4627)
    && ecdsaRange 2 sigCl && ecdsaVerifies 2 ((List.range 97).map Config.patchPkCl) (primOut .digest [[2#8], d] 48) sigCl

/-- The family patch key. -/
def patchKeyBytes : Bytes := (List.range 32).map Config.patchKey

/-- Check 5: the GCM tag. -/
def patchTagOk (b : Bytes) : Bool :=
  primOut .gcmTag [patchKeyBytes, slice b 24 12, b.take 40, slice b 64 (field b 16 4)] 16 == slice b 40 16

/-- The plaintext body. -/
def patchBody (b : Bytes) : Bytes :=
  gcmCipher patchKeyBytes (slice b 24 12) (slice b 64 (field b 16 4))

/-- Map entries name ROM addresses and patch addresses (R420, R424). -/
def mapOk (b : Bytes) (n : Nat) : Bool :=
  (List.range n).all (fun i => decide (field b (4 * i) 2 < 16384)
    && decide (16384 ≤ field b (4 * i + 2) 2) && decide (field b (4 * i + 2) 2 < 18432))

/-- Check 6: one section for each sequencer of a list, in order, and nothing after them. -/
def sectionsOk : List Nat → Bytes → Bool
  | [], b => b.isEmpty
  | q :: r, b =>
    let maps := field b 2 2
    let micro := field b 4 2
    let nano := field b 6 2
    let len := 8 + 4 * maps + 4 * micro + 32 * nano
    decide (8 ≤ b.length) && byteAt b 0 == q && byteAt b 1 == 0 && decide (maps ≤ 256) && decide (micro ≤ 2048)
      && decide (nano ≤ 512) && decide (len ≤ b.length) && mapOk (b.drop 8) maps && sectionsOk r (b.drop len)

/-- The section of a sequencer in a body of sections, none where it has none (R422). -/
def sectionOf (q : Nat) : Nat → Bytes → Option Bytes
  | 0, _ => none
  | n + 1, b =>
    if b.length < 8 then none
    else if byteAt b 0 = q then some b
    else sectionOf q n (b.drop (8 + 4 * field b 2 2 + 4 * field b 4 2 + 32 * field b 6 2))

/-- The section that the applied bundle loaded into the stores of sequencer `q`. -/
def State.patchSection (s : State) (q : Nat) : Bytes := (sectionOf q 7 s.patch.body).getD (zeros 8)

/-- The patch map of sequencer `q`: ROM micro-address and patch micro-address of each entry (R420, R422). -/
def State.patchMap (s : State) (q : Nat) : List (Nat × Nat) :=
  let b := s.patchSection q
  (List.range (field b 2 2)).map (fun i => (field b (8 + 4 * i) 2, field b (10 + 4 * i) 2))

/-- The address that a fetch of a micro-address reads (R420). -/
def State.microFetch (s : State) (q a : Nat) : Nat := if a < 16384 then (tget (s.patchMap q) a).getD a else a

/-- A word of micro-store patch RAM, from 16,384 upward, zero where none is loaded (R420, R422; log 66). -/
def State.patchMicro (s : State) (q a : Nat) : Nat :=
  let b := s.patchSection q
  if a - 16384 < field b 4 2 then field b (8 + 4 * field b 2 2 + 4 * (a - 16384)) 4 else 0

/-- A word of nano-store patch RAM, from 4,096 upward. -/
def State.patchNano (s : State) (q a : Nat) : Bytes :=
  let b := s.patchSection q
  if a - 4096 < field b 6 2 then slice b (8 + 4 * field b 2 2 + 4 * field b 4 2 + 32 * (a - 4096)) 32 else zeros 32

/-- A micro-word (R420): TARGET, NANO_PTR and SEQ_OP. -/
def microWord (w : Nat) : Nat × Nat × Nat := (bits w 14 0, bits w 27 15, bits w 30 28)

/-- PATCH_STATUS of the staged bundle (R424). -/
def State.patchCheck (s : State) : Nat :=
  let b := s.patch.staged
  if !patchFormat b then 3
  else if !patchSigned b then 4
  else if field b 8 4 < s.patch.minVersion then 0x55
  else if field b 12 4 ≠ Config.romId then 5
  else if !patchTagOk b then 6
  else if !sectionsOk (bitList 7 (byteAt b 20)) (patchBody b) then 7
  else 2

/-- The Patch window has closed: PATCH_STATUS says so, and MEAS_0 is extended once (R427, R434, R442). -/
def State.endWindow (s : State) : State :=
  let d := if s.patch.status = 2 then s.patch.applied else ascii "Quarus-no-patch".toList
  ({ s with patch := { s.patch with status := if s.patch.status = 2 then 2 else 8 } }).extend 0 (sha3_384 d)

/-- The Patch window closes, and Assembly begins with the journal read (R308, R442, R443). -/
def State.closeWindow (s : State) : State :=
  let s2 := (s.endWindow.stepDone 7).changeMode mAssembly
  ({ s2 with mode := { s2.mode with bootPhase := true, wheelPhase := true } }).readJournal

/-- The patch entries are writable (R434, R448). -/
def State.patchOpen (s : State) : Bool := s.mode.mode == mPatch && !s.mode.stopped

/-- A write of PATCH_STAGE_RESET, none where it is refused. -/
def State.patchReset (s : State) : Option State :=
  if s.patchOpen then some { s with patch := { s.patch with staged := [], status := 0 } } else none

/-- PATCH_STAGE_RESET (R424): a write of domain 0. -/
def execPatchStageReset (s : State) : Host.Outcome State Fault Refusal := .next (s.patchReset.getD s)

/-- A write of PATCH_DATA, none where it is refused (R434). -/
def State.patchData (s : State) (data : Bytes) : Option State :=
  if s.patchOpen ∧ s.patch.staged.length + data.length ≤ 184043 then
    some { s with patch := { s.patch with staged := s.patch.staged ++ data } }
  else none

/-- PATCH_DATA (R424): a write of domain 0 of 1 to 1,024 bytes. -/
def execPatchData (data : Bytes) (s : State) : Host.Outcome State Fault Refusal :=
  .next (if 1 ≤ data.length ∧ data.length ≤ 1024 then (s.patchData data).getD s else s)

/-- A write of PATCH_APPLY, none where it is refused (R424 to R427). -/
def State.patchApply (s : State) : Option State :=
  if !s.patchOpen then none
  else
    let st := s.patchCheck
    if st = 2 then
      some ({ s with patch := { s.patch with status := 2, version := field s.patch.staged 8 4, applied := s.patch.staged,
                                             body := patchBody s.patch.staged } }).closeWindow
    else some (({ s with patch := { s.patch with status := st } }).raise 0xB4 { detail := st })

/-- PATCH_APPLY (R424): a write of domain 0. -/
def execPatchApply (s : State) : Host.Outcome State Fault Refusal := .next (s.patchApply.getD s)

/-- PATCH_WINDOW_TIMEOUT (R428, R442): the window closes; while PATCH_MIN_VERSION is above 0, PATCH_TIMEOUT is raised, whose class, S3 or
S4, leads to Quiesce or Lockdown in place of Assembly (R437). -/
def execPatchWindowTimeout (s : State) : Host.Outcome State Fault Refusal :=
  .next (if s.patchOpen && decide (s.mode.windowBeat + msBeats (s.cfg 0x6901 9) ≤ s.beat) then
      if 0 < s.patch.minVersion then
        s.endWindow.raise 0xB5
      else s.closeWindow
    else s)

end Sys2Proof.Machine
end

