-- ==== Sys2Proof/Machine/Modes.lean ====
section
/-! DEFINITION. Operating modes, device reset and power (16, R11). -/

namespace Sys2Proof.Machine

open Sys2Proof

/-! ### Device reset (R436) -/

/-- The settings that a device reset leaves: the AO copies that differ from their defaults (R378, R403). -/
def State.keptSettings (s : State) : List (Nat × Int) := s.ao.config.filter (fun x => x.2 != dfltOf (x.1 / 256) (x.1 % 256))

/-- The AO domain after a device reset: sources may alarm again, and counts since reset are cleared (R390, R395, R403). -/
def AoState.afterReset (a : AoState) : AoState :=
  { a with alarmed := [], unmonitored := 0, burning := [], lightLast := 0, glitchMargin := 250, detectorTests := 0, clamped := false,
           meshes := a.meshes.map (fun x => (x.1, { x.2 with mismatches := 0 })),
           senses := a.senses.map (fun x => (x.1, { x.2 with transitions := 0 })) }

/-- The dictionary's own state after a device reset: what MRAM and the AO domain hold stays (R465, R468, R469). -/
def DictState.afterReset (d : DictState) : DictState :=
  { life := d.life, copyA := d.copyA, copyB := d.copyB, calSeconds := d.calSeconds, calFrac := d.calFrac, calTicks := d.calTicks, calValid := d.calValid,
    calTrim := d.calTrim, calAcc := d.calAcc, calSetBeat := d.calSetBeat, calSets := d.calSets, bootHeld := d.bootHeld }

/-- A device reset (R436) with its cause (R452): jobs end without a completion, and all volatile state of the main die is
cleared; a life-cycle order whose completion it forestalls is followed by its clearing (R347, log 14). -/
def State.deviceReset (s0 : State) (cause : Nat) : State :=
  let s := if s0.sec.lcOrder.isSome then s0.clearLc else s0
  let t : State :=
    { fresh := s.fresh, settings := s.keptSettings, rings := { sent := s.rings.sent }, wheel := { bootDigest := s.wheel.bootDigest },
      fault := { mlog := s.fault.mlog, mlogSeq := s.fault.mlogSeq }, patch := { minVersion := s.patch.minVersion },
      mode := { vsel := s.mode.vsel, resetCause := cause, pwrFail := s.mode.pwrFail, stopped := s.mode.pwrFail }, ao := s.ao.afterReset, domains := s.domains,
      dict := s.dict.afterReset, lcState := s.lcState, lcSeq := s.lcSeq, seedGen := s.seedGen,
      link := { perst := s.link.perst, perstCount := if cause = 0 then 0 else s.link.perstCount },
      herd := { epoch := s.herd.epoch, members := s.herd.members, digest := s.herd.digest },
      sec := { s.sec with lastOrder := [], envCause := [], lcOrder := none,
                          copies := s.sec.copies.map (fun x => (x.1, { x.2 with beat := none })),
                          lcCopies := { s.sec.lcCopies with beat := none } }, pending := s.pending }
  ({ t with vault := (s.emptyVault).vault }).writeEraseMap

/-! ### DEV_CTRL (R437 to R449) -/

/-- QUIESCE (R437, R438). -/
def State.doQuiesce (s : State) : Option State :=
  if s.serves then some ((s.quiesceFor 1).writeStatus 1 0xFF 0 false s.mode.mode) else none

/-- RESUME (R439): back to the mode Quiesce was entered from. -/
def State.doResume (s : State) : Option State :=
  if s.mode.mode = mQuiesce ∧ s.mode.drained ∧ (s.mode.quiesceKind = 1 ∨ s.mode.quiesceKind = 3) ∧ !s.mode.pwrFail
      ∧ !s.mode.studyPending then
    let next := if s.mode.cameFrom = mCeremony ∧ !s.mode.ceremonyOver then mCeremony else s.serviceMode
    some ((({ s with mode := { s.mode with quiesceKind := 0, drained := false, ceremonyOver := false } }).changeMode next).wakePending)
  else none

/-- No job, no fetched header, no active fetch, no maintenance, no commit request and no internal job (R444). -/
def State.idleReady (s : State) : Bool :=
  (s.mode.mode == mService || s.mode.mode == mDegraded) && s.cfg 0x1102 1 == 1 && s.jobs.slots.isEmpty
    && s.rings.queues.all (fun x => x.2.intake.isEmpty && x.2.fetch != .active) && s.maint.running.isEmpty && s.maint.queue.isEmpty
    && !s.vault.commitReq && s.vault.sweepKeys.isEmpty && s.vault.counters.all (fun c => c.2.ready)
    && (List.range 256).all (fun d => (s.dom d).dstate != 2)

/-- Idle is entered (R444). -/
def State.enterIdle (s : State) : State :=
  let s1 := { s with mode := { s.mode with cameFrom := s.mode.mode, idleEntries := bump 32 s.mode.idleEntries 1, idleFrom := none,
                                           wakeBeat := none } }
  s1.changeMode mIdle

/-- IDLE (R444): Idle follows in the next beat. -/
def State.doIdle (s : State) : Option State :=
  if s.idleReady then some { s with mode := { s.mode with nextMode := mIdle } } else none

/-- CEREMONY (R446). -/
def State.doCeremony (s : State) : Option State :=
  if s.mode.mode = mService ∨ s.mode.mode = mDegraded then
    some (({ s with mode := { s.mode with ceremonyBeat := s.beat, ceremonyOver := false } }).changeMode mCeremony)
  else none

/-- CEREMONY_EXIT (R446). -/
def State.doCeremonyExit (s : State) : Option State :=
  if s.mode.mode = mCeremony then some (s.changeMode s.serviceMode) else none

/-- WINDOW_CLOSE (R442). -/
def State.doWindowClose (s : State) : Option State := if s.patchOpen && s.patch.minVersion == 0 then some s.closeWindow else none

/-- ASSEMBLY_DONE (R443): Service follows in the next beat. -/
def State.doAssemblyDone (s : State) : Option State :=
  if s.mode.mode = mAssembly ∧ !s.mode.stopped ∧ (s.vault.loadStatus = 2 ∨ s.vault.loadStatus = 3) then
    some { s with mode := { s.mode with nextMode := mService } }
  else none

/-- The mode that the beat before has called for is entered (R191, R443, R444). -/
def State.enterNext (s : State) : State :=
  let s1 := { s with mode := { s.mode with nextMode := 0 } }
  if s.mode.nextMode = mService ∧ s.mode.mode = mAssembly ∧ !s.mode.stopped then
    ((s1.stepDone 8).changeMode s.serviceMode).reserveAll
  else if s.mode.nextMode = mIdle ∧ (s.mode.mode = mService ∨ s.mode.mode = mDegraded) then s1.enterIdle
  else s1

/-- SOFT_RESET (R439). -/
def State.doSoftReset (s : State) : Option State :=
  if s.mode.mode = mQuiesce ∧ s.mode.drained then some (s.deviceReset 2) else none

/-- What a bit of DEV_CTRL does, none where it is refused (R449). -/
def State.ctrlAction (s : State) (b : Nat) : Option State :=
  match b with
  | 0 => s.doQuiesce
  | 1 => s.doResume
  | 2 => s.doIdle
  | 3 => s.doCeremony
  | 4 => s.doCeremonyExit
  | 5 => s.doWindowClose
  | 6 => s.doAssemblyDone
  | 7 => s.doSoftReset
  | _ => none

/-- A bit of DEV_CTRL acts: LAST_CTRL and REFUSED say how (R449). -/
def State.ctrlAct (s : State) (b : Nat) : State :=
  match s.ctrlAction b with
  | some t => if b = 7 then t else { t with mode := { t.mode with lastCtrl := b, refused := false } }
  | none => { s with mode := { s.mode with lastCtrl := b, refused := true } }

/-- Bits of DEV_CTRL that act in one beat, in the order of R437's rows from the bottom up: RESUME, QUIESCE, IDLE, CEREMONY_EXIT, CEREMONY,
ASSEMBLY_DONE, WINDOW_CLOSE, SOFT_RESET. -/
def ctrlOrder (l : List Nat) : List Nat := [1, 0, 2, 4, 3, 6, 5, 7].filter l.contains

/-- A bit of DEV_CTRL is written: in Idle it wakes the device and is held until the mode reverts, in Lockdown it is refused
(R440, R445, R449). -/
def State.ctrl (s : State) (b : Nat) : State :=
  if s.mode.mode = mDormant then s
  else if s.mode.mode = mLockdown then { s with mode := { s.mode with lastCtrl := b, refused := true } }
  else if s.mode.mode = mIdle then
    let s1 := s.wake
    { s1 with mode := { s1.mode with held := insertNat s1.mode.held b } }
  else s.ctrlAct b

/-- QUIESCE: a DEV_CTRL write. -/
def execQuiesce (s : State) : Host.Outcome State Fault Refusal := .next (s.ctrl 0)

/-- RESUME: a DEV_CTRL write. -/
def execResume (s : State) : Host.Outcome State Fault Refusal := .next (s.ctrl 1)

/-- IDLE: a DEV_CTRL write. -/
def execIdle (s : State) : Host.Outcome State Fault Refusal := .next (s.ctrl 2)

/-- CEREMONY: a DEV_CTRL write. -/
def execCeremony (s : State) : Host.Outcome State Fault Refusal := .next (s.ctrl 3)

/-- CEREMONY_EXIT: a DEV_CTRL write. -/
def execCeremonyExit (s : State) : Host.Outcome State Fault Refusal := .next (s.ctrl 4)

/-- WINDOW_CLOSE: a DEV_CTRL write. -/
def execWindowClose (s : State) : Host.Outcome State Fault Refusal := .next (s.ctrl 5)

/-- ASSEMBLY_DONE: a DEV_CTRL write. -/
def execAssemblyDone (s : State) : Host.Outcome State Fault Refusal := .next (s.ctrl 6)

/-- SOFT_RESET: a DEV_CTRL write. -/
def execSoftReset (s : State) : Host.Outcome State Fault Refusal := .next (s.ctrl 7)

/-! ### Events of time -/

/-- DRAINED (R438): every job in flight has written its completion; a pending study then begins (R447). -/
def execDrained (s : State) : Host.Outcome State Fault Refusal :=
  .next (if s.mode.mode = mQuiesce ∧ !s.mode.drained ∧ s.jobs.slots.isEmpty then
      let s1 := { s with mode := { s.mode with drained := true } }
      if s.mode.studyPending ∧ s.mode.quiesceKind = 1 then
        (({ s1 with mode := { s1.mode with studyPending := false, quiesceKind := 0 } }).changeMode mStudy).beginStudy
      else s1
    else s)

/-- IDLE_DELAY_EXPIRY (R444): the conditions have held for IDLE_DELAY. -/
def execIdleDelayExpiry (s : State) : Host.Outcome State Fault Refusal :=
  .next (match s.mode.idleFrom with
    | some b => if s.idleReady && decide (b + msBeats (s.cfg 0x1102 2) ≤ s.beat) then s.enterIdle else s
    | none => s)

/-- WAKE (R445). -/
def execWake (s : State) : Host.Outcome State Fault Refusal := .next s.wake

/-- MODE_REVERT (R445): 125 beats after the wake the mode reverts, and held DEV_CTRL writes act. -/
def execModeRevert (s : State) : Host.Outcome State Fault Refusal :=
  .next (match s.mode.wakeBeat with
    | some b =>
      if s.mode.mode = mIdle ∧ b + 125 ≤ s.beat then
        let held := s.mode.held
        let s1 := ({ s with mode := { s.mode with wakeBeat := none, held := [] } }).changeMode s.mode.cameFrom
        ((ctrlOrder held).foldl State.ctrlAct s1).wakePending
      else s
    | none => s)

/-- CEREMONY_TIMEOUT (R446): Ceremony ends, or is over when the Quiesce entered from it ends. -/
def execCeremonyTimeout (s : State) : Host.Outcome State Fault Refusal :=
  .next (if s.beat < s.mode.ceremonyBeat + secBeats (s.cfg 0x1102 5) then s
    else if s.mode.mode = mCeremony then s.changeMode s.serviceMode
    else if s.mode.mode = mQuiesce ∧ s.mode.cameFrom = mCeremony ∧ !s.mode.studyPending then
      { s with mode := { s.mode with ceremonyOver := true } }
    else s)

/-! ### Power (R437, R448) -/

/-- PWR_FAIL_ASSERT (R448). -/
def execPwrFailAssert (s : State) : Host.Outcome State Fault Refusal :=
  let s1 := { s with mode := { s.mode with pwrFail := true } }
  .next (if s.serves || s.mode.mode == mIdle then (s1.quiesceFor 3).writeStatus 1 0xFF 0 false s.mode.mode
    else if (1 ≤ s.mode.mode ∧ s.mode.mode ≤ 4) ∨ s.mode.mode = mStudy then { s1 with mode := { s1.mode with stopped := true } }
    else s1)

/-- PWR_FAIL_DEASSERT (R448): a second attempt at a slot that waits for it starts (R317). -/
def execPwrFailDeassert (s : State) : Host.Outcome State Fault Refusal :=
  .next { s with mode := { s.mode with pwrFail := false },
                 vault := { s.vault with writing := s.vault.writing.map (fun w => { w with started := true }) } }

/-- A slot write that power cuts off leaves a torn slot (R308, R318). -/
def State.tearSlot (s : State) : State :=
  match s.vault.writing.filter (·.started) with
  | some w =>
    let (k, s1) := s.draw
    { s1 with vault := { s1.vault with writing := none, journal := tput s1.vault.journal (64 * w.region + w.slot) (w.content.torn k) } }
  | none => s

/-- CORE_RAILS_REMOVED (R394, R437): the main die writes AO_ERASE_MAP once more, and enters Dormant. There the VDD_IO rail is gone with
the others, which releases ALARM_OUT and WAKE# (R401, R523; DEDUCED; log 74). -/
def execCoreRailsRemoved (s : State) : Host.Outcome State Fault Refusal :=
  .next (if s.mode.mode = mDormant then s
    else
      let s1 := s.writeEraseMap.tearSlot
      { (s1.setMode mDormant) with jobs := {}, link := { s1.link with up := false, speed := 0, width := 0 },
                                   fault := { s1.fault with alarmOut := false }, port := { s1.port with wakeOut := false } })

/-- The life records that serve after a power-up: the valid copy with the higher sequence number (R468). -/
def DictState.lifeAtStart (d : DictState) : LifeRecord :=
  if d.copyA.2.1 && (!d.copyB.2.1 || decide (d.copyB.1 ≤ d.copyA.1)) then d.copyA.2.2
  else if d.copyB.2.1 then d.copyB.2.2
  else {}

/-- POWER_UP (R437, R440): the main die leaves Dormant for Reset. -/
def execPowerUp (s : State) : Host.Outcome State Fault Refusal :=
  .next (if s.mode.mode ≠ mDormant ∨ s.mode.lockdownHold ∨ s.mode.pwrFail then s
    else
      let l := s.dict.lifeAtStart
      ({ s with dict := { s.dict with life := { l with cycles := bump 32 l.cycles 1 } }, mode := { s.mode with vsel := 10 } }).deviceReset 0)

/-- PERST_ASSERT (R436, R481): a device reset; in Lockdown the link retrains. -/
def execPerstAssert (s : State) : Host.Outcome State Fault Refusal :=
  let s1 := { s with link := { s.link with perst := true, perstCount := bump 32 s.link.perstCount 1 } }
  .next (if s.mode.mode = mDormant then { s with link := { s.link with perst := true } }
    else if s.mode.mode = mLockdown then { s1 with link := { s1.link with up := false, speed := 0, width := 0 } }
    else s1.deviceReset 1)

end Sys2Proof.Machine
end

