-- ==== Sys2Proof/Machine/Grant.lean ====
section
/-! DEFINITION. Phase 3 of a job: eligibility, start rights with the shared resources that they reserve, and the limits of
the wait (R17, R19, R86, R90, R91). -/

namespace Sys2Proof.Machine

open Sys2Proof

/-! ### What holds a job in phase 3 -/

/-- A job admitted earlier that is still in flight. -/
def State.earlier (s : State) (j : Job) (p : Job → Bool) : Bool :=
  s.jobs.slots.any (fun x => decide (x.1 < 4096) && decide (x.2.seq < j.seq) && p x.2)

/-- The next staging of a job draws from its domain's instance (R209, R225, R366): every chunk of Classic McEliece generation but the
finishing one, and of RSA the sieve chunks alone. -/
def Job.drawsNext (j : Job) : Bool :=
  j.drbg && (if j.hdr.opcode = 0x1001 ∧ j.pb.cls = 8 then j.scratch.isEmpty
    else if j.hdr.opcode = 0x1001 ∧ j.pb.cls = 9 then j.scratch.getD 0 0 == 0 else true)

/-- The instance that serves the draws of a job: internal instance 2 for ATTEST, and otherwise its domain's (R364, R365). -/
def Job.instanceOf (j : Job) : Nat := if j.hdr.opcode = 0x1006 then 258 else j.domain

/-- The instance that a job draws from cannot serve it (R17, R365); a prediction-resistant request reseeds it. -/
def State.heldByInstance (s : State) (j : Job) : Bool :=
  j.drawsNext && !(if j.hdr.opcode = 0x1102 then decide (2 ≤ s.entropy.state) && (s.drbg j.domain).up && s.entropy.rootUp
    else s.canServe j.instanceOf)

/-- The mask generator is not ready for a job, or for its expansion run (R17, R370). -/
def State.heldByMasks (s : State) (n : Nat) (j : Job) : Bool :=
  !s.entropy.maskReady
    && (j.masked || (decide (n < 4096) && ((s.job? (4096 + n)).map (fun e => e.masked)).getD false))

/-- The generators hold a job (R17). -/
def State.heldByEntropy (s : State) (n : Nat) (j : Job) : Bool := s.heldByInstance j || s.heldByMasks n j

/-- FENCE and the FENCE operation hold a job (R48). -/
def State.heldByFence (s : State) (j : Job) : Bool :=
  ((j.hdr.has flFence || j.hdr.opcode == 0x1502) && s.earlier j (fun k => k.queue == j.queue))
    || s.earlier j (fun k => k.queue == j.queue && k.hdr.opcode == 0x1502)

/-- The jobs of one stream, and the orders and envelopes of one domain, run one at a time (R272, R331). -/
def State.heldByOrder (s : State) (j : Job) : Bool :=
  let order := fun (k : Job) => k.hdr.opcode == 0x1401 || k.hdr.opcode == 0x1005
  (j.isStream && s.earlier j (fun k => k.domain == j.domain && k.isStream && k.hdr.streamId == j.hdr.streamId))
    || (order j && s.earlier j (fun k => k.domain == j.domain && order k))

/-- The live key that KEY_HANDLE of a job names, with its index. -/
def State.keyOf (s : State) (j : Job) : Option (Nat × Key) :=
  match s.key? (handleIndex j.hdr.keyHandle) with
  | some k => if k.state = 1 ∧ k.gen = handleGen j.hdr.keyHandle ∧ k.domain = j.domain then some (handleIndex j.hdr.keyHandle, k) else none
  | none => none

/-- A fenced job whose key has no committed value left (R190, R263): its index. -/
def State.fencedOn (s : State) (j : Job) : Option Nat :=
  if j.hdr.has flFence && (s.spec j).counts then
    match s.keyOf j with
    | some (i, k) =>
      match s.counter? i with
      | some c => if c.ceilC ≤ c.next ∧ c.next < k.rangeHi then some i else none
      | none => none
    | none => none
  else none

/-- The traversal state of the key is still being rebuilt (R180). -/
def State.heldByRebuild (s : State) (j : Job) : Bool :=
  (s.spec j).counts && (match s.keyOf j with
    | some (i, _) => ((s.counter? i).map (fun c => !c.ready)).getD false
    | none => false)

/-- A vault job waits for its maintenance grant, and a PREPARE for the commit interval (R311, R313, R317). -/
def State.heldByVault (s : State) (n : Nat) (j : Job) : Bool :=
  (j.hdr.opcode / 256 == 0x13 && (!s.granted maCommit n || (s.mode.pwrFail && j.hdr.opcode != 0x1301)))
    || (j.hdr.opcode == 0x1302 && s.vault.lastPending.isSome)

/-- The release of the job would change a frozen, unexported page, and the share of its group has no room (R309). -/
def State.heldByCopy (s : State) (j : Job) : Bool :=
  if j.hdr.opcode = 0x1002 then s.copyFull j.domain (handleIndex j.hdr.keyHandle / 32)
  else if j.hdr.opcode = 0x1005 ∧ field j.input 44 4 ≠ 0xFFFFFFFF then s.copyFull j.domain (field j.input 44 4 / 32)
  else if j.hdr.opcode = 0x1401 ∧ j.hdr.pset = 0x43 then
    (match s.partitionKey j.domain (slice j.input 72 32) with
      | some (i, _) => s.copyFull j.domain (i / 32)
      | none => false)
  else if (s.spec j).creates then
    ((s.placeKey j.domain j.quotaUnits).map (fun i => s.copyFull j.domain (i / 32))).getD false
  else false

/-- A job that creates an entry waits while its domain is swept (R334). -/
def State.heldBySweep (s : State) (j : Job) : Bool := (s.spec j).creates && (s.dom j.domain).dstate == 2

/-- The job waits for its expansion run, or for the traversal state of its key (R18, R180). -/
def State.heldByExpansion (s : State) (n : Nat) (j : Job) : Bool :=
  (decide (n < 4096) && (s.job? (4096 + n)).isSome) || s.heldByRebuild j

/-- A job that waits for a start right: in phase 3, or with tasks of key generation to run beside others (R181). -/
def Job.waits (j : Job) : Bool := j.phase == 3 || (j.sliced && j.phase == 5)

/-- The job is eligible as things stand (R16, R17, R48, R70, R86). -/
def State.eligible (s : State) (n : Nat) (j : Job) : Bool :=
  j.waits && !s.heldByEntropy n j && (j.chunk == 0 || decide (4096 ≤ n) || j.dmaErr.isSome || decide (s.inputNeed j ≤ j.input.length))
    && (decide (4096 ≤ n)
        || (!s.heldByFence j && !s.heldByOrder j && (s.fencedOn j).isNone && !s.heldByVault n j && !s.heldByCopy j
            && !s.heldBySweep j && !s.heldByExpansion n j))

/-! ### What a boundary notes of the waiting jobs -/

/-- The mark of a job that waits for room in the copy area; the first wait raises COPY_AREA_FULL (R309). -/
def State.noteCopy (s : State) (n : Nat) (full : Bool) : State :=
  let marked := s.jobs.holds.any (fun h => h.kind == hkCopy && h.slot == n)
  if full && !marked then
    let h : Hold := { kind := hkCopy, place := 0, amount := 0, slot := n, since := s.beat, till := 2 ^ 64 }
    ({ s with jobs := { s.jobs with holds := s.jobs.holds ++ [h] } }).raise 0x94
  else if !full && marked then
    { s with jobs := { s.jobs with holds := s.jobs.holds.filter (fun h => h.kind != hkCopy || h.slot != n) } }
  else s

/-- A job that notes for each cause of R367 since when it has been held, from the end of this beat. -/
def State.notedHeld (s : State) (n : Nat) (j : Job) : Job :=
  let keep := fun (held : Bool) (old : Option Nat) => if held then some (old.getD s.beat) else none
  let early := decide (s.entropy.state < 2)
  { j with heldStart := keep (early && s.heldByEntropy n j) j.heldStart, heldFrom := keep (!early && s.heldByInstance j) j.heldFrom,
           heldMasks := keep (!early && s.heldByMasks n j) j.heldMasks }

/-- A waiting job at the end of a beat: since when the generators hold it (R367), whether it is eligible (R90), the
reservation that a fenced job makes (R190, R263), and the mark of a rebuild that it waits for (R180). -/
def State.noteJob (s : State) (n : Nat) : State :=
  match s.job? n with
  | none => s
  | some j =>
    if !j.waits then s
    else
      let s1 := s.setJob n { s.notedHeld n j with eligible := s.eligible n j,
                                                  expanded := j.expanded || (decide (n < 4096) && s.heldByRebuild j) }
      if 4096 ≤ n then s1
      else match s.fencedOn j with
        | some i =>
          let full := s.copyFull j.domain (i / 32)
          if full then s1.noteCopy n true else (s1.reserve i).noteCopy n false
        | none => s1.noteCopy n (s.heldByCopy j)

/-- Every waiting job at the end of a beat. -/
def State.noteJobs (s : State) : State := (s.slotsWhere Job.waits).foldl State.noteJob s

/-! ### Lanes (R108, R166, R223, R250) -/

/-- Lanes of a lane group that are free: not held by a lane job, in a triple, or as a hash lane, by their numbers. -/
def State.lanesFree (s : State) (g : Nat) : List Nat :=
  let held := s.jobs.holds.filter (fun h => decide (h.kind ≤ hkLaneJob) && h.place == g && decide (s.beat < h.till))
  (List.range 8).filter (fun k => held.all (fun h => !h.lanes.contains k))

/-- Free lanes of the lane groups of a range that a lending group owns, lowest number first. -/
def State.freeLanes (s : State) (group lo hi : Nat) : List (Nat × List Nat) :=
  ((List.range (hi + 1 - lo)).map (fun k => lo + k)).filterMap (fun u =>
    let x := s.unit cHawkmoth u
    if s.wheel.unitOwner cHawkmoth u = group ∧ x.state = 0 ∧ !x.busy then some (u, s.lanesFree u) else none)

/-- `n` lanes out of a list of lane groups: the lowest numbers first. Which free lanes make a triple or a hash lane is the model's
choice (DESIGN CHOICE; log 60). -/
def takeLanes : List (Nat × List Nat) → Nat → Option (List (Nat × List Nat))
  | [], n => if n = 0 then some [] else none
  | (g, f) :: r, n =>
    if n = 0 then some []
    else (takeLanes r (n - f.length)).map (fun l => if f.isEmpty then l else (g, f.take n) :: l)

/-! ### Shared resources (R19, R91, R132, R162, R212) -/

/-- What the schedule of a start right shares. -/
structure Need where
  triple : Bool := false
  hash : Nat := 0
  /-- beats of the second unit -/
  second : Option Nat := none
  /-- slices of vault DRAM bandwidth, the first beat of the window after the grant, and its length -/
  dram : Nat × Nat × Nat := (0, 0, 0)
  attempts : Option (Nat × Nat × Nat) := none

/-- The classes whose key generation and expansion hold a lane triple (R108, R142, R200). -/
def tripleClass (cls : Nat) : Bool := cls == 1 || cls == 2 || cls == 3 || cls == 7 || cls == 8 || cls == 15

/-- What the next schedule of a job shares. The finishing chunk of a class-0x8 GENERATE reserves no share for its encapsulation, since
R214 names none (DESIGN CHOICE; log 75). -/
def State.need (s : State) (j : Job) : Need :=
  if j.hdr.opcode = opExpansion then
    match j.key with
    | some k => { triple := tripleClass k.cls, second := if k.cls = 15 then some (pairGenLen 15 k.pset) else none,
                  hash := if k.cls = 15 then (if clHalf k.pset = (11, 1) then 1 else 0)
                    else if k.cls ≠ 11 then 0 else if k.pset = 1 then 1 else if k.pset = 2 then 2 else 0,
                  dram := if k.cls = 8 then (cmShare k.pset, 2 + expSched 8 k.pset - cmWindow k.pset, cmWindow k.pset) else (0, 0, 0) }
    | none => {}
  else if j.sliced then {}
  else
    let p := s.spec j
    { triple := p.triple, hash := p.hash, attempts := p.attempts,
      second := if p.cls2 ≠ cIbex then none
        else some (match j.hdr.opcode with
          | 0x1401 => orderSigs j.domain j.hdr j.input
          | 0x1005 => envelopeSigs j.hdr j.input
          | _ => p.cls2Len),
      dram := if p.slices = 0 then (0, 0, 0)
        else if j.hdr.opcode = 0x1001 then
          (if j.scratch.isEmpty then (p.slices, 2 + expSched 8 j.hdr.pset - p.window, p.window) else (0, 0, 0))
        else (p.slices, 4, p.window) }

/-- Beats of the KWP that EXPORT_WRAPPED runs on the AES datapath of a key unit (R302). -/
def State.wrapBeats (s : State) (j : Job) : Option Nat :=
  if j.hdr.opcode = 0x1004 then (s.keyOf j).map (fun x => 2 + ceilDiv (6 * kwSemiblocks (blobLen x.2)) 8) else none

/-- The length of an expansion run, or of the class check of an envelope, which is noted with it (R18, R342). -/
def Job.runLen (e : Job) (k : Key) : Nat := e.scratch.headD (expSched k.cls k.pset)

/-- The schedule length of a job on Swallowtail or Ibex where the grant fixes it (R91). -/
def State.jobLen (s : State) (j : Job) : Option Nat :=
  match j.hdr.opcode with
  | 0x1401 => some (orderSigs j.domain j.hdr j.input + 320)
  | 0x1005 => some (envelopeLen j.hdr j.input)
  | 0x1004 => (s.wrapBeats j).map (fun w => if wrapsByKem j.hdr then 28 + w else w)
  | 0x1001 => if j.sliced then none else if j.pb.cls = 9 then some (rsaChunk j.hdr.pset (j.scratch.getD 0 0)) else (s.spec j).sched
  | op =>
    if op = opExpansion then j.key.map j.runLen
    else if (s.spec j).attempts.isSome then none else (s.spec j).sched

/-- The first beat of the window of a signing job that its partner holds next or now, and none where no window is left (R132): a
released signature holds its last window to the end of the partner's wipe, and a block that folds without a pass gives its window back. -/
def Job.nextWindow (j : Job) (beat : Nat) : Option Nat :=
  if j.blockLen = 0 then none
  else
    let folded := (beat + 1 - j.firstBlock) / j.blockLen
    let k := if 8 ≤ j.phase then (if j.status = some stSignBlockLimit then 0 else j.blocks)
      else match j.result with
        | some r => if r.blocks ≤ folded then (if r.status = stOk then r.blocks else 0) else folded + 1
        | none => folded + 1
    if k = 0 ∨ j.blockMax < k ∨ j.firstBlock + j.blockLen * k + j.winLen ≤ beat then none
    else some (j.firstBlock + j.blockLen * k)

/-- The signing jobs whose partner a Swallowtail unit is. -/
def State.partnersOf (s : State) (v : Nat) : List Job :=
  (s.jobs.slots.filter (fun x => x.2.partner == some v && decide (4 ≤ x.2.phase) && decide (x.2.phase ≤ 9))).map (·.2)

/-- A unit that holds windows takes only a job whose busy period ends before the next of them (R132). -/
def State.windowsAllow (s : State) (j : Job) (c u : Nat) : Bool :=
  c != cSwallowtail || ((s.partnersOf u).filterMap (fun k => k.nextWindow s.beat)).all (fun w =>
    match s.jobLen j with
    | some l => decide (s.beat + l + 3 < w)
    | none => false)

/-- The beat at which the running job of a unit has ended its wipe, where it is fixed: this beat for an idle unit, and for a signature
whose last block has folded the end of its schedule and wipe (R91, R132, R162). -/
def State.unitEnd (s : State) (c u : Nat) : Option Nat :=
  let x := s.unit c u
  if !x.busy then some s.beat
  else if x.wipeEnd ≠ 0 then some x.wipeEnd
  else match x.freeAt with
    | some f => some f
    | none => match s.job? x.holder with
      | some j => match j.result with
        | some r => if j.firstBlock + j.blockLen * r.blocks ≤ s.beat + 1 then some (j.granted + 4 + j.schedLen) else none
        | none => none
      | none => none

/-- A unit can be partner to a signature with blocks of length `p` from beat `b1` (R132, R133, R149). -/
def State.canPartner (s : State) (c u g p w b1 v : Nat) : Bool :=
  let x := s.unit cSwallowtail v
  !(c == cSwallowtail && v == u) && s.wheel.unitOwner cSwallowtail v == g && x.state == 0
    && ((s.unitEnd cSwallowtail v).map (fun f => decide (f ≤ b1 + p))).getD false
    && ((s.partnersOf v).filter (fun k => (k.nextWindow s.beat).isSome)).all (fun k => k.blockLen == p
        && (let d := (b1 + p * k.firstBlock - k.firstBlock) % p
            decide (w ≤ d) && decide (w ≤ p - d)))

/-- The partner of a signature (R132). -/
def State.findPartner (s : State) (c u g : Nat) (a : Nat × Nat × Nat) : Option Nat :=
  (List.range 16).find? (s.canPartner c u g a.1 (a.2.1 + 2) (s.beat + 2 + a.2.2))

/-- The Ibex unit that a composite job or an order reserves: its running job ends its wipe before schedule beat 1, and so does every
job that has reserved it before (R162). -/
def State.findSecond (s : State) (g : Nat) : Option Nat :=
  (List.range 8).find? (fun v =>
    let x := s.unit cIbex v
    s.wheel.unitOwner cIbex v == g && x.state == 0
      && s.jobs.holds.all (fun h => h.kind != hkUnit || h.place != v || decide (h.till ≤ s.beat + 2))
      && ((s.unitEnd cIbex v).map (fun f => decide (f ≤ s.beat + 2))).getD false)

/-- Slices of a group that are reserved in a beat. -/
def State.dramAt (s : State) (g beat : Nat) : Nat :=
  (s.jobs.holds.filter (fun h => h.kind == hkDram && h.place == g && decide (h.since ≤ beat) && decide (beat < h.till))).foldl
    (fun a h => a + h.amount) 0

/-- The group has the slices for every beat of a window (R212). -/
def State.dramFits (s : State) (g n since till : Nat) : Bool :=
  (since :: (s.jobs.holds.filter (fun h => h.kind == hkDram && decide (since < h.since) && decide (h.since < till))).map (·.since)).all
    (fun b => decide (s.dramAt g b + n ≤ s.wheel.slices g))

/-- The AES datapath of a key unit is free for a window. -/
def State.aesFree (s : State) (u since till : Nat) : Bool :=
  s.jobs.holds.all (fun h => h.kind != hkKeyAes || h.place != u || decide (till ≤ h.since) || decide (h.till ≤ since))

/-- The key unit whose AES datapath EXPORT_WRAPPED uses for the last beats of its schedule: its own, or for the ML-KEM form the
lowest-numbered of the group that is free for them (R91, R302; DESIGN CHOICE; log 60). -/
def State.findAes (s : State) (g c u since till : Nat) : Option Nat :=
  if c = cKeyUnit then (if s.aesFree u since till then some u else none)
  else (List.range 8).find? (fun v => s.wheel.unitOwner cKeyUnit v == g && (s.unit cKeyUnit v).state == 0 && s.aesFree v since till)

/-- What a grant reserves. -/
structure Reserved where
  holds : List Hold := []
  unit2 : Option (Nat × Nat) := none
  partner : Option Nat := none

/-- The job runs on one lane (R250): the lane operations, DERIVE, and streams and expansions on a lane group. -/
def Job.laneJob (j : Job) : Bool :=
  j.cls == cHawkmoth && (isLaneJob j.hdr.opcode || j.hdr.opcode == 0x1003 || j.isStream
    || (j.hdr.opcode == opExpansion && ((j.key.map (·.cls)).getD 0 == 13)))

/-- An answer that must be there where it is asked for. -/
def wanted {α : Type} (ask : Bool) (a : Option α) : Option (Option α) := if ask then a.map some else some none

/-- The shared resources of a job on a unit, none where its group cannot supply every one (R90, R91). -/
def State.reserved (s : State) (n : Nat) (j : Job) (c u : Nat) : Option Reserved :=
  let g := s.wheel.groupOf j.domain
  let need := s.need j
  let dramFrom := s.beat + need.dram.2.1
  let wrap := (s.wrapBeats j).getD 0
  let aesTill := s.beat + 2 + (s.jobLen j).getD 0
  let keccak := (if need.triple then 3 else 0) + (if need.hash = 2 then 1 else 0)
  let hold := fun (kind place amount since till : Nat) =>
    ({ kind := kind, place := place, amount := amount, slot := n, since := since, till := till } : Hold)
  if !s.windowsAllow j c u || (c == cHawkmoth && !j.laneJob && (s.lanesFree u).length != 8)
      || (j.hdr.opcode == 0x1102 && !s.prBlock)
      || (need.dram.1 != 0 && !s.dramFits g need.dram.1 dramFrom (dramFrom + need.dram.2.2)) then none
  else
    match takeLanes (s.freeLanes g 0 5) keccak, takeLanes (s.freeLanes g 6 11) (if need.hash = 1 then 1 else 0),
        wanted need.second.isSome (s.findSecond g),
        wanted need.attempts.isSome (s.findPartner c u g (need.attempts.getD (0, 0, 0))),
        wanted (wrap != 0) (s.findAes g c u (aesTill - wrap) aesTill) with
    | some k, some l, some v, some p, some a =>
      some { unit2 := v.map (fun x => (cIbex, x)), partner := p,
             holds := (k ++ l).map (fun x => { hold hkLanes x.1 x.2.length s.beat (2 ^ 64) with lanes := x.2 })
               ++ (if j.laneJob then [{ hold hkLaneJob u 1 s.beat (2 ^ 64) with lanes := (s.lanesFree u).take 1 }] else [])
               ++ (match v with | some x => [hold hkUnit x 1 s.beat (s.beat + 4 + need.second.getD 0)] | none => [])
               ++ (match a with | some x => [hold hkKeyAes x 1 (aesTill - wrap) aesTill] | none => [])
               ++ (if need.dram.1 = 0 then [] else [hold hkDram g need.dram.1 dramFrom (dramFrom + need.dram.2.2)]) }
    | _, _, _, _, _ => none

/-! ### Selection (R90) -/

/-- Tasks of key generation that are suspended on a lane group (R181). -/
def State.frames (s : State) (u : Nat) : Nat :=
  s.jobs.slots.foldl (fun a x => a + (x.2.suspended.filter (fun f => f.1 == u)).length) 0

/-- A further slice of a job's tasks may run on a lane group (R181). -/
def State.canSlice (s : State) (j : Job) (u : Nat) : Bool :=
  decide (j.slices.length < s.usableGroups j.domain j.unitLo j.unitHi)
    && (j.suspended.any (fun f => f.1 == u) || (!j.tasks.isEmpty && decide (s.frames u < 4)))

/-- Staging or the schedule of the job uses vault DRAM, which a retraining window withholds (R293). -/
def State.usesDram (s : State) (j : Job) : Bool :=
  j.hdr.keyHandle != 0 || j.hdr.auxHandle != 0 || (s.spec j).creates || decide (4096 ≤ j.hdr.opcode / 16) || j.isStream
    || j.hdr.opcode / 256 == 0x13 || j.hdr.opcode == 0x1401 || decide (0 < j.stagingUse)

/-- An eligible job whose operation runs on unit `u` of class `c`. -/
def State.candidate (s : State) (n : Nat) (j : Job) (c u : Nat) : Bool :=
  j.eligible && j.cls == c && decide (j.unitLo ≤ u) && decide (u ≤ j.unitHi) && !s.jobs.grantedNow.contains n && s.eligible n j
    && (!j.sliced || s.canSlice j u) && (s.vault.retrainFrom.isNone || !s.usesDram j)

/-- The age of a job with its ties (R90): beat, queue, and ring order. An expansion run has those of the job that waits. -/
def State.ageOf (s : State) (j : Job) : Nat × Nat × Nat :=
  (j.age, if j.queue = 1024 then ((j.target.bind s.job?).map (·.queue)).getD 1024 else j.queue, j.seq)

/-- One age comes before another. -/
def older (a b : Nat × Nat × Nat) : Bool :=
  decide (a.1 < b.1) || (a.1 == b.1 && (decide (a.2.1 < b.2.1) || (a.2.1 == b.2.1 && decide (a.2.2 < b.2.2))))

/-- The age of a job for a start right on a unit: the next slice of a job in slices has that of the job's last slice there, so that
the jobs that became eligible while it ran take the lane group first, and the tasks of the job elsewhere keep theirs (R90, R181). -/
def State.ageOn (s : State) (u : Nat) (j : Job) : Nat × Nat × Nat :=
  let a := s.ageOf j
  ((if j.sliced then (tget j.sliceAges u).getD a.1 else a.1), a.2)

/-- The oldest of a list of jobs for a unit. -/
def State.oldest (s : State) (u : Nat) (l : List (Nat × Job)) : Option (Nat × Job) :=
  l.foldl (fun best x => match best with
    | none => some x
    | some b => if older (s.ageOn u x.2) (s.ageOn u b.2) then some x else best) none

/-- The domain after `from_` in the lending order among the domains of a list (R90). -/
def nextLender (l : List Nat) (from_ : Nat) : Option Nat :=
  let least := fun (m : List Nat) => m.foldl (fun b d => match b with | none => some d | some x => some (min x d)) (none : Option Nat)
  match least (l.filter (fun d => decide (from_ < d))) with
  | some d => some d
  | none => least l

/-- The job that a live cell selects: the owner's oldest, or that of the next domain of the group (R90). -/
def State.select (s : State) (cell : Cell) (c : Nat) : Option (Nat × Job) :=
  let all := s.jobs.slots.filter (fun x => s.candidate x.1 x.2 c cell.unit && s.wheel.groupOf x.2.domain == cell.group)
  match s.oldest cell.unit (all.filter (fun x => x.2.domain == cell.owner)) with
  | some x => some x
  | none =>
    let last := (tget s.wheel.borrower (8 * cell.group + c)).getD cell.owner
    match nextLender ((all.map (fun x => x.2.domain)).filter (fun d => d != cell.owner)) last with
    | some d => s.oldest cell.unit (all.filter (fun x => x.2.domain == d))
    | none => none

/-! ### The grant -/

/-- A slice of a job of key generation on a lane group (R181): a suspended task of the group, or a fresh one. -/
def Job.startSlice (j : Job) (u beat most : Nat) : Job :=
  let take := fun (work : Nat) (j : Job) =>
    let r := min most work
    { j with slices := j.slices ++ [(u, beat, r + 2)], suspended := if r < work then j.suspended ++ [(u, work - r)] else j.suspended }
  match j.suspended.find? (fun f => f.1 == u), j.tasks with
  | some f, _ => take f.2 { j with suspended := j.suspended.erase f, saved := j.saved.eraseP (fun x => x.1 == u) }
  | none, (n, work) :: r => take work { j with tasks := if n ≤ 1 then r else (n - 1, work) :: r }
  | none, [] => j

/-- The job as its start right leaves it; a rebuild, and a slice after the first, spend no staging of their own. -/
def State.grantedJob (s : State) (j : Job) (c u : Nat) (r : Reserved) : Job :=
  let a := ((s.need j).attempts).getD (0, 0, 0)
  let j1 := { j with unit := some (c, u), eligible := false, heldStart := none, heldFrom := none, heldMasks := none, unit2 := r.unit2, partner := r.partner }
  if j.sliced then
    let j2 := j1.startSlice u s.beat (j.cfg 0x3220 0xB)
    if j.chunk = 0 ∧ j.hdr.opcode = 0x1001 then { j2 with phase := 4, granted := s.beat } else { j2 with phase := 5 }
  else
    { j1 with phase := 4, granted := s.beat, schedLen := 0, result := none, blockLen := a.1, firstBlock := s.beat + 2 + a.2.2,
              winLen := a.2.1 + 2, blockMax := if c = cSkipper then s.cfg 0x3210 3 else s.cfg 0x3200 4 }

/-- The second unit is reserved: at once where it is idle, and otherwise from the end of its wipe (R162). -/
def State.reserveSecond (s : State) (n : Nat) (v : Option (Nat × Nat)) (till : Nat) : State :=
  match v with
  | none => s
  | some (c, u) =>
    let x := s.unit c u
    s.setUnit c u (if x.busy then { x with freeAt := some till }
                   else { x with busy := true, holder := n, wipeEnd := till, freeAt := some till })

/-- The start right is taken (R90, R91). -/
def State.grantTo (s : State) (n : Nat) (j : Job) (c u : Nat) (r : Reserved) : State :=
  let s1 := s.setJob n { s.grantedJob j c u r with grantNo := s.jobs.grants }
  let s2 := { s1 with jobs := { s1.jobs with grants := s1.jobs.grants + 1, holds := s1.jobs.holds ++ r.holds, grantedNow := n :: s1.jobs.grantedNow } }
  let s3 := if j.laneJob then s2
    else s2.setUnit c u { s2.unit c u with busy := true, holder := n, wipeEnd := 0, freeAt := (s.jobLen j).map (fun l => s.beat + l + 4) }
  let s4 := s3.reserveSecond n r.unit2 (s.beat + 4 + ((s.need j).second).getD 0)
  if j.hdr.opcode = 0x1102 then s4.grantPr j.domain else s4

/-- The rights of a group and class that their owner took, those that others took, and the last borrower (R90, R105). -/
def State.noteGrant (s : State) (key owner d : Nat) : State :=
  let w := s.wheel
  { s with wheel := if d = owner then { w with grantedCount := countAdd w.grantedCount key 1 64 }
      else { w with borrowedCount := countAdd w.borrowedCount key 1 64, borrower := tput w.borrower key d } }

/-- A right that goes unused. -/
def State.unusedRight (s : State) (key : Nat) : State :=
  { s with wheel := { s.wheel with unusedCount := countAdd s.wheel.unusedCount key 1 64 } }

/-- The unit of a cell is busy; a lane group only when none of its lanes is free (R90, R250). -/
def State.unitBusy (s : State) (c u : Nat) : Bool :=
  (s.unit c u).busy || (c == cHawkmoth && (s.lanesFree u).isEmpty)

/-- The right of a column in this beat (R90). -/
def State.startRight (s : State) (col : Nat) : State :=
  let c := columnClass col
  let cell := s.wheel.cell s.position col
  let key := 8 * cell.group + c
  let s0 := { s with jobs := { s.jobs with offered := col :: s.jobs.offered } }
  if !(cell.valid && s.wheel.kept s.wheel.tier s.position col && (s.unit c cell.unit).live s.beat) then s0
  else if s.unitBusy c cell.unit then s0.unusedRight key
  else match s.select cell c with
    | none => s0.unusedRight key
    | some (n, j) =>
      match s.reserved n j c cell.unit with
      | none => s0.unusedRight key
      | some r => (s0.grantTo n j c cell.unit r).noteGrant key cell.owner j.domain

/-- The cell that a column reads fails its parity: the wheel's RAM fault is raised with the cell's number, and no right is given
(R407; DEDUCED; log 74). -/
def State.cellParity (s : State) (col : Nat) : State :=
  ({ s with jobs := { s.jobs with offered := col :: s.jobs.offered } }).raise 0x49 { detail := 16 * s.position + col }

/-- START_RIGHT_GRANT (R90): the cells of a position are taken in column order, each once. The operand is the column, and whether the
parity of its cell fails. -/
def execStartRightGrant (cell : Fin 16 × Bool) (s : State) : Host.Outcome State Fault Refusal :=
  .next (if s.wheel.running && s.serves && s.jobs.offered.all (fun c => decide (c < cell.1.val)) then
      (if cell.2 then s.cellParity cell.1.val else s.startRight cell.1.val)
    else s)

/-! ### Isolation (R99, R133, R418) -/

/-- A unit whose cells are live no more has ended its schedule, its wipe, every partner window and every reservation that it holds,
and the jobs on its lanes have ended (R99, R133, R418). -/
def State.idleUnit (s : State) (cls u : Nat) : Bool :=
  let x := s.unit cls u
  !x.live s.beat && !x.busy && decide (x.wipeEnd ≤ s.beat)
    && (cls != cSwallowtail || (s.partnersOf u).all (fun k => (k.nextWindow s.beat).isNone))
    && (cls != cHawkmoth || (s.lanesFree u).length == 8)
    && s.jobs.slots.all (fun j => j.2.unit2 != some (cls, u) || decide (9 ≤ j.2.phase))

/-- UNIT_ISOLATED (R418 step 2): the operand is the unit, and whether the comparison of the DRBG engine fails on the draw of the pattern
seed (R366), so that the test waits. -/
def execUnitIsolated (cls : Fin 8) (unit : Fin 16 × Bool) (s : State) : Host.Outcome State Fault Refusal :=
  let u := unit.1.val
  .next (if (s.unit cls.val u).state = 1 ∧ s.idleUnit cls.val u then
      let s1 := s.setUnit cls.val u ((s.unit cls.val u).turn 2 s.beat)
      if unit.2 && s1.testReady then s1.mismatch 261 else s1.beginTest
    else s)

/-! ### The Muntjac core (R274) -/

/-- MUNTJAC_RECOVERY_JOB (R274): the oldest waiting recovery job of the device runs on the byte-serial AES core, which no other
job holds. -/
def execMuntjacRecoveryJob (slot : Fin 4096) (s : State) : Host.Outcome State Fault Refusal :=
  .next (match s.job? slot.val with
    | none => s
    | some j =>
      if j.cls ≠ 8 || j.phase ≠ 3 || !j.eligible || !s.eligible slot.val j || !s.serves
          || (s.unit 6 0x80).busy || s.earlier j (fun k => k.cls == 8 && decide (k.phase ≤ 3)) then s
      else
        let s1 := (s.setJob slot.val { j with phase := 4, unit := some (6, 0x80), granted := s.beat, eligible := false,
                                              heldStart := none, heldFrom := none, heldMasks := none,
                                              result := none }).count (entryKey 0x3251 6) 1
        s1.setUnit 6 0x80 { busy := true, holder := slot.val })

/-! ### The limits of the wait (R17, R86, R367) -/

/-- START_WAIT_TIMEOUT (R86). -/
def execStartWaitTimeout (slot : Fin 4096) (s : State) : Host.Outcome State Fault Refusal :=
  .next (match s.job? slot.val with
    | none => s
    | some j =>
      let limit := s.qcfg j.queue 0x13
      if j.phase = 3 ∧ j.chunk = 0 ∧ limit ≠ 0 ∧ j.fetchEnd + limit ≤ s.beat then s.endJob slot.val stTimeout 0 (s.beat + 1) else s)

/-- A job held by the generators ends; the jobs so ended are counted (R367, R376). -/
def State.endStarved (s : State) (slot : Nat) : State :=
  let st := if s.entropy.state < 2 then stEntropyNotReady else stEntropyStarved
  let e := s.entropy
  ({ s with entropy := if st = stEntropyStarved then { e with starved := bump 32 e.starved 1 }
                       else { e with notReady := bump 32 e.notReady 1 } }).endJob slot st 0 (s.beat + 1)

/-- ENTROPY_WAIT_EXPIRY (R367): ENTROPY_WAIT has gone by since the job was first held, or a prediction-resistant request finds
the minimum of sources lost. -/
def execEntropyWaitExpiry (slot : Fin 4096) (s : State) : Host.Outcome State Fault Refusal :=
  .next (match s.job? slot.val with
    | none => s
    | some j =>
      if j.phase ≠ 3 then s
      else if j.hdr.opcode = 0x1102 ∧ s.entropy.state = 3 ∧ s.eligible slot.val j then s.endStarved slot.val
      else
        let waited := fun (b : Option Nat) => (b.map (fun x => decide (x + msBeats (s.cfg 0x5000 4) ≤ s.beat))).getD false
        let early := decide (s.entropy.state < 2)
        if (early && s.heldByEntropy slot.val j && waited j.heldStart) || (!early && s.heldByInstance j && waited j.heldFrom)
            || (!early && s.heldByMasks slot.val j && waited j.heldMasks) then s.endStarved slot.val
        else s)

end Sys2Proof.Machine
end

