-- ==== Sys2Proof/Machine/Staging.lean ====
section
/-! DEFINITION. Phase 4 of a job: the two beats of key staging, and expansion runs (R18, R20, R42, R187, R264, R279, R299). -/

namespace Sys2Proof.Machine

open Sys2Proof

/-! ### Faults of a job's own checks (R22) -/

/-- The engine class whose chapter holds a source, 0 for any other (R140, R165, R198, R221, R248, R277, R407). -/
def sourceClass (src : Nat) : Nat :=
  if src < 0x60 then 0
  else if src ≤ 0x64 then cSwallowtail
  else if src ≤ 0x69 then cSkipper
  else if src ≤ 0x6C then cHawkmoth
  else if src = 0x6D then 0
  else if src ≤ 0x72 then cTussock
  else if src ≤ 0x76 then cIbex
  else if src ≤ 0x7A then 6
  else if src ≤ 0x7C then cKeyUnit
  else 0

/-- A source of a memory or generator that no engine unit owns: a handle-cache line, the intake buffers, vault DRAM, the DRBG engine and
the mask generator. Its record names the job and no unit (R405, R407). -/
def unowned (src : Nat) : Bool :=
  src == 0x42 || src == 0x43 || (decide (0x58 ≤ src) && decide (src ≤ 0x5A)) || src == 0x86 || src == 0x87

/-- The unit that a source of a job names: that of the half of a composite job that failed (R165). -/
def Job.unitFor (j : Job) (src : Nat) : Option (Nat × Nat) :=
  if unowned src then none else
  match j.unit2 with
  | some v => if v.1 = sourceClass src ∧ (j.unit.map (·.1)) ≠ some v.1 then some v else j.unit
  | none => j.unit

/-- The private results of RSA that R226 checks. -/
def Job.rsaPrivate (j : Job) : Bool :=
  j.hdr.opcode == 0x0902 || j.hdr.opcode == 0x0903 || j.hdr.opcode == 0x0905 || (j.hdr.opcode == 0x1001 && j.pb.cls == 9)

/-- The curve results that R226 checks: ECDSA and EdDSA signing, ECDH, and GENERATE of classes 0xA and 0xB, alone or as the half of a
composite job. -/
def Job.curvePrivate (j : Job) : Bool :=
  j.hdr.opcode == 0x0A01 || j.hdr.opcode == 0x0A03 || j.hdr.opcode == 0x0B01 || j.hdr.opcode == 0x1006
    || (decide (0x0F01 ≤ j.hdr.opcode) && decide (j.hdr.opcode ≤ 0x0F03))
    || (j.hdr.opcode == 0x1001 && (j.pb.cls == 10 || j.pb.cls == 11 || j.pb.cls == 15))

/-- A job that makes key material: GENERATE, or an expansion run. -/
def Job.makesKey (j : Job) : Bool := j.hdr.opcode == 0x1001 || j.hdr.opcode == opExpansion

/-- The compares of a class that only some of its schedules make: self-verification of attempt blocks and of hash-based signatures, key
generation and its consistency test, and the private results of R226. -/
def Job.compares (j : Job) (src : Nat) : Option Bool :=
  match src with
  | 0x60 => some (j.cls == cSwallowtail && j.blockLen != 0)
  | 0x65 => some (j.cls == cSkipper && j.blockLen != 0)
  | 0x66 | 0x70 => some j.makesKey
  | 0x6A => some (j.hdr.opcode == 0x0401 || j.hdr.opcode == 0x0501 || j.hdr.opcode == 0x0601)
  | 0x71 => some (j.hdr.opcode == 0x1001 && (j.pb.cls == 7 || j.pb.cls == 8))
  | 0x74 => some j.rsaPrivate
  | 0x75 => some j.curvePrivate
  | 0x76 => some (j.hdr.opcode == 0x1001 && j.pb.cls == 9)
  | _ => none

/-- The sources that a check of a job's schedule can raise: those of the engines that it runs on, of operand memory, intake buffer and
control store, and of vault DRAM (R22, R140, R165, R198, R226, R292, R407). Another source is none of the job's checks: a corrupted
state that staging restores is found there (R198, R275). -/
def Job.mayRaise (j : Job) (src : Nat) : Bool :=
  if src = 0x86 then j.drbg
  else if src = 0x87 then j.masked
  else if src = 0x6C ∨ src = 0x7A then false
  else (decide (0x41 ≤ src) && decide (src ≤ 0x45) && src != 0x42) || src == 0x58 || src == 0x59 || src == 0x5A
    || ((j.compares src).getD true && sourceClass src != 0 && (j.unit.toList ++ j.unit2.toList ++ j.slices.map (fun x => (cHawkmoth, x.1))).any
         (fun u => u.1 == sourceClass src))

/-- A source of an error that is corrected, so that the job goes on: a handle-cache line that is read again, a control-store word, and a
word of vault DRAM (R292, R407). -/
def corrected (src : Nat) : Bool := src == 0x42 || src == 0x44 || src == 0x58

/-- A corrected error of a job is raised; the line of the handle cache that failed is discarded (R292, R294, R407). -/
def State.correct (s : State) (slot : Nat) (j : Job) (src : Nat) : State :=
  let n : Named := { slot := some slot, unit := j.unitFor src }
  if src = 0x58 then s.dramEvent 0 n
  else if src = 0x42 then
    ({ s with vault := { s.vault with lines := s.vault.lines.filter (fun l =>
        !(l.1 == s.wheel.groupOf j.domain && l.2 == handleIndex j.hdr.keyHandle)) } }).raise src n
  else s.raise src n

/-- A check that only the last beat of a schedule makes; any other error ends the job in the beat after it (R21, R22). -/
def endCheck (src : Nat) : Bool :=
  [0x60, 0x61, 0x64, 0x65, 0x66, 0x67, 0x6A, 0x70, 0x71, 0x72, 0x74, 0x75, 0x76, 0x77, 0x79].contains src

/-- A check of a job on a unit fails: the source is raised naming both, with the number of a partner unit, and the job ends with
ENGINE_FAULT whatever the class of the source (R22, R46, R131, R412). -/
def State.failCheckOn (s : State) (slot : Nat) (unit : Option (Nat × Nat)) (src boundary : Nat) : State :=
  match s.job? slot with
  | none => s
  | some j =>
    let n : Named := { slot := some slot, unit := unit, detail := j.partner.getD 0 }
    let s1 := if src = 0x59 ∨ src = 0x5A then s.dramEvent (src - 0x58) n else s.raise src n
    let s1' := if src = 0x86 ∧ j.hdr.opcode = 0x1006 ∧ 2 ≤ s.classOf src then s1.moveInstance 258 else s1
    let s2 := match s1'.job? slot with
      | some k => if k.live then s1'.endJob slot stEngineFault src boundary else s1'
      | none => s1'
    let s3 := s2.onJob slot (fun k => if k.status = some stEngineFault then { k with endBeat := boundary } else k)
    j.unitsHeld.foldl (fun a u => a.startWipe slot u boundary) (s3.freeHolds slot boundary)

/-- The same for a check of the job's own schedule or staging. -/
def State.failCheck (s : State) (slot src boundary : Nat) : State :=
  match s.job? slot with
  | none => s
  | some j => s.failCheckOn slot (j.unitFor src) src boundary

/-! ### The list walks (R42) -/

/-- The result of the list walks and of the input's bus errors, with its detail; a walk that a bus error has cut short has no
total. -/
def Job.walkFailure (j : Job) : Option (Nat × Nat) :=
  let walk := fun (w : Walk) (st : Nat) => if w.err = st then some (st, w.errInfo) else none
  let total := fun (w : Walk) (n : Nat) => if w.done ∧ w.total ≠ n then some (stLengthMismatch, w.total) else none
  [walk j.inWalk stSgDomain, walk j.outWalk stSgDomain, walk j.inWalk stSgHopLimit, walk j.outWalk stSgHopLimit,
   total j.inWalk j.hdr.inLen, total j.outWalk j.hdr.outLen, j.dmaErr.map (fun a => (stDmaError, a))].findSome? id

/-! ### Handles (R42, R279, R287, R334, R349) -/

/-- The entry that a handle names, or the status of items 1 and 2 of R42. -/
def State.resolve (s : State) (d handle : Nat) (ok : Key → Bool) (any : Bool) : Nat ⊕ (Nat × Key) :=
  let i := handleIndex handle
  let gen := handleGen handle
  if handle % 2048 ≠ 0 ∨ handleClass handle = 0 ∨ gen = 0 ∨ (!any ∧ handleDomain handle ≠ d) then .inl stHandleInvalid
  else match s.keyAt i with
    | some (f, k) =>
      if f ≠ i ∨ k.domain ≠ handleDomain handle ∨ k.gen < gen then .inl stHandleInvalid
      else if gen < k.gen then .inl stHandleStale
      else if k.state = 3 ∨ k.cls ≠ handleClass handle ∨ !ok k then .inl stHandleInvalid
      else if (s.dom k.domain).dstate = 2 ∨ s.vault.sweepKeys.contains i then .inl stHandleStale
      else .inr (i, k)
    | none => match tget s.vault.freed i with
      | some (g, e) =>
        if (s.pageOwner (i / 32)).getD e ≠ handleDomain handle ∨ g ≤ gen then .inl stHandleInvalid else .inl stHandleStale
      | none => .inl stHandleInvalid

/-- Items 3 to 6 of R42 for a resolved key, of which a bare operation makes item 3 alone; no operation but ATTEST names the owner
attestation key (R349). -/
def State.keyDenied (s : State) (j : Job) (spec : JobSpec) (aux : Bool) (handle : Nat) (k : Key) : Option Nat :=
  let attest := aux && j.hdr.opcode == 0x1006
  let usage := if aux then spec.auxUsage else spec.usage
  if !k.attr (40 + s.qcfg j.queue 3) || (!attest && k.attr aPlane != (j.domain == 0)) then some stQueueDenied
  else if spec.bare then (if s.sec.attestKey != 0 && handle == s.sec.attestKey then some stUsageDenied else none)
  else if !k.attr (44 + s.lcState) then some stLifecycleDenied
  else if !((usage.map k.attr).getD true) || !(if aux then spec.auxAttrOk k else spec.attrOk k)
      || (s.sec.attestKey != 0 && handle == s.sec.attestKey && !attest) then some stUsageDenied
  else if k.state = 1 ∧ k.measCheck ≠ measCheckOf (s.measDigest (bits k.attrs 39 32)) then some stMeasMismatch
  else none

/-- What staging finds of one handle: a status with the source it raises, or the key, if one is named. -/
def State.stageHandle (s : State) (j : Job) (spec : JobSpec) (aux : Bool) : (Nat × Option Nat) ⊕ Option (Nat × Key) :=
  let handle := if aux then j.hdr.auxHandle else j.hdr.keyHandle
  let needed := if aux then j.hdr.opcode == 0x1004 else spec.key == .vault
  let attest := aux && j.hdr.opcode == 0x1006
  if handle = 0 then
    if needed then .inl (stHandleInvalid, none)
    else if attest && !s.sec.identity then .inl (stLifecycleDenied, none)
    else .inr none
  else if attest && handle != s.sec.attestKey then .inl (stHandleInvalid, none)
  else match s.resolve j.domain handle (if aux then spec.auxOk else spec.keyOk) attest with
    | .inl st => .inl (st, none)
    | .inr (i, k) =>
      match s.keyDenied j spec aux handle k with
      | some st => .inl (st, none)
      | none => if !spec.bare && !k.tagOk then .inl (stHandleInvalid, some 0x90) else .inr (some (i, k))

/-- Item 7 of R42 for the key of KEY_HANDLE: its index or counter value, and the limits that depend on the key (R187, R264). -/
def State.limitFailure (s : State) (j : Job) (spec : JobSpec) (i : Nat) (k : Key) : Option Nat :=
  let held := match spec.plain with
    | some n => decide (65536 < n) && j.stagingUse == 0 && !(k.attr aStreamOk && !j.pb.opt8)
    | none => false
  match (if spec.counts && k.counted then s.indexTest i k else none) with
  | some st => some st
  | none => if !spec.keyLimitOk k || held then some stLengthLimit else none

/-! ### Reserved entries (R40, R290, R340) -/

/-- A run of entries in a page that belongs to the domain or to no domain is free. -/
def State.runOpen (s : State) (d i n : Nat) : Bool :=
  decide (i / 32 = (i + n - 1) / 32) && decide (i < 2 ^ 25) && runFree s.occupied i n
    && s.occupied.all (fun o => o.1 / 32 != i / 32 || o.2.2 == d)

/-- The entries that the key of an envelope spans. -/
def envelopeSpan (b : Bytes) : Nat :=
  let cls := byteAt b 41 % 16
  if bit (byteAt b 5) 1 then publicSpan (publicLen cls (byteAt b 42)) else keySpan cls (byteAt b 42)

/-- What the key of an envelope adds to the pinned commitment, and whether it fits the domain's expansion quota: the entry is known
only from the input, so that the check of R296 falls in staging, where the other quota status is reported (DESIGN CHOICE; log 59). -/
def State.envelopeCommit (s : State) (j : Job) : (Nat × Nat) × Bool :=
  let cls := byteAt j.input 41 % 16
  let pset := byteAt j.input 42
  let attrs := (s.asAdmitted j).newAttrs j.domain (s.qcfg j.queue 3) cls pset (field j.input 56 8) false
  let c := newCommit cls pset attrs []
  if j.hdr.opcode ≠ 0x1005 ∨ bit (byteAt j.input 5) 1 ∨ !classPset cls pset ∨ stateful cls then ((0, 0), true)
  else (c, !commits cls attrs || decide (s.committed j.domain c ≤ s.expQuota j.domain))

/-- The run that staging reserves for the new key of a job, if it reserves one; VAULT_FULL where R290 finds none. -/
def State.placeNew (s : State) (j : Job) (spec : JobSpec) : Nat ⊕ Option (Nat × Nat) :=
  let place := fun (n : Nat) => match s.placeKey j.domain n with
    | some i => (.inr (some (i, n)) : Nat ⊕ Option (Nat × Nat))
    | none => .inl stVaultFull
  if !spec.creates then .inr none
  else if !(s.envelopeCommit j).2 then .inl stQuota
  else if j.hdr.opcode ≠ 0x1005 then place j.quotaUnits
  else
    let n := envelopeSpan j.input
    let target := field j.input 44 4
    if bit (byteAt j.input 5) 0 ∨ !classPset (byteAt j.input 41 % 16) (byteAt j.input 42) then .inr none
    else if target = 0xFFFFFFFF then place n
    else if s.runOpen j.domain target n then .inr (some (target, n)) else .inr none

/-! ### The end of staging -/

/-- A staging failure: reported at the end of the two staging beats. RESERVE_PENDING calls for a reservation (R188, R263), and a
foreign domain tag is a partner violation (R37). -/
def State.failStaging (s : State) (slot : Nat) (j : Job) (st info : Nat) : State :=
  let s1 := s.endJob slot st info (j.granted + 2)
  if st = stSgDomain then s1.violation j.domain (some j.queue) (some slot)
  else if st = stReservePending then
    match s.keyOf j with
    | some (i, k) => (if stateful k.cls then s1.count (entryKey 0x3221 4) 1 else s1).reserve i
    | none => s1
  else s1

/-- A job runs with a staged key: in its schedule or before its wipe has ended, or between the chunks of one (R20, R267). -/
def Job.staged (j : Job) : Bool := decide (j.phase ≤ 8) && (decide (5 ≤ j.phase) || (decide (3 ≤ j.phase) && j.chunk != 0))

/-- Jobs staged with the key at an index that have not been wiped, by their numbers of admission (R20). -/
def State.stagedWith (s : State) (slot i : Nat) : List Nat :=
  (s.jobs.slots.filter (fun x => decide (x.1 < 4096) && decide (x.1 ≠ slot) && x.2.staged
    && (x.2.keyIndex == some i || x.2.auxIndex == some i))).map (·.2.seq)

/-- The expanded material that a job's schedule is to use (R18, R295). -/
def State.useKey (s : State) (slot fn : Nat) (x : Option (Nat × Key)) : State :=
  match x with
  | some (i, _) => s.useExpansion i slot fn
  | none => s

/-- The random bytes of a schedule are drawn from the domain's instance (R366). -/
def State.drawFor (s : State) (slot d n : Nat) (drbg : Bool) : State :=
  if drbg then (s.serve d n).2.onJob slot (fun j => { j with rand := (s.serve d n).1 }) else s

/-- The secret of a schedule, by class, set and bytes: the lattice half of a pair, the secret of a key, or the bytes that a job without
one draws. FN-DSA computes on the key that its seed selects (R144). -/
def secretHalf (cls pset : Nat) (x : Bytes) : Nat × Nat × Bytes :=
  let y := if cls = 15 then ((pqHalf pset).1, (pqHalf pset).2, (pairKeys pset x).1) else (cls, pset, x)
  if y.1 = 3 then (3, y.2.1, fnKey y.2.1 y.2.2) else y

/-- Class and set of the scheme that a job without a key runs: of the key that it makes, or of the public key of its input. -/
def Job.keylessScheme (j : Job) : Nat × Nat :=
  if j.hdr.opcode = 0x1001 then (j.pb.cls, j.hdr.pset)
  else if j.hdr.opcode / 256 = 0x0F then pqHalf j.hdr.pset
  else if j.hdr.opcode = 0x1006 then (2, 3)
  else (j.hdr.opcode / 256, j.hdr.pset)

/-- The class, set and secret that a masked schedule splits into shares. -/
def Job.splitSecret (j : Job) : Nat × Nat × Bytes :=
  match j.key with
  | some k => secretHalf k.cls k.pset (if k.state = 1 then k.secret else [])
  | none => secretHalf j.keylessScheme.1 j.keylessScheme.2 j.rand

/-- Each staging of a masked schedule moves its secret values into the operand memory of its unit as two shares each, with fresh masks
(R20, R109, R142, R251). -/
def State.splitKey (s : State) (slot : Nat) (masked : Bool) : State :=
  match (s.job? slot).bind (fun j => j.unit.map (fun u => (u, j))) with
  | some (u, j) =>
    let (c, p, x) := j.splitSecret
    if !masked || keyShares c p == 0 then s
    else
      let (k, s1) := s.draw
      s1.setUnit u.1 u.2 { s1.unit u.1 u.2 with shares := sharesOf j.hdr.opcode c p x j.rand j.input k }
  | none => s

/-- Staging succeeds: keys are moved, values are drawn, and the schedule begins at the next boundary. A DESTROY takes effect
there (R20). NOP, FENCE and ECHO are released at the end of staging (R39). -/
def State.passStaging (s : State) (slot : Nat) (j : Job) (spec : JobSpec) (key aux : Option (Nat × Key))
    (run : Option (Nat × Nat)) : State :=
  let plain := spec.plain.isSome
  let stream := plain && (((key.map (·.2)).map (fun k => k.attr aStreamOk)).getD false) && !j.pb.opt8
  let j' := { j with phase := 5, key := key.map (·.2), aux := aux.map (·.2), keyIndex := key.map (·.1), auxIndex := aux.map (·.1),
                     wants := spec.counts && ((key.map (fun x => x.2.counted)).getD false),
                     newIndex := run.map (·.1), newSpan := (run.map (·.2)).getD 0,
                     commit := if j.hdr.opcode = 0x1005 then (s.envelopeCommit j).1 else j.commit,
                     release := if stream then 2 else if plain then 1 else 0,
                     stagingUse := if stream then 0 else j.stagingUse, chunk := if j.sliced then 1 else j.chunk }
  let s0 := ((s.setJob slot j').useKey slot (s.expansionFunc j) key).useKey slot (s.expansionFunc j) aux
  let s1 := (s0.drawFor slot j.instanceOf j'.drawn spec.drbg).splitKey slot spec.masked
  match j.hdr.opcode, key with
  | 0x1501, _ | 0x1502, _ => s1.finish slot 0 { status := stOk }
  | 0x1503, _ => s1.finish slot 0 { status := stOk, out := j.input }
  | 0x1002, some (i, k) => ((s1.onJob slot (fun x => { x with waitFor := s1.stagedWith slot i })).sweepKey i).replicate i 2 k
  | _, _ => s1

/-- The checks of the first chunk's staging, in the order of R42. R42 gives VAULT_SEQUENCE and VAULT_FULL no place in that order:
the model checks both after item 8, in this order (DESIGN CHOICE; log 54). -/
def State.stageFirst (s : State) (slot : Nat) (j : Job) : State :=
  let spec := s.spec j
  match j.walkFailure with
  | some (st, info) => s.failStaging slot j st info
  | none =>
    match s.stageHandle j spec false with
    | .inl (st, src) => (match src with | some x => s.raise x { slot := none } | none => s).failStaging slot j st 0
    | .inr key =>
      match key.bind (fun x => s.limitFailure j spec x.1 x.2) with
      | some st => s.failStaging slot j st 0
      | none =>
        match s.stageHandle j spec true with
        | .inl (st, src) => (match src with | some x => s.raise x { slot := none } | none => s).failStaging slot j st 0
        | .inr aux =>
          if j.noRoom then s.failStaging slot j stQuota 0
          else if s.outOfTurn j.hdr.opcode then s.failStaging slot j stVaultSequence 0
          else match s.placeNew j spec with
            | .inl st => s.failStaging slot j st 0
            | .inr run => if j.drawsNext && !s.canServe j.instanceOf then s.restage slot j else s.passStaging slot j spec key aux run

/-- Keys that are opened for the first time since their image was loaded (R287): of the bare operations QUERY and ATTEST read them. -/
def State.openHandles (s : State) (j : Job) : State :=
  j.handles.foldl (fun a h => if h = 0 ∨ ((a.spec j).bare ∧ j.hdr.opcode ≠ 0x1006 ∧ j.hdr.opcode ≠ 0x1007) then a else a.openKey (handleIndex h)) s

/-- A DESTROY takes effect after the jobs whose staging ends at the same boundary have staged (R20). -/
def State.destroyWaits (s : State) (slot : Nat) (j : Job) : Bool :=
  j.hdr.opcode == 0x1002 && s.jobs.slots.any (fun x => decide (x.1 < 4096) && decide (x.1 ≠ slot) && x.2.phase == 4
    && decide (x.2.granted ≤ j.granted) && x.2.hdr.opcode != 0x1002
    && x.2.handles.any (fun h => h != 0 && handleIndex h == handleIndex j.hdr.keyHandle))

/-- The entries of both handles are looked up in the handle cache (R294). -/
def State.lookupHandles (s : State) (j : Job) : State :=
  j.handles.foldl (fun a h => a.lookupHandle (s.wheel.groupOf j.domain) h) s

/-- The end of staging of a job of a queue; a saved state that fails its check discards the stream context (R275), and a corrected
error of vault DRAM lets it go on (R292). -/
def State.stage (s : State) (slot : Nat) (j : Job) (failed : Option Nat) : State :=
  match failed with
  | some src =>
    if src = 0x59 ∨ src = 0x5A then (s.dramEvent (src - 0x58) { slot := some slot }).failStaging slot j stHandleInvalid 0
    else
      let s0 := s.failCheck slot src (j.granted + 2)
      let s1 := if src = 0x7A ∧ j.isStream then s0.dropStream j.domain j.hdr.streamId else s0
      (if src = 0x6C then ((s.keyOf j).map (fun x => s1.loseTraversal x.1)).getD s1 else s1)
  | none =>
    if j.chunk = 0 then ((s.lookupHandles j).openHandles j).stageFirst slot j
    else match j.dmaErr with
      | some a => s.failStaging slot j stDmaError a
      | none =>
        if j.drawsNext && !s.canServe j.instanceOf then s.restage slot j
        else ((s.setJob slot { j with phase := 5 }).drawFor slot j.domain j.drawn j.drawsNext).splitKey slot j.masked

/-! ### The operations without a start right (R39, R48) -/

/-- A job that takes no start right begins its two staging beats once it is eligible. -/
def State.startPlain (s : State) (slot op : Nat) : State :=
  match s.job? slot with
  | some j =>
    if j.phase = 3 ∧ j.hdr.opcode = op ∧ j.eligible ∧ s.eligible slot j ∧ s.serves then
      s.setJob slot { j with phase := 4, granted := s.beat, eligible := false }
    else s
  | none => s

/-- NOP (R39). -/
def execNop (slot : Fin 4096) (s : State) : Host.Outcome State Fault Refusal := .next (s.startPlain slot.val 0x1501)

/-- FENCE (R48). -/
def execFence (slot : Fin 4096) (s : State) : Host.Outcome State Fault Refusal := .next (s.startPlain slot.val 0x1502)

/-- ECHO (R39). -/
def execEcho (slot : Fin 4096) (s : State) : Host.Outcome State Fault Refusal := .next (s.startPlain slot.val 0x1503)

/-- The sources that a check of staging can raise: those of the job's engines, stores and draws, vault DRAM, and the states that staging
restores (R46, R198, R275, R292). -/
def State.mayRaiseStaging (s : State) (j : Job) (src : Nat) : Bool :=
  (j.mayRaise src && !endCheck src) || (src == 0x42 && j.handles.any (fun h => h != 0))
    || (src == 0x6C && (s.spec j).counts && stateful (handleClass j.hdr.keyHandle))
    || (src == 0x7A && (j.isStream || (j.chunk != 0 && j.inChunks)))

/-- Staging ends: that of a job of a queue with its checks, and that of an internal job with its shares. -/
def State.endStaging (s : State) (slot : Nat) (j : Job) (failed : Option Nat) : State :=
  if slot < 4096 then s.stage slot j failed
  else match failed with
    | some src => s.failCheck slot src (j.granted + 2)
    | none => (s.setJob slot { j with phase := 5 }).splitKey slot j.masked

/-- STAGING_END (R42): the end of the second staging beat; `failed` names the source of a check of the job's own that fails, or of an
error that is corrected (R292, R407). -/
def execStagingEnd (slot : Nat) (failed : Option (Fin 192)) (s : State) : Host.Outcome State Fault Refusal :=
  .next (match s.job? slot with
    | none => s
    | some j =>
      let fails := (failed.map (·.val)).filter (s.mayRaiseStaging j)
      if j.phase ≠ 4 ∨ s.beat < j.granted + 1 ∨ s.destroyWaits slot j then s
      else match fails.filter corrected with
        | some src =>
          let s1 := s.correct slot j src
          (match s1.job? slot with
            | some k => if k.phase = 4 then s1.endStaging slot k none else s1
            | none => s1)
        | none => s.endStaging slot j fails)

/-! ### Expansion runs (R18, R116, R206, R255, R295) -/

/-- The expanded material of an ended run enters the cache, kept for the job that waits; a class-0xD key holds the states of its
last four functions (R255). -/
def State.keepExpansion (s : State) (slot i : Nat) (k : Key) (fn : Nat) : State :=
  let old := ((s.expansion? i).map (·.funcs)).getD []
  let s1 := s.addExpansion i k (some slot)
  if k.cls = 13 then
    { s1 with vault := { s1.vault with expansions := s1.vault.expansions.map (fun e =>
        if e.index = i then { e with funcs := (fn :: old.filter (fun f => f != fn)).take 4 } else e) } }
  else s1

/-- A check of an expansion run fails: the source names the run's unit and the waiting job, which ends with ENGINE_FAULT, and the run
with it (R18, R22, R140, R165). -/
def State.failExpansion (s : State) (slot : Nat) (e : Job) (src boundary : Nat) : State :=
  ((s.takeCheckUnit slot).stopInternal (4096 + slot) boundary).failCheckOn slot (e.unitFor src) src boundary

/-- The source that the candidates of an expansion run raise, if a stored seed no longer gives a key (R145, R165, R206). -/
def expansionFault (k : Key) : Option Nat :=
  match k.cls with
  | 3 => if (fnCandidate k.pset k.secret).isSome then none else some 0x66
  | 8 => if Config.primB .checkOk [tag 8 k.pset, k.secret] then none else some 0x70
  | _ => none

/-- The end of an expansion run: its unit is wiped, and the job that waits looks for what it still misses. -/
def State.endExpansion (s : State) (slot : Nat) (e : Job) (k : Key) (i : Nat) : State :=
  let endAt := e.granted + 2 + e.runLen k
  let s1 := (if k.cls = 8 then s.cmAttempt else s).useMasks (genMasksOf k.cls k.pset)
  match expansionFault k with
  | some src => s1.failExpansion slot e src endAt
  | none =>
    let s3 := (s1.stopInternal (4096 + slot) endAt).onJob slot (fun j => { j with expanded := true })
    match s3.job? slot with
    | some j => if j.phase = 3 then (s3.keepExpansion slot i k (s3.expansionFunc j)).probe slot else s3.addExpansion i k none
    | none => s3

end Sys2Proof.Machine
end

