-- ==== Sys2Proof/Machine/Finish.lean ====
section
/-! DEFINITION. Phases 6 to 9 of a job: release, chunks and slices, wipe, and the completion record (R20 to R23, R40, R43 to
R45, R71, R73, R181, R267). -/

namespace Sys2Proof.Machine

open Sys2Proof

/-! ### Release (R23, R40) -/

/-- The beat in which the schedule of a job is released: fixed by the grant, but for the writers of the root journal and for
jobs in slices (R25, R181, R313). -/
def State.releaseBeat (s : State) (j : Job) : Nat :=
  if j.hdr.opcode = 0x1302 ∨ j.hdr.opcode = 0x1303 ∨ j.sliced then s.beat else j.granted + 2 + j.schedLen

/-- The schedule has run to its last beat, and the slot write of the job, if it makes one, has been read back (R308, R313). -/
def State.scheduleOver (s : State) (slot : Nat) (j : Job) : Bool :=
  decide (j.granted + 2 + j.schedLen ≤ s.beat) && ((s.vault.writing.bind (·.job)) != some slot)

/-- The input buffer and the output buffer share a byte of host memory (R30). -/
def Job.buffersOverlap (j : Job) : Bool :=
  j.inWalk.spans.any (fun x => !x.zero && j.outWalk.spans.any (fun y =>
    decide (x.addr < y.addr + y.len) && decide (y.addr < x.addr + x.len)))

/-- What a job leaves in its output buffer: `out`, or free bytes where the buffers overlap (R30, log 4). -/
def State.outputOf (s : State) (j : Job) (out : Bytes) : Bytes × State :=
  if j.buffersOverlap then
    let (k, s1) := s.draw
    (leBytes out.length (Config.free k), s1)
  else (out, s)

/-- Bytes of a result leave for the host's buffer, behind what the job has written before. -/
def State.writeOut (s : State) (slot : Nat) (j : Job) (out : Bytes) : State :=
  let (data, s1) := s.outputOf j out
  (s1.sendOutput slot (cutSpans j.outWalk.spans j.written data)).onJob slot (fun k =>
    { k with outFrom := if out.isEmpty then k.outFrom else k.written, written := k.written + out.length })

/-- GEN_INSIDE of a new entry (R40, R301): GENERATE sets it, and DERIVE where every parent carries it. -/
def Job.genInside (j : Job) : Bool :=
  let parent := fun (k : Option Key) => (k.map (fun x => x.attr aGenInside)).getD true
  j.hdr.opcode == 0x1001 || (j.hdr.opcode == 0x1003 && j.key.isSome && parent j.key && parent j.aux)

/-- The template's attributes, with the NEVER_EXPORT of the parents of a DERIVE (R301). -/
def Job.wantedAttrs (j : Job) (r : Result) : Nat :=
  let parent := fun (k : Option Key) => (k.map (fun x => x.attr aNeverExport)).getD false
  let a := r.entryAttrs.getD j.pb.attributes
  if j.hdr.opcode = 0x1003 ∧ (parent j.key || parent j.aux) then a ||| 2 ^ aNeverExport else a

/-- The key that a release writes at an index (R40, R262, R263, R281, R283, R286, R344). -/
def State.newKeyOf (s : State) (j : Job) (r : Result) (i n : Nat) : Key :=
  let attrs := (s.asAdmitted j).newAttrs j.domain (s.qcfg j.queue 3) r.entryClass r.entryPset (j.wantedAttrs r) j.genInside
  let kept := if r.entryPublic then clearBits attrs (usageBits - (usageKept r.entryClass r.entryPset &&& publicUsage)) else attrs
  let md := if r.entryPublic then [] else s.measDigest (bits kept 39 32)
  let body := if r.entryPublic || !bit kept aDevIv then r.entryBody
    else devIvBody (j.cfg 0x3250 8) r.entryBody (if j.hdr.opcode = 0x1005 then slice r.entryBody 72 4 else j.fixedDraw)
  { cls := r.entryClass, state := if r.entryPublic then 2 else 1, pset := r.entryPset, gen := s.genOf i n, version := 1, attrs := kept,
    domain := j.domain, span := n, md := md, measCheck := measCheckOf md, levels := r.entryLevels, body := body }

/-- The new entry is written, its handle goes into INFO, and GENERATE leaves the material that it computed in the expansion
cache (R40, R295). -/
def State.writeEntry (s : State) (slot : Nat) (j : Job) (r : Result) : State :=
  match j.newIndex with
  | none => s
  | some i =>
    if r.entryClass = 0 ∨ !success r.status then s
    else
      let k := s.newKeyOf j r i j.newSpan
      let done := fun (x : Job) =>
        { x with newIndex := none, newSpan := 0, quotaUnits := 0, commit := (0, 0), info := handleOf j.domain i k.gen k.cls }
      let s1 := ((s.onJob slot done).createKey i k).replicate i 1 k
      if j.hdr.opcode = 0x1001 then s1.leaveExpansion i k else s1

/-- INFO of a released job (R45). -/
def Job.infoOf (j : Job) (r : Result) (endBeat : Nat) : Nat := if j.hdr.opcode = 0x1503 then endBeat else r.info

/-- A job is over: its status stands, the shared resources are free, and its units are wiped (R21, R23, R91). -/
def State.retire (s : State) (slot : Nat) (j : Job) (r : Result) (endBeat : Nat) : State :=
  let s1 := s.onJob slot (fun k =>
    { k with phase := if k.unit.isNone then 9 else 8, wiped := k.unit.isNone, status := some r.status, endBeat := endBeat,
             stagingUse := 0, windowKiB := 0, newIndex := none, newSpan := 0, quotaUnits := 0, commit := (0, 0), scratch := [], wants := false })
  let s2 := j.unitsHeld.foldl (fun a u => a.startWipe slot u endBeat) (s1.freeHolds slot endBeat)
  let s3 := if j.hdr.opcode / 256 = 0x13 then (if s2.granted maCommit slot then s2.endGrant maCommit else s2).dropRequests maCommit slot
            else s2
  s3.countBlocks { j with blocks := r.blocks }

/-- Counts that a release adds to: those of its result, the limit of attempt blocks, and a value assigned without success
(R139, R164, R197, R276). -/
def State.countRelease (s : State) (j : Job) (r : Result) : State :=
  let bumps := r.bumps ++ (if r.status = stSignBlockLimit then [(if j.cls = cSkipper then entryKey 0x3211 3 else entryKey 0x3201 3, 1)] else [])
  let s1 := bumps.foldl (fun a b => a.count b.1 b.2) s
  if success r.status then s1 else s1.countLost j

/-! #### Envelopes (R339 to R342) -/

/-- Index and entries of the key that an envelope replaces (R340). -/
def envelopeTarget (b : Bytes) : Nat := field b 44 4

/-- The key that an envelope replaces is destroyed as by DESTROY, at the peers too (R300, R502), and its entries are the new key's
(R340). -/
def State.replaceKey (s : State) (slot : Nat) (j : Job) (r : Result) : State × Job :=
  if !r.replaces || !success r.status then (s, j)
  else
    let i := envelopeTarget j.input
    let n := ((s.key? i).map (·.span)).getD 1
    let j' := { j with newIndex := some i, newSpan := n }
    let s1 := match s.key? i with
      | some k => (s.sweepKey i).replicate i 2 k
      | none => s.sweepKey i
    (s1.onJob slot (fun k => { k with newIndex := some i, newSpan := n }), j')

/-- A domain's counter of envelopes advances, and its ceiling in blocks (R341). -/
def State.countImport (s : State) (d : Nat) : State :=
  let r := s.dom d
  let n := r.importCounter + 1
  if r.importCeil ≤ n then s.writeDom d { r with importCounter := n, importCeil := n + s.cfg (0x2000 + d) 0x12 }
  else s.setDom d { r with importCounter := n }

/-- What the release of an envelope leaves in its domain's record: the counter, or the cause of the refusal (R326, R339). -/
def State.noteEnvelope (s : State) (j : Job) (r : Result) : State :=
  if j.hdr.opcode ≠ 0x1005 then s
  else if success r.status then s.countImport j.domain
  else if r.status = stEnvelopeInvalid then
    { s with sec := { s.sec with envCause := tput s.sec.envCause j.domain (j.scratch.getD 0 0) } }
  else s

/-- The key that the class check of an envelope runs on, with the class, set and form that the envelope names: every step is
computed in full, whichever fails (R339, R342). -/
def Job.checkedKey (j : Job) (r : Result) : Key :=
  { cls := j.scratch.getD 2 0, state := if j.scratch.getD 4 0 = 1 then 2 else 1, pset := j.scratch.getD 3 0, gen := 0,
    domain := j.domain, body := r.entryBody }

/-- The schedule of an envelope has ended, and the class check of its key runs as an internal job (R342): the units of the
envelope's own schedule are wiped, and its release waits. -/
def State.beginCheck (s : State) (slot : Nat) (j : Job) (r : Result) : State :=
  let endBeat := s.releaseBeat j
  let k := j.checkedKey r
  let e := { s.expansionJob slot j 0 k with scratch := [j.scratch.getD 1 0], keyIndex := none }
  let s1 := j.unitsHeld.foldl (fun a u => a.startWipe slot u endBeat) (s.freeHolds slot endBeat)
  (s1.setJob slot { j with phase := 6, unit2 := none, partner := none }).setJob (4096 + slot) e

/-- The output of a job is refused: the job ends with DMA_ERROR, and the queue halts at the address of the write (R46, R80). -/
def State.outputRefused (s : State) (slot : Nat) (j : Job) (endBeat : Nat) : State :=
  let addr := spanAddr j.outWalk.spans j.written
  (s.endJob slot stDmaError addr endBeat).writeRefused j.queue addr

/-- A job is released (R23): the result leaves the unit, for the host's buffer or a new entry. A refused write halts the queue,
and the job ends with it (R80). A bus error that met the last chunk ends the job here (R24). -/
def State.releaseJob (s : State) (slot : Nat) (j : Job) (r : Result) : State :=
  let endBeat := s.releaseBeat j
  if j.dmaErr.isSome then s.endJob slot stDmaError (j.dmaErr.getD 0) endBeat
  else if !r.out.isEmpty && !s.canSend j.domain then s.outputRefused slot j endBeat
  else
    let s1 := if r.status = stTagFailExposed ∧ !j.isStream then s.zeroExposed slot else s
    let s2 := (s1.writeOut slot j r.out).onJob slot (fun k =>
      { k with info := j.infoOf r endBeat, exposed := max k.exposed r.exposed })
    let x := s2.replaceKey slot j r
    let s3 := ((((x.1.writeEntry slot x.2 r).releaseStream j r).countExported j r).countRelease j r).noteEnvelope j r
    s3.retire slot j r endBeat

/-- The class check of a key of a class without expanded material takes no beats; the completion carries EXPANDED as after any check
(R342). -/
def Job.markChecked (j : Job) : Job := { j with expanded := j.expanded || classPset (j.scratch.getD 2 0) (j.scratch.getD 3 0) }

/-- The release of a job, or the end that a failed check gives it (R22). -/
def State.release (s : State) (slot : Nat) (j : Job) (r : Result) (failed : Option Nat) : State :=
  match (match failed with | some x => some x | none => r.fault) with
  | some src => s.failCheck slot src (s.releaseBeat j)
  | none =>
    if j.hdr.opcode ≠ 0x1005 ∨ j.phase ≠ 5 then s.releaseJob slot j r
    else if j.scratch.getD 1 0 ≠ 0 then s.beginCheck slot j r
    else (s.onJob slot Job.markChecked).releaseJob slot j r

/-- The source that a command names, where it is one that the job's checks can raise. -/
def Job.fails (j : Job) (failed : Option (Fin 192)) : Option Nat := (failed.map (·.val)).filter j.mayRaise

/-- The beat after the last of the schedule of an order. -/
def Job.orderOver (j : Job) : Nat := j.granted + 2 + (orderSigs j.domain j.hdr j.input + 320)

/-- The result of a job whose schedule has ended and is due for release: the release of an order belongs to the row of its action, and
that of a chunk that is not the last to CHUNK_RELEASE. -/
def State.releaseDue (s : State) (slot : Nat) (j : Job) : Option Result :=
  if j.phase = 5 ∧ j.hdr.opcode ≠ 0x1401 ∧ s.scheduleOver slot j then j.result else none

/-- A check of a running schedule fails: in its last beat, or in the middle for an error that the class's compares do not find
(R21, R22). -/
def State.failSchedule (s : State) (slot : Nat) (j : Job) (src : Nat) : State :=
  if j.phase ≠ 5 then s
  else if j.hdr.opcode = 0x1401 ∧ j.orderOver ≤ s.beat then s.failCheck slot src j.orderOver
  else match s.releaseDue slot j with
    | some r => s.release slot j r (some src)
    | none => if endCheck src then s else s.failCheck slot src (s.beat + 1)

/-- RELEASE (R23): the last beat of the schedule has run. `failed` names the source of a check that fails (R22), which may end the job
in the middle of its schedule, or of an error that is corrected (R407). -/
def execRelease (slot : Fin 4096) (failed : Option (Fin 192)) (s : State) : Host.Outcome State Fault Refusal :=
  .next (match s.job? slot.val with
    | none => s
    | some j =>
      if j.phase ≠ 5 then s
      else
        let fails := j.fails failed
        let s1 := match fails.filter corrected with
          | some src => s.correct slot.val j src
          | none => s
        match s1.job? slot.val, fails.filter (fun x => !corrected x) with
        | none, _ => s1
        | some k, some src => s1.failSchedule slot.val k src
        | some k, none => match (s1.releaseDue slot.val k).filter (fun r => !r.more) with
          | some r => s1.release slot.val k r none
          | none => s1)

/-! ### Chunks and slices (R181, R267) -/

/-- A chunk is released: its output is written, its unit wiped, and the next chunk waits with the age of this beat (R90, R267), while
its input is read on (R68). A
bus error ends the job at this boundary, and so does Quiesce (R24, R438). -/
def State.releaseChunk (s : State) (slot : Nat) (j : Job) (r : Result) : State :=
  let endBeat := s.releaseBeat j
  if !r.out.isEmpty && !s.canSend j.domain then s.outputRefused slot j endBeat
  else if j.dmaErr.isSome then (s.writeOut slot j r.out).endJob slot stDmaError (j.dmaErr.getD 0) endBeat
  else if !s.serves then (s.writeOut slot j r.out).endJob slot stQuiesced 0 endBeat
  else
    let s1 := (s.writeOut slot j r.out).onJob slot (fun k =>
      { k with phase := 3, chunk := k.chunk + 1, age := endBeat, result := none, schedLen := 0, partner := none, unit2 := none,
               blocks := min (k.chunk + 1) 0x7FF })
    (j.unitsHeld.foldl (fun a u => a.startWipe slot u endBeat) (s1.freeHolds slot endBeat)).askReads slot

/-- CHUNK_RELEASE (R267). -/
def execChunkRelease (slot : Fin 4096) (s : State) : Host.Outcome State Fault Refusal :=
  .next (match s.job? slot.val with
    | none => s
    | some j =>
      match j.result with
      | none => s
      | some r => if j.phase ≠ 5 ∨ !r.more ∨ !s.scheduleOver slot.val j then s else s.releaseChunk slot.val j r)

/-- The frame of a task that a micro-trap suspends: what it holds of the micro-program is free (R421). -/
def trapFrame (k slot beat : Nat) : TrapFrame :=
  { pc := Config.free k % 2 ^ 15, loops := (List.range 4).map (fun i => Config.free k / 2 ^ (15 + 16 * i) % 2 ^ 16),
    flags := Config.free k / 2 ^ 79 % 2 ^ 16, beat := beat, slot := slot, save := Config.free k / 2 ^ 95 % 2 ^ 48 }

/-- A slice that leaves its task suspended saves its frame, in the unit and in the save area of the job (R181, R421). -/
def State.saveFrame (s : State) (slot : Nat) (j : Job) (x : Nat × Nat × Nat) : Job × State :=
  let here := fun (l : List Nat) => (l.filter (fun u => u == x.1)).length
  if here (j.saved.map (·.1)) < here (j.suspended.map (·.1)) then
    let f := trapFrame s.fresh slot x.2.2
    let v := s.unit cHawkmoth x.1
    ({ j with saved := j.saved ++ [(x.1, f)] }, s.draw.2.setUnit cHawkmoth x.1 { v with frames := v.frames ++ [f] })
  else (j, s)

/-- The frame of a slice is saved, and its lane group wiped (R181). With no slice left and tasks to run, the job is between
slices, in phase 3, where it ends if Quiesce has begun (R438), or a bus error waits for it (R24). -/
def State.endSlice (s0 : State) (slot : Nat) (j0 : Job) (x : Nat × Nat × Nat) : State :=
  let (j, s) := s0.saveFrame slot j0 x
  let left := j.slices.erase x
  let endBeat := x.2.1 + x.2.2
  let idle := left.isEmpty && !(j.tasks.isEmpty && j.suspended.isEmpty)
  let s1 := (s.setJob slot { j with slices := left, blocks := min (j.blocks + 1) 0x7FF, sliceAges := tput j.sliceAges x.1 endBeat,
                                    phase := if idle then 3 else j.phase }).startWipe slot (cHawkmoth, x.1) endBeat
  if idle ∧ !s1.serves then s1.meetJob slot .quiesce
  else match idle, j.dmaErr with
    | true, some a => s1.endJob slot stDmaError a endBeat
    | _, _ => s1

/-- HBS_SLICE_END (R181): the slice ends, or the check of its last beat fails (R22). The operand is the lane group with the source of
a failed check. -/
def execHbsSliceEnd (slot : Nat) (slice : Fin 12 × Option (Fin 192)) (s : State) : Host.Outcome State Fault Refusal :=
  .next (match s.job? slot with
    | none => s
    | some j =>
      match j.slices.find? (fun x => x.1 == slice.1.val) with
      | some x =>
        if j.phase ≠ 5 ∨ s.beat < x.2.1 + x.2.2 then s
        else
          let over_ := x.2.1 + x.2.2
          match j.fails slice.2 with
          | some src =>
            if corrected src then
              let s1 := s.correct slot j src
              (match s1.job? slot with
                | some k => if k.phase = 5 then s1.endSlice slot k x else s1
                | none => s1)
            else s.failCheckOn slot (if unowned src then none else some (cHawkmoth, slice.1.val)) src over_
          | none => s.endSlice slot j x
      | none => s)

/-! ### Wipe (R23, R91) -/

/-- Every unit of a job in phase 8 has been wiped. -/
def State.unitsWiped (s : State) (slot : Nat) : Bool := s.jobs.units.all (fun x => !x.2.busy || x.2.holder != slot)

/-- A wiped unit is free, or passes to the composite job that has reserved it (R162). -/
def State.freeUnit (s : State) (c u : Nat) : State :=
  let x := s.unit c u
  match s.jobs.holds.find? (fun h => c == cIbex && h.kind == hkUnit && h.place == u && h.slot != x.holder) with
  | some h => s.setUnit c u { x with holder := h.slot, wipeEnd := h.till, freeAt := some h.till, shares := [], frames := [] }
  | none => s.setUnit c u { x with busy := false, holder := 0, wipeEnd := 0, freeAt := none, shares := [], frames := [] }

/-- Class and unit of the Muntjac core, which WIPE_END names by class 0 (R274). -/
def wipedUnit (c u : Nat) : Nat × Nat := if c = 0 then (6, 0x80) else (c, u)

/-- WIPE_END (R23): the 2-beat wipe of a unit, or of the lane of a lane job, has ended. -/
def execWipeEnd (cls : Fin 8) (unit : Fin 16) (s : State) : Host.Outcome State Fault Refusal :=
  let w := wipedUnit cls.val unit.val
  let x := s.unit w.1 w.2
  let s1 := if x.busy && x.wipeEnd != 0 && decide (x.wipeEnd ≤ s.beat) then s.freeUnit w.1 w.2 else s
  let wipedNow := s1.slotsWhere (fun j => j.phase == 8 && decide (j.endBeat + 2 ≤ s.beat)
    && (j.unit == some w || j.unit2 == some w || (w.1 == cHawkmoth && j.slices.any (fun y => y.1 == w.2))))
  let s2 := { s1 with jobs := { s1.jobs with holds := s1.jobs.holds.filter (fun h =>
    !(h.kind == hkLaneJob && w == (cHawkmoth, h.place) && decide (h.till ≤ s.beat))) } }
  .next ((wipedNow.filter s2.unitsWiped).foldl (fun a n => a.onJob n (fun j => { j with phase := 9, wiped := true })) s2)

/-! ### The completion record (R43 to R45, R71) -/

/-- The slot holds a job that was admitted before a sequence number. -/
def State.holdsOlder (s : State) (seq n : Nat) : Bool := ((s.job? n).map (fun k => decide (k.seq < seq))).getD false

/-- A DESTROY waits for the wipe of the jobs staged with its entry, an order for its sweep, which none runs in Lockdown, an ABORT for its
target (R20, R49, R334, R440). -/
def State.completionWaits (s : State) (j : Job) : Bool :=
  s.jobs.slots.any (fun x => decide (x.1 < 4096) && decide (x.2.phase ≤ 8) && j.waitFor.contains x.2.seq)
    || ((j.sweepOf.map (fun d => (s.dom d).dstate == 2 && s.mode.mode != mLockdown)).getD false)
    || (j.hdr.opcode == 0x1504 && ((j.target.map (s.holdsOlder j.seq)).getD false))

/-- The completion of a job is ready to be written. -/
def State.ready (s : State) (j : Job) : Bool := j.phase == 9 && j.wiped && !s.completionWaits j

/-- DESTROY_COMPLETION (R20): every job staged with the entry has finished its wipe. -/
def execDestroyCompletion (slot : Fin 4096) (s : State) : Host.Outcome State Fault Refusal :=
  .next (s.onJob slot.val (fun j =>
    if j.hdr.opcode = 0x1002 ∧ j.phase = 9 ∧ !s.completionWaits j then { j with waitFor := [] } else j))

/-- The 32 bytes of a completion record (R43). -/
def Job.record (j : Job) (phase : Bool) : Bytes :=
  let cls := (j.unit.map (·.1)).getD 0
  leBytes 2 j.hdr.tag ++ [u8 (j.status.getD 0),
      u8 (128 * flag phase + 16 * cls + 8 * flag j.expanded + (j.blocks / 256) % 8)]
    ++ leBytes 4 (holdAt 32 (j.endBeat - j.admitBeat)) ++ leBytes 4 (holdAt 32 j.written) ++ leBytes 4 (holdAt 32 j.exposed)
    ++ [u8 (j.blocks % 256), u8 ((j.unit.map (·.2)).getD 0xFF)] ++ zeros 6 ++ leBytes 8 j.info

/-- The dictionary key of the latency monitor of a queue. -/
def latencyKey (n : Nat) : Nat := entryKey (0x7010 + n / 128) (n % 128 + 1)

/-- Jobs ended with success count in the life records, by operation group (R468). -/
def State.countLife (s : State) (j : Job) : State :=
  if success (j.status.getD 0xFF) then
    { s with dict := { s.dict with life := { s.dict.life with jobs := countAdd s.dict.life.jobs (j.hdr.opcode / 256) 1 58 } } }
  else s

/-- A completion message goes at once (R245): a long Ibex schedule, or key generation of class 0x9. A job that ends before its schedule
has run has none that is long; the spec does not say whether the schedule that it would have had counts (DESIGN CHOICE; log 75). -/
def Job.signalsAtOnce (j : Job) : Bool :=
  ((j.unit.map (·.1)).getD 0 == cIbex && decide (j.cfg 0x3240 8 ≤ j.schedLen)) || (j.hdr.opcode == 0x1001 && j.pb.cls == 9)

/-- The interrupt of a written completion (R73, R245). -/
def State.interruptFor (s : State) (j : Job) : State :=
  let n := j.queue
  let q := s.queue n
  if j.signalsAtOnce then s.signal (s.qcfg n 1) (s.qcfg n 8)
  else if !j.hdr.has flIntr then s
  else
    let s1 := s.setQueue n { q with intrCount := q.intrCount + 1, intrFirst := if q.intrCount = 0 then s.beat else q.intrFirst }
    if s1.qcfg n 9 ≤ q.intrCount + 1 then s1.queueMessage n else s1

/-- CQ_TAIL advances past a written entry; PHASE turns at the end of the ring (R58, R71). -/
def State.advanceCq (s : State) (n : Nat) : State :=
  let q := s.queue n
  let next := (q.cqTail + 1) % s.ringSize n
  s.setQueue n { q with cqTail := next, cqPhase := if next = 0 then !q.cqPhase else q.cqPhase, unread := q.unread + 1 }

/-- The steps that follow the completion of an order that changes the life cycle (R347); from Lockdown no device reset leads to
Reset (R437, R440). -/
def State.afterLcOrder (s : State) (slot : Nat) : State :=
  if s.sec.lcOrder ≠ some slot then s
  else if s.mode.mode = mLockdown ∨ s.mode.mode = mDormant then s.clearLc
  else s.clearLc.deviceReset 3

/-- The completion of a job is written, and its slot is free (R71). -/
def State.writeCompletion (s : State) (slot : Nat) (j : Job) : State :=
  let n := j.queue
  let q := s.queue n
  let s1 := if q.silent then s.dropJob slot
    else if s.canSend j.domain then
      let beats := holdAt 32 (j.endBeat - j.admitBeat)
      let s2 := (((s.send (.completion n q.cqTail (j.record q.cqPhase))).dropJob slot).advanceCq n).interruptFor j
      (s2.sampleMonitor (latencyKey n) beats beats)
    else s.dropCompletion slot j
  ((s1.countLife j).afterLcOrder slot).finishLockdown

/-- COMPLETION_WRITE (R71): completions of one queue that are ready take entries in the order of their age. -/
def execCompletionWrite (slot : Fin 4096) (s : State) : Host.Outcome State Fault Refusal :=
  .next (match s.job? slot.val with
    | none => s
    | some j =>
      if !s.ready j || s.jobs.slots.any (fun x => x.2.queue == j.queue && s.ready x.2 && older (s.ageOf x.2) (s.ageOf j)) then s
      else s.writeCompletion slot.val j)

/-! ### Refused writes (R80) -/

/-- The write is due: output that the job has just released, the OWN clear of its admission beat, or a completion that is ready. -/
def State.writeDue (s : State) (j : Job) : PostedWrite → Bool
  | .output _ => decide (7 ≤ j.phase) && j.written != 0 && decide (s.beat ≤ j.endBeat + 2)
  | .ownClear _ => j.admitBeat == s.beat
  | .completion _ => s.ready j

/-- The job whose write it is. -/
def postedSlot : PostedWrite → Nat
  | .output k => k.val
  | .ownClear k => k.val
  | .completion k => k.val

/-- The output of a released job is refused: its bytes count as not written, and the queue halts (R51, R80). -/
def State.outputLost (s : State) (slot : Nat) (j : Job) : State :=
  let addr := spanAddr j.outWalk.spans j.outFrom
  let kept := { j with written := j.outFrom }
  (if j.status = some stUncommitted then s.setJob slot kept else s.overrule slot kept stDmaError addr).writeRefused j.queue addr

/-- POSTED_WRITE_REFUSED (R80): the endpoint cannot send a write of the function that is due. An output that the job has released
is lost, and the job ends with DMA_ERROR, which R46 settles as late as phase 9, and a stream job loses its context (R51); one that
created an entry keeps its own status, so that the entry is reported (R79; DEDUCED; log 25). A job that ended before its release keeps
its status too: what it writes is zeros over exposed plaintext (R266). -/
def execPostedWriteRefused (write : PostedWrite) (s : State) : Host.Outcome State Fault Refusal :=
  .next (match s.job? (postedSlot write) with
    | none => s
    | some j =>
      if s.canSend j.domain || !s.writeDue j write then s
      else match write with
        | .completion k => (((s.dropCompletion k.val j).countLife j).afterLcOrder k.val).finishLockdown
        | .ownClear _ => s.writeRefused j.queue (s.qcfg j.queue 4 + 64 * j.ringIndex + 5)
        | .output k =>
          if (j.status.map success).getD false then s.outputLost k.val j
          else s.writeRefused j.queue (((zeroPieces j.outWalk.spans j.written).head?.map (·.1)).getD j.hdr.outAddr))

end Sys2Proof.Machine
end

