-- ==== Sys2Proof/Machine/Envelope.lean ====
section
/-! DEFINITION. Key update envelopes and attestation (R338 to R342, R350, R351), and the end of expansion runs (R18). -/

namespace Sys2Proof.Machine

open Sys2Proof

/-! ### Signature blocks (R325, R328) -/

/-- SHA3-256 of the public keys of a signature block or roster record (R325). -/
def blockHash (x : Bytes) : Bytes := sha3_256 (slice x 4 2017)

/-- The PAIRED bit of a block. -/
def blockPaired (x : Bytes) : Bool := bit (byteAt x 1) 0

/-- ECDSA P-256 with SHA-256 over a digest. -/
def p256Verifies (pk digest sig : Bytes) : Bool :=
  pointOk 1 pk && ecdsaRange 1 sig && ecdsaVerifies 1 pk (primOut .digest [[1#8], digest] 32) sig

/-- The signatures of a block over a digest, both halves where it is paired (R328). -/
def blockVerifies (x digest : Bytes) (ctx : List Char) : Bool :=
  let pk := slice x 4 1952
  dsaVerifies 2 pk (dsaMu pk ([0#8, u8 ctx.length] ++ ascii ctx ++ digest)) (slice x 2024 3309)
    && (!blockPaired x || p256Verifies (slice x 1956 65) digest (slice x 5333 64))

/-- The block is that of a live slot: its hash and PAIRED bit match (R329 step 3). -/
def slotMatches (slots : List (Nat × Officer)) (n : Nat) (x : Bytes) : Bool :=
  match tget slots n with
  | some o => o.hash == blockHash x && o.paired == blockPaired x
  | none => false

/-- The reserved fields of a signature block are zero (R328). -/
def blockReserved (x : Bytes) : Bool :=
  decide (byteAt x 1 ≤ 1) && allZero (slice x 2 2) && allZero (slice x 2021 3) && allZero (slice x 5397 3)

/-! ### The checks of an envelope (R338 to R340) -/

/-- ENV_FLAGS: REPLACE. -/
def envReplace (b : Bytes) : Bool := bit (byteAt b 5) 0

/-- ENV_FLAGS: PUBLIC. -/
def envPublic (b : Bytes) : Bool := bit (byteAt b 5) 1

/-- CLASS and PSET. -/
def envClass (b : Bytes) : Nat := byteAt b 41 % 16

/-- PSET. -/
def envPset (b : Bytes) : Nat := byteAt b 42

/-- ATTRIBUTES. -/
def envAttrs (b : Bytes) : Nat := field b 56 8

/-- Bytes before the signature block. -/
def envBefore (b : Bytes) : Nat := 80 + (if envPublic b then 0 else 1568) + field b 68 4

/-- BODY. -/
def envBody (b : Bytes) : Bytes := slice b (80 + (if envPublic b then 0 else 1568)) (field b 68 4)

/-- The classes whose public keys of at most 3,072 bytes a public-only entry holds (R289). -/
def publicOnly (cls pset : Nat) : Bool :=
  !symmetricClass cls && !stateful cls && decide (publicLen cls pset ≤ 3072)

/-- Step 1. -/
def envFormat (d : Nat) (b : Bytes) : Bool :=
  decide (80 ≤ b.length) && field b 0 4 == 0x45554B51 && byteAt b 4 == 1 && decide (byteAt b 5 ≤ 3) && decide (byteAt b 6 ≤ 1)
    && byteAt b 7 == 0 && byteAt b 40 == d && byteAt b 41 / 16 == 0 && byteAt b 43 == 0 && !attrReserved (envAttrs b)
    && (envReplace b || field b 64 2 == 0) && allZero (slice b 66 2) && allZero (slice b 72 8)
    && classPset (envClass b) (envPset b) && b.length == envBefore b + 5400 && blockReserved (b.drop (envBefore b))
    && (if envPublic b then publicOnly (envClass b) (envPset b) && field b 68 4 == publicLen (envClass b) (envPset b)
        else field b 68 4 % 8 == 0 && decide (48 ≤ field b 68 4))

/-- Step 3. -/
def State.envSigned (s : State) (d : Nat) (b : Bytes) : Bool :=
  let x := b.drop (envBefore b)
  let digest := primOut .digest [[9#8], b.take (envBefore b)] 64
  byteAt x 0 == byteAt b 6 && slotMatches (s.dom d).authorities (byteAt b 6) x && blockVerifies x digest "QKUE1".toList

/-- The registered import key of a domain, if its entry is live (R337). -/
def State.importKeyOf (s : State) (d : Nat) : Option Key :=
  match s.resolve d (s.dom d).importKey (fun k => k.cls == 1 && k.pset == 3 && k.state == 1) false with
  | .inr (_, k) => some k
  | .inl _ => none

/-- The key that wraps the body. -/
def envKek (k : Key) (b : Bytes) : Bytes := kmac256 (mlkemRecover 3 k.secret (slice b 80 1568)) (b.take 80) 32 "QKUE".toList

/-- The blob under the body, none where the unwrap fails its integrity check. -/
def envBlob (k : Key) (b : Bytes) : Option Bytes :=
  let args := [envKek k b, [1#8], envBody b]
  if Config.primB .kwOk args then some (primOut .kwUnwrap args (min (Config.primN .kwUnwrap args) ((envBody b).length - 8))) else none

/-- SECRET of a blob. -/
def blobSecret (blob : Bytes) : Bytes := blob.drop 32

/-- The length of a class's stored form, with FIXED where the key carries DEV_IV (R228, R262, R338). -/
def storedForm (cls pset attrs : Nat) (secret : Bytes) : Bool :=
  if cls = 9 then
    let n := byteAt secret (rsaK pset)
    let e := beNat (secret.drop (rsaK pset + 1))
    secret.length == rsaK pset + 1 + n
      && (if rsaGeneral pset then decide (n ≤ if pset = 0x12 then 15 else 32) && e % 2 == 1 && decide (65536 < e) else n == 0)
  else secret.length == secretLen cls pset + (if bit attrs aDevIv then 4 else 0)

/-- Step 6. -/
def blobMatches (b blob : Bytes) : Bool :=
  decide (32 ≤ blob.length) && field blob 0 4 == 0x314B5851 && byteAt blob 4 == 1 && byteAt blob 5 == envClass b
    && byteAt blob 6 == envPset b && byteAt blob 7 == 0 && field blob 8 8 == envAttrs b && allZero (slice blob 26 6)
    && field blob 24 2 == (blobSecret blob).length && storedForm (envClass b) (envPset b) (envAttrs b) (blobSecret blob)

/-- Step 7: classes and keys that no envelope brings in; a HERD_REPLICATE entry where R502 allows none among them. -/
def State.envRefused (s : State) (b secret : Bytes) : Bool :=
  let cls := envClass b
  let pset := envPset b
  let attrs := envAttrs b
  stateful cls || (cls == 8 && !Config.primB .checkOk [tag 8 pset, secret])
    || (cls == 12 && decide (0x10 < pset) && secret.take (secretLen 12 pset / 2) == secret.drop (secretLen 12 pset / 2))
    || (bit attrs aDevIv && (bit attrs aHerd || cls != 12 || decide (3 < pset)))
    || (bit attrs aHerd && !s.mayReplicate)

/-- Step 8. -/
def State.envTargetOk (s : State) (j : Job) (b : Bytes) : Bool :=
  if envReplace b then
    match s.key? (envelopeTarget b) with
    | some k => k.domain == j.domain && (k.state == 1 || k.state == 2) && k.gen == field b 64 2 && k.cls == envClass b
        && k.pset == envPset b && k.span == envelopeSpan b && k.gen != 0xFFFF
    | none => false
  else j.newIndex.isSome

/-- R233 on the primes and exponent of an imported RSA key. -/
def rsaStringOk (pset : Nat) (x : Bytes) : Bool :=
  let half := rsaK pset / 2
  let bits := 8 * rsaK pset
  let p := beNat (x.take half)
  let q := beNat (slice x half half)
  let e := if rsaGeneral pset then beNat (x.drop (2 * half + 1)) else 65537
  let prime := fun (v : Bytes) => Config.primB .primeOk [tag 9 pset, v]
  decide (2 ^ (bits - 1) ≤ p * p) && decide (2 ^ (bits - 1) ≤ q * q) && decide (q < p) && decide (2 ^ (bits / 2 - 100) < p - q)
    && Nat.gcd e ((p - 1) * (q - 1)) == 1 && prime (x.take half) && prime (slice x half half)

/-- Step 9 for a secret key. -/
def secretStatus (cls pset : Nat) (secret : Bytes) : Nat :=
  if cls = 9 then (if rsaStringOk pset secret then stUncommitted else stModulusInvalid)
  else if cls = 10 then (if scalarOk pset secret then stUncommitted else stInputRange)
  else stUncommitted

/-- Step 9 for a public key: the checks of the class on a key supplied by the host. -/
def publicStatus (cls pset : Nat) (pk : Bytes) : Nat :=
  let curve := fun (c p : Nat) (k : Bytes) =>
    if c = 10 then pointOk p k else if c = 11 ∧ p ≤ 2 then edKeyOk p k else true
  match cls with
  | 1 => if ekOk pk then stUncommitted else stInputRange
  | 3 => if fnPkOk pset pk then stUncommitted else stInputRange
  | 7 => if paddingOk 7 pset pk then stUncommitted else stInputRange
  | 9 => (rsaPkStatus pset pk).getD stUncommitted
  | 10 | 11 => if curve cls pset pk then stUncommitted else stPointInvalid
  | 15 =>
    let n := publicLen1 (pairHalves pset).1.1 (pairHalves pset).1.2
    if (pairHalves pset).1.1 = 1 ∧ !ekOk (pk.take n) then stInputRange
    else if curve (pairHalves pset).2.1 (pairHalves pset).2.2 (pk.drop n) then stUncommitted else stPointInvalid
  | _ => stUncommitted

/-- Beats of the class check (R342): the expansion run of a secret key, for RSA with the full test of both primes; for a public
key the check of the class, whose length the spec states for classes 0x1 and 0xA alone (log 10). -/
def checkBeats (cls pset : Nat) (pub : Bool) : Nat :=
  if pub then
    (match cls with
     | 1 => nth [4, 5, 6] pset
     | 10 => nth [6, 8, 12] pset
     | _ => Config.checkLen cls pset)
  else if expUnits cls pset = 0 then 0
  else expSched cls pset + (if cls = 9 then 2 * rsaChunk pset 1 else 0)

/-- What an accepted envelope releases. -/
def envResult (j : Job) (secret : Bytes) : Result :=
  let b := j.input
  let cls := envClass b
  let pset := envPset b
  let pub := envPublic b
  let fixed := secret.drop (secretLen cls pset)
  { status := if pub then publicStatus cls pset (envBody b) else secretStatus cls pset secret,
    entryClass := cls, entryPset := pset, entryAttrs := some (envAttrs b), entryPublic := pub, replaces := envReplace b,
    entryBody := if pub then fit (96 * publicSpan (publicLen cls pset)) (envBody b)
      else if bit (envAttrs b) aDevIv then devIvBody 0 (secretBody cls pset (secret.take (secretLen cls pset))) fixed
      else secretBody cls pset secret }

/-- The first failing step of R339, or the secret that the envelope carries (empty for a public key). -/
def State.envSteps (s : State) (j : Job) : Nat ⊕ Bytes :=
  let b := j.input
  let d := j.domain
  if !envFormat d b then .inl 1
  else if slice b 8 32 ≠ deviceIdBytes then .inl 2
  else if !s.envSigned d b then .inl 3
  else if field b 48 8 ≠ (s.dom d).importCounter + 1 then .inl 4
  else
    let rest := fun (secret : Bytes) =>
      if s.envRefused b secret then (.inl 7 : Nat ⊕ Bytes) else if !s.envTargetOk j b then .inl 8 else .inr secret
    if envPublic b then rest []
    else match (s.importKeyOf d).bind (fun k => envBlob k b) with
      | none => .inl 5
      | some blob => if blobMatches b blob then rest (blobSecret blob) else .inl 6

/-- Beats of the whole schedule and the result, noted with the failing step and what the class check needs: its length, and the class,
set and form that the envelope names. Every step is computed in full, so that the class check follows whichever step fails; no
check is defined for a class or set that R278 does not define (R339, R342). -/
def State.envRun (s : State) (slot : Nat) (j : Job) : State :=
  let len := envelopeLen j.hdr j.input
  let b := j.input
  let beats := if classPset (envClass b) (envPset b) then checkBeats (envClass b) (envPset b) (envPublic b) else 0
  let noted := fun (cause : Nat) =>
    s.onJob slot (fun k => { k with scratch := [cause, beats, envClass b, envPset b, flag (envPublic b)] })
  match s.envSteps j with
  | .inl n => (noted n).finish slot len { status := stEnvelopeInvalid }
  | .inr secret => (noted 0).finish slot len (envResult j secret)

/-- IMPORT_ENVELOPE (R338, R339). -/
def execImportEnvelope (slot : Fin 4096) (s : State) : Host.Outcome State Fault Refusal :=
  s.runOp slot.val 0x1005 fun s j => (s.envRun slot.val j).useMasks (if envPublic j.input then 0 else 10240)

/-! ### The end of an expansion run (R18, R342) -/

/-- Masks of the class check of an envelope: those of the class's expansion run, and for RSA those of the two full tests (R224, R342);
a public key has none. -/
def checkMasks (k : Key) : Nat := if k.state = 2 then 0 else genMasksOf k.cls k.pset + (if k.cls = 9 then 2 * rsaChunkMasks k.pset 1 else 0)

/-- The class check of an envelope ends, and the envelope is released with it: the completion carries EXPANDED, and the
material stays in the expansion cache (R342). For a class-0x3 seed of which no candidate passes the spec gives the check no status: the
envelope is released all the same (DESIGN CHOICE; log 75). -/
def State.endCheck (s : State) (slot : Nat) (e : Job) (k : Key) : State :=
  let endAt := e.granted + 2 + e.runLen k
  let s0 := (if k.cls = 8 ∧ k.state = 1 then s.cmAttempt else s).useMasks (checkMasks k)
  let s1 := ((s0.takeCheckUnit slot).stopInternal (4096 + slot) endAt).onJob slot (fun j =>
    { j with expanded := true, schedLen := endAt - j.granted - 2 })
  match s1.job? slot with
  | none => s1
  | some j =>
    match j.result with
    | none => s1
    | some r =>
      let s2 := s1.releaseJob slot j r
      let made := if success r.status && !r.entryPublic then (s2.job? slot).map (fun x => handleIndex x.info) else none
      match made.bind (fun i => (s2.key? i).map (fun x => (i, x))) with
      | some (i, x) => s2.leaveExpansion i x
      | none => s2

/-- A run has ended: an expansion for a waiting job, or the class check of an envelope. -/
def State.endRun (s : State) (slot : Nat) (e : Job) (k : Key) : State :=
  match e.keyIndex with
  | some i => s.endExpansion slot e k i
  | none => s.endCheck slot e k

/-- EXPANSION_RUN (R18): the fixed schedule of the run that was inserted for a waiting job, or of the class check of an
envelope, ends, or the check of its last beat fails (R22). The operand is the job's slot with the source of a failed check. -/
def execExpansionRun (run : Fin 4096 × Option (Fin 192)) (s : State) : Host.Outcome State Fault Refusal :=
  let slot := run.1.val
  .next (match s.job? (4096 + slot) with
    | none => s
    | some e =>
      match e.key with
      | none => s
      | some k =>
        if e.phase ≠ 5 ∨ s.beat < e.granted + 2 + e.runLen k then s
        else
          let over_ := e.granted + 2 + e.runLen k
          match e.fails run.2 with
          | none => s.endRun slot e k
          | some src =>
            if corrected src then
              let s1 := s.correct (4096 + slot) e src
              (if (s1.job? (4096 + slot)).isSome then s1.endRun slot e k else s1)
            else s.failExpansion slot e src over_)

/-! ### Signatures of the identity key (R348, R160) -/

/-- The secrets of the two halves of the identity key: its seeds, unsealed under the identity seal key (R343, R348; the form of the seal
is not stated, log 2). -/
def State.identityHalves (s : State) : Bytes × Bytes :=
  let x := primOut .unseal [identitySealKey, s.sec.idSealed] 80
  (x.take 32, x.drop 32)

/-- A composite signature with PSET 0x14 under a context string: the attempts of its lattice half, and the bytes of the
signature of an attempt (R159, R160). -/
def pairPasses (keys : Bytes × Bytes) (pk ctx m rnd : Bytes) (a : Nat) : Bool :=
  let c := csigPrefix 0x14 ++ ctx
  dsaPasses 3 keys.1 (dsaMu pk ([0#8, u8 c.length] ++ c ++ m)) (rnd.take 32) a

/-- The header and block that stand for a context string. -/
def ctxBlock (ctx : Bytes) : ParamBlock := { present := true, body := u8 ctx.length :: ctx }

/-- The signature of attempt `a`. -/
def pairSignature (keys : Bytes × Bytes) (pk ctx m rnd : Bytes) (a : Nat) : Bytes :=
  let c := csigPrefix 0x14 ++ ctx
  let mu := dsaMu pk ([0#8, u8 c.length] ++ c ++ m)
  [1#8, 0x14#8] ++ leBytes 2 (dsaSig 3) ++ dsaSignature 3 keys.1 mu (rnd.take 32) a
    ++ clSign 0x14 keys.2 (csigClassical { pset := 0x14 } (ctxBlock ctx) m) (some (rnd.drop 32))

/-- A composite signature with PSET 0x14 verifies (R161). -/
def pairVerifies (pk pkCl ctx m sig : Bytes) : Bool :=
  let c := csigPrefix 0x14 ++ ctx
  byteAt sig 0 == 1 && byteAt sig 1 == 0x14 && field sig 2 2 == dsaSig 3
    && dsaVerifies 3 pk (dsaMu pk ([0#8, u8 c.length] ++ c ++ m)) (slice sig 4 (dsaSig 3))
    && clVerifies 0x14 pkCl (csigClassical { pset := 0x14 } (ctxBlock ctx) m) (sig.drop (4 + dsaSig 3))

/-! ### Attestation (R350, R351) -/

/-- A TLV. -/
def tlv (t : Nat) (v : Bytes) : Bytes := leBytes 2 t ++ leBytes 2 v.length ++ v

/-- FUSED_SOURCES. -/
def State.fusedSources (s : State) : Bytes :=
  leBytes 24 ((List.range 192).foldl (fun m n => if s.isFused n then setBit m n else m) 0)

/-- The statement before its SIGNATURE, released at a beat. -/
def State.statement (s : State) (j : Job) (k : Key) (i beat : Nat) : Bytes :=
  let owner := j.hdr.auxHandle != 0
  ascii "QATS".toList ++ [1#8, 0#8] ++ leBytes 2 (s.statementLen j.input.length)
    ++ tlv 1 j.input
    ++ tlv 2 deviceIdBytes
    ++ tlv 3 (leBytes 8 (handleOf k.domain i k.gen k.cls) ++ [u8 k.cls, u8 k.pset, u8 k.state, u8 k.span])
    ++ tlv 4 k.pkHash
    ++ tlv 5 (leBytes 8 k.attrs)
    ++ tlv 6 ([u8 s.lcState, 0#8, 0#8, 0#8] ++ leBytes 4 s.lcSeq)
    ++ tlv 7 ((List.range 8).flatMap (fun n => (tget s.measure n).getD (zeros 48)))
    ++ tlv 8 s.fusedSources
    ++ tlv 9 ([u8 s.herd.members.length, u8 (s.herdPos.getD 0xFF), 0#8, 0#8] ++ s.herd.members.flatMap id)
    ++ tlv 10 (leBytes 6 s.calSec ++ [u8 (flag s.dict.calValid), 0#8])
    ++ tlv 11 (leBytes 8 beat)
    ++ tlv 12 ([u8 (flag owner), 0#8, 0#8, 0#8] ++ (if owner then (j.aux.map Key.pkHash).getD (zeros 32) else deviceIdBytes))

/-- The keys that sign: those of the owner attestation key, or of the identity key. -/
def State.attestKeys (s : State) (j : Job) : Bytes × Bytes := if j.hdr.auxHandle = 0 then s.identityHalves else pairKeys 0x14 j.auxSecret

/-- The lattice public key of the signer. -/
def attestPk (j : Job) : Bytes := if j.hdr.auxHandle = 0 then idPkPq else j.auxPk.take 2592

/-- The statement that a signature in block `b` covers: BEAT is the beat of the release that follows it. -/
def State.statementIn (s : State) (j : Job) (k : Key) (i b : Nat) : Bytes :=
  s.statement j k i (j.granted + 2 + (4 + max (140 * b + 28) 230 + 2))

/-- ATTEST (R350): the schedule of CSIG_SIGN with PSET 0x14 behind 4 beats; the signature is hedged, and its randomness comes
from internal instance 2 (R364). -/
def execAttest (slot : Fin 4096) (s : State) : Host.Outcome State Fault Refusal :=
  s.runOp slot.val 0x1006 fun s j =>
    match j.key, j.keyIndex with
    | some k, some i =>
      let rnd := j.random 88
      let ctx := ascii "QATT1".toList
      let m := fun (a : Nat) => s.statementIn j k i (a / 4 + 1)
      (s.signBlocks slot.val j 4 (dsaP 3) (dsaV 3) 4 (clLen 0x14 false) 2
        (fun a => pairPasses (s.attestKeys j) (attestPk j) ctx (m a) rnd a)
        (fun a => m a ++ tlv 0xFF (pairSignature (s.attestKeys j) (attestPk j) ctx (m a) rnd a))
        (fun _ => [])).useMasks (clMasks 0x14)
    | _, _ => s.finish slot.val 0 { status := stHandleStale }

end Sys2Proof.Machine
end

