-- ==== Sys2Proof/Machine/Orders.lean ====
section
/-! DEFINITION. Quorum orders: the checks of R329, the actions of R332, and the sweep of a domain (12, with R100, R192, R373,
R390, R409, R428, R470 and R495). -/

namespace Sys2Proof.Machine

open Sys2Proof

/-! ### The checks (R329) -/

/-- PAYLOAD of an order. -/
def orderPayload (b : Bytes) : Bytes := slice b 72 (field b 64 4)

/-- ORDER_DIGEST (R328). -/
def orderDigest (b : Bytes) : Bytes := primOut .digest [[9#8], b.take (72 + field b 64 4)] 64

/-- The signature blocks of an order. -/
def orderBlocks (b : Bytes) : List Bytes :=
  (List.range (byteAt b 5)).map (fun k => slice b (72 + field b 64 4 + 5400 * k) 5400)

/-- The records of the roster form (R333). -/
def rosterRecords (p : Bytes) : List Bytes := (List.range (byteAt p 2)).map (fun k => slice p (8 + 2024 * k) 2024)

/-- The officer slots that the roster form fills. -/
def rosterSlots (p : Bytes) : List (Nat × Officer) :=
  (List.range (byteAt p 2)).map (fun k =>
    let x := slice p (8 + 2024 * k) 2024
    (k, { hash := blockHash x, paired := blockPaired x }))

/-- The values rise strictly. -/
def rising : List Nat → Bool
  | a :: b :: r => decide (a < b) && rising (b :: r)
  | _ => true

/-- The roster and quorum that sign an order: those it installs, for OWNERSHIP in PROVISIONED and DECOMMISSIONED (R333). -/
def State.signers (s : State) (d action : Nat) (p : Bytes) : List (Nat × Officer) × Nat :=
  if action = 1 ∧ (s.lcState = 2 ∨ s.lcState = 4) then (rosterSlots p, byteAt p 1) else ((s.dom d).officers, (s.dom d).quorumM)

/-- Step 3. -/
def State.orderSigned (s : State) (d action : Nat) (b : Bytes) : Bool :=
  let x := s.signers d action (orderPayload b)
  let blocks := orderBlocks b
  rising (blocks.map (fun k => byteAt k 0)) && decide (x.2 ≤ blocks.length)
    && blocks.all (fun k => slotMatches x.1 (byteAt k 0) k && blockVerifies k (orderDigest b) "QORD1".toList)

/-- Step 5. -/
def State.orderTimely (s : State) (action : Nat) (b : Bytes) : Bool :=
  let na := field b 56 6
  if na = 0xFFFFFFFFFFFF then action == 1 || action == 0xC else s.dict.calValid && decide (s.dict.calSeconds ≤ na)

/-- Step 6: modes and life-cycle states of an action (R332). -/
def State.orderMode (s : State) (d action : Nat) : Bool :=
  let c := s.mode.mode == mCeremony
  let sv := s.mode.mode == mService || s.mode.mode == mDegraded
  let provisioned := s.lcState == 2
  let owned := s.lcState == 3
  match action with
  | 0x01 => c && (provisioned || s.lcState == 4 || s.lcState == 6)
  | 0x02 => c && (owned || s.lcState == 4 || s.lcState == 6)
  | 0x03 | 0x04 | 0x41 | 0x42 | 0x43 => (sv || c) && owned
  | 0x05 | 0x06 | 0x08 | 0x0C => (sv || c) && (provisioned || owned)
  | 0x07 | 0x09 | 0x0A => c && (provisioned || owned)
  | 0x0B | 0x0D => c && owned
  | 0x40 => (if d = 0 then c else sv) && (owned || (d == 0 && provisioned))
  | 0x44 => (if d = 0 then c else sv) && owned
  | _ => false

/-- The first failure of steps 1 to 6, with its INFO. -/
def State.orderFailure (s : State) (j : Job) : Option (Nat × Nat) :=
  let b := j.input
  let d := j.domain
  let a := j.hdr.pset
  if !orderFormat d j.hdr b then some (stOrderMalformed, 0)
  else if slice b 8 32 ≠ deviceIdBytes then some (stOrderDevice, 0)
  else if !s.orderSigned d a b then some (stOrderSignature, 0)
  else if field b 48 8 ≠ (s.dom d).orderCounter + 1 then some (stOrderCounter, (s.dom d).orderCounter)
  else if !s.orderTimely a b then some (stOrderExpired, 0)
  else if !s.orderMode d a then some (stOrderMode, 0)
  else none

/-! ### The end of an order (R329, R330) -/

/-- L of ORDER_SUBMIT (R330). -/
def Job.orderLen (j : Job) : Nat := orderSigs j.domain j.hdr j.input + 320

/-- What an order that has been applied leaves in the record: the counter, and beside it the last order (R324, R329, R355). -/
def State.countOrder (s : State) (d : Nat) (digest : Bytes) : State :=
  let s1 := s.writeDom d { s.dom d with orderCounter := (s.dom d).orderCounter + 1 }
  { s1 with sec := { s1.sec with lastOrder := tput s1.sec.lastOrder d (digest, s1.beat) } }

/-- The job of an order ends with a status: it is released, unless its own action has ended it. -/
def State.closeOrder (s : State) (slot : Nat) (st info : Nat) : State :=
  match s.job? slot with
  | some j =>
    if j.phase = 5 then
      let k := { j with schedLen := j.orderLen }
      (s.setJob slot k).release slot k { status := st, info := info } none
    else s
  | none => s

/-- An action: step 7, none where it fails with INPUT_RANGE, and otherwise the status and the state that it leaves. -/
abbrev Action := State → Nat → Job → Bytes → Option (Nat × State)

/-- The checks and the action at the last beat of the schedule. -/
def State.endOrder (s : State) (slot : Nat) (j : Job) (act : Action) : State :=
  match s.orderFailure j with
  | some (st, info) => s.closeOrder slot st info
  | none =>
    match act s slot j (orderPayload j.input) with
    | none => s.closeOrder slot stInputRange 0
    | some (st, t) =>
      (t.countOrder j.domain (orderDigest j.input)).closeOrder slot st ((s.dom j.domain).orderCounter + 1)

/-- A row of an order action: it acts at the end of the schedule of an order that carries it (R329, R330). -/
def State.orderRow (s : State) (slot action : Nat) (act : Action) : Host.Outcome State Fault Refusal :=
  .next (match s.job? slot with
    | some j =>
      if j.phase = 5 ∧ j.hdr.opcode = 0x1401 ∧ j.hdr.pset = action ∧ j.granted + 2 + j.orderLen ≤ s.beat then s.endOrder slot j act else s
    | none => s)

/-! ### Rosters and domains (R325, R333, R334) -/

/-- Reserved fields of a roster record, and a zero PK_CL where it is not paired (R325, R328). -/
def recordOk (x : Bytes) : Bool :=
  decide (byteAt x 1 ≤ 1) && allZero (slice x 2 2) && allZero (slice x 2021 3) && (blockPaired x || allZero (slice x 1956 65))

/-- The records are distinct. -/
def apart : List Bytes → Bool
  | [] => true
  | x :: r => !r.contains x && apart r

/-- Step 7 for the roster form. -/
def rosterOk (p : Bytes) : Bool :=
  decide (2 ≤ byteAt p 1) && decide (byteAt p 1 ≤ byteAt p 2) && decide (byteAt p 2 ≤ 16) && allZero (slice p 3 5)
    && (rosterRecords p).all recordOk && apart (rosterRecords p)

/-- A record with the roster of a payload. -/
def DomRec.withRoster (r : DomRec) (p : Bytes) : DomRec := { r with officers := rosterSlots p, quorumM := byteAt p 1 }

/-- The life cycle changes with an order; what follows waits for its completion (R347). -/
def State.orderLc (s : State) (slot lc : Nat) : State :=
  let s1 := s.writeLc lc s.seedGen
  { s1 with sec := { s1.sec with lcOrder := some slot } }

/-- OWNERSHIP (R333, R346): from INTRUDED it is signed by the retained roster. -/
def actOwnership : Action := fun s slot _ p =>
  if byteAt p 0 = 0 ∧ rosterOk p then some (stOk, (s.writeDom 0 ((s.dom 0).withRoster p)).orderLc slot 3) else none

/-- LC_SET (R345, R346): SCRAPPED erases the root seed and the identity key. -/
def actLcSet : Action := fun s slot _ p =>
  let target := byteAt p 0
  if !allZero (p.drop 1) then none
  else if s.lcState = 3 ∧ target = 4 then some (stOk, s.orderLc slot 4)
  else if (s.lcState = 4 ∨ s.lcState = 6) ∧ target = 5 then
    let s1 := s.orderLc slot 5
    some (stOk, { s1 with ao := { s1.ao with rootSeed := zeros 48, nextSeed := zeros 48, nextGen := 0 },
                          sec := { s1.sec with idSealed := [] } })
  else none

/-- DOMAIN_CREATE (R333). -/
def actDomainCreate : Action := fun s _ _ p =>
  let d := byteAt p 0
  if 1 ≤ d ∧ (s.dom d).dstate = 0 ∧ rosterOk p then
    some (stOk, (s.writeDom d { (s.dom d).withRoster p with dstate := 1, retire := false, authorities := [], importKey := 0 }).instantiate d)
  else none

/-- An epoch advance at a beat boundary (R334): steps 1 to 3. -/
def State.advanceEpoch (s : State) (d : Nat) (retire : Bool) : State :=
  let r := s.dom d
  let v := s.vault
  let seq := match v.pending with | some (n, _) => n + 1 | none => if v.roundOpen then v.nextSeq + 1 else v.nextSeq
  let s1 := s.writeDom d { r with epoch := bump 32 r.epoch 1, epochSeq := seq, dstate := 2,
                                  retire := retire || (r.dstate == 2 && r.retire) }
  let mine := fun (i : Nat) => ((s.keyAt i).map (fun x => x.2.domain == d)).getD false
  let s2 := { s1 with vault := { v with lines := v.lines.filter (fun l => !mine l.2) } }
  (s2.callPurge d).instantiate d

/-- An order that advances an epoch: its completion waits for the sweep (R334). -/
def State.orderAdvance (s : State) (slot d : Nat) (retire : Bool) : State :=
  (s.advanceEpoch d retire).onJob slot (fun j => { j with sweepOf := some d })

/-- DOMAIN_RETIRE (R334). -/
def actDomainRetire : Action := fun s slot _ p =>
  let d := byteAt p 0
  if 1 ≤ d ∧ allZero (p.drop 1) ∧ (s.dom d).dstate ≠ 0 then some (stUncommitted, s.orderAdvance slot d true) else none

/-- ROSTER_SET (R333). -/
def actRosterSet : Action := fun s _ j p =>
  if byteAt p 0 = 0 ∧ rosterOk p then some (stOk, s.writeDom j.domain ((s.dom j.domain).withRoster p)) else none

/-- EPOCH_ADVANCE (R334). -/
def actEpochAdvance : Action := fun s slot j _ => some (stUncommitted, s.orderAdvance slot j.domain false)

/-- OWNERSHIP. -/
def execOwnership (slot : Fin 4096) (s : State) : Host.Outcome State Fault Refusal := s.orderRow slot.val 0x01 actOwnership

/-- LC_SET. -/
def execLcSet (slot : Fin 4096) (s : State) : Host.Outcome State Fault Refusal := s.orderRow slot.val 0x02 actLcSet

/-- DOMAIN_CREATE. -/
def execDomainCreate (slot : Fin 4096) (s : State) : Host.Outcome State Fault Refusal := s.orderRow slot.val 0x03 actDomainCreate

/-- DOMAIN_RETIRE. -/
def execDomainRetire (slot : Fin 4096) (s : State) : Host.Outcome State Fault Refusal := s.orderRow slot.val 0x04 actDomainRetire

/-- ROSTER_SET. -/
def execRosterSet (slot : Fin 4096) (s : State) : Host.Outcome State Fault Refusal := s.orderRow slot.val 0x40 actRosterSet

/-- EPOCH_ADVANCE. -/
def execEpochAdvance (slot : Fin 4096) (s : State) : Host.Outcome State Fault Refusal := s.orderRow slot.val 0x44 actEpochAdvance

/-! ### Settings, wheel, fuses and forced events (R100, R336, R390, R409, R428) -/

/-- The records of a DICT_WRITE payload. -/
def dictRecords (p : Bytes) : List (EntryWrite × Bool) := (parseRecords p.length (field p 0 2) (p.drop 4)).getD []

/-- DICT_WRITE (R336): RWC entries, all together or none. -/
def actDictWrite : Action := fun s _ _ p =>
  let ws := (dictRecords p).map (·.1)
  let cand := s.putAll 0 ws
  let accepted := fun (w : EntryWrite) => match entryAt w.idx w.sub with
    | some e => e.acc == .rwc && writeResult s cand w == 0
    | none => false
  if field p 2 2 = 0 ∧ (dictRecords p).all (·.2) ∧ ws.all accepted then some (stOk, s.applyWrites 0 ws) else none

/-- DICT_WRITE. -/
def execDictWrite (slot : Fin 4096) (s : State) : Host.Outcome State Fault Refusal := s.orderRow slot.val 0x05 actDictWrite

/-- WHEEL_LOAD (R100 steps 4 and 5). -/
def actWheelLoad : Action := fun s _ _ p =>
  if s.wheel.stageCheck = 2 ∧ p = s.wheel.stageDigest then
    some (stOk, State.request { s with wheel := { s.wheel with swapState := 2 } } maSwap 0)
  else none

/-- WHEEL_LOAD. -/
def execWheelLoad (slot : Fin 4096) (s : State) : Host.Outcome State Fault Refusal := s.orderRow slot.val 0x06 actWheelLoad

/-- FUSE_DISABLE (R390). -/
def actFuseDisable : Action := fun s _ _ p =>
  let mask := field p 0 2
  if mask ≠ 0 ∧ mask < 512 ∧ field p 2 2 = 0 ∧ mask &&& s.ao.fused = 0 then some (stOk, s.beginFuse mask) else none

/-- FUSE_DISABLE. -/
def execFuseDisable (slot : Fin 4096) (s : State) : Host.Outcome State Fault Refusal := s.orderRow slot.val 0x07 actFuseDisable

/-- FORCE_SOURCE (R409): the event takes its full response in the beat in which the order takes effect. -/
def actForceSource : Action := fun s _ _ p =>
  if allZero (p.drop 1) ∧ s.forceable (byteAt p 0) then some (stOk, s.forced (byteAt p 0)) else none

/-- FORCE_SOURCE. -/
def execForceSource (slot : Fin 4096) (s : State) : Host.Outcome State Fault Refusal := s.orderRow slot.val 0x08 actForceSource

/-- PATCH_MIN (R428). -/
def actPatchMin : Action := fun s _ _ p =>
  let v := field p 0 4
  if s.patch.minVersion < v ∧ s.patch.status = 2 ∧ v ≤ s.patch.version then
    some (stOk, { s with patch := { s.patch with minVersion := v } })
  else none

/-- PATCH_MIN. -/
def execPatchMin (slot : Fin 4096) (s : State) : Host.Outcome State Fault Refusal := s.orderRow slot.val 0x09 actPatchMin

/-! ### Entropy study, the Herd and the calendar (R373, R447, R470, R495) -/

/-- SAMPLES of an ENTROPY_STUDY payload (R373). -/
def studyOk (p : Bytes) : Bool :=
  let n := field p 4 4
  decide (1 ≤ byteAt p 0) && decide (byteAt p 0 ≤ 15) && allZero (slice p 2 2)
    && ((byteAt p 1 == 1 && decide (1024 ≤ n) && decide (n ≤ 16777216)) || (byteAt p 1 == 2 && n == 1000000))

/-- ENTROPY_STUDY (R373): what is to be captured is noted. -/
def actEntropyStudy : Action := fun s _ _ p =>
  if studyOk p then
    some (stOk, { s with entropy := { s.entropy with studyMask := byteAt p 0, studyKind := byteAt p 1, studySamples := field p 4 4 },
                         mode := { s.mode with studyPending := true } })
  else none

/-- Once the order is over, the device passes through Quiesce (R447). -/
def State.studyQuiesce (s : State) : State :=
  if s.mode.studyPending ∧ s.mode.mode = mCeremony then (s.quiesceFor 1).writeStatus 1 0xFF 0 false s.mode.mode else s

/-- ENTROPY_STUDY. -/
def execEntropyStudy (slot : Fin 4096) (s : State) : Host.Outcome State Fault Refusal :=
  match s.orderRow slot.val 0x0A actEntropyStudy with
  | .next t => .next t.studyQuiesce
  | o => o

/-- ROSTER_HASH (R495). -/
def State.rosterHash (s : State) : Bytes :=
  let r := s.dom 0
  sha3_256 ([u8 r.quorumM] ++ (List.range 16).flatMap (fun n => ((tget r.officers n).map (·.hash)).getD (zeros 32))
    ++ leBytes 2 (r.officers.foldl (fun m o => if o.2.paired then setBit m o.1 else m) 0))

/-- The members of a table. -/
def tableMembers (p : Bytes) : List Bytes := (List.range (byteAt p 0)).map (fun k => slice p (40 + 32 * k) 32)

/-- NEIGHBOUR frames leave on every port that is up (R494). -/
def State.sendNeighbour (s : State) (q : Nat) : State :=
  match s.herdPos with
  | some me =>
    if (s.herdPort q).up then
      s.send (.herd q 1 (frameHeader 1 me 0xFF 7 2 33 s.herd.epoch 0 0 1 0 ++ deviceIdBytes ++ [u8 me]))
    else s
  | none => s

/-- A position of the table without its session: the counts since reset stay (R509). -/
def Peer.closed (x : Peer) : Peer where
  msgId := x.msgId
  framesTx := x.framesTx
  framesRx := x.framesRx
  faults := x.faults
  authFails := x.authFails
  applied := x.applied
  refused := x.refused
  lastRx := x.lastRx

/-- A new table takes effect: every session is closed, and the neighbours are asked anew; a request relayed before waits for its time
limit (R495, R500, R506). -/
def State.newTable (s : State) (p : Bytes) : State :=
  let h := s.herd
  let ports := h.ports.map (fun x => (x.1, { x.2 with neighbour := 0xFF, usable := false }))
  let s1 := { s with herd := { h with epoch := field p 4 4, members := tableMembers p, digest := sha3_256 p, ports := ports,
                                      peers := h.peers.map (fun (x : Nat × Peer) => (x.1, x.2.closed)), syncW1 := none, asked := [] } }
  (s1.sendNeighbour 0).sendNeighbour 1

/-- HERD_MEMBERSHIP (R495). -/
def actHerdMembership : Action := fun s _ _ p =>
  let ids := tableMembers p
  if s.herd.epoch < field p 4 4 ∧ byteAt p 0 ≤ 8 ∧ allZero (slice p 1 3) ∧ apart ids ∧ (ids.isEmpty ∨ ids.contains deviceIdBytes)
      ∧ slice p 8 32 = s.rosterHash then
    some (stOk, s.newTable p)
  else none

/-- HERD_MEMBERSHIP. -/
def execHerdMembership (slot : Fin 4096) (s : State) : Host.Outcome State Fault Refusal := s.orderRow slot.val 0x0B actHerdMembership

/-- TRIM of a CALENDAR_SET payload. -/
def calTrimOf (p : Bytes) : Int := let n := field p 6 2; if 32768 ≤ n then (n : Int) - 65536 else n

/-- CALENDAR_SET (R470, R472): CAL_SETS counts since CAL_VALID last became 1. -/
def actCalendarSet : Action := fun s _ _ p =>
  let only := bit (byteAt p 8) 0
  let d := s.dict
  if -2000 ≤ calTrimOf p ∧ calTrimOf p ≤ 2000 ∧ byteAt p 8 ≤ 1 ∧ allZero (slice p 9 3) ∧ (!only ∨ d.calValid) then
    some (stOk, { s with dict := { d with
      calSeconds := if only then d.calSeconds else field p 0 6, calFrac := 0, calTicks := 0, calValid := true,
      calTrim := calTrimOf p, calAcc := 0,
      calSetBeat := s.beat, calSets := if d.calValid then bump 32 d.calSets 1 else 1 } })
  else none

/-- CALENDAR_SET. -/
def execCalendarSet (slot : Fin 4096) (s : State) : Host.Outcome State Fault Refusal := s.orderRow slot.val 0x0C actCalendarSet

/-! ### Keys and authorities (R192 to R195, R337, R349) -/

/-- The live entry of a domain that a handle names with given bits of ATTRIBUTES (R337). -/
def State.registrable (s : State) (d handle cls pset : Nat) (bits : List Nat) : Option Key :=
  match s.resolve d handle (fun k => k.cls == cls && k.pset == pset && k.state == 1 && bits.all k.attr) false with
  | .inr (_, k) => some k
  | .inl _ => none

/-- ATTEST_KEY (R337, R349). -/
def actAttestKey : Action := fun s _ _ p =>
  let h := field p 0 8
  if h = 0 then some (stOk, { s with sec := { s.sec with attestKey := 0, attestHash := zeros 32 } })
  else (s.registrable 0 h 15 0x14 [aSign, aGenInside, aNeverExport]).map (fun k =>
    (stOk, { s with sec := { s.sec with attestKey := h, attestHash := k.pkHash } }))

/-- ATTEST_KEY. -/
def execAttestKey (slot : Fin 4096) (s : State) : Host.Outcome State Fault Refusal := s.orderRow slot.val 0x0D actAttestKey

/-- IMPORT_AUTHORITY (R337). -/
def actImportAuthority : Action := fun s _ j p =>
  let n := byteAt p 0
  let r := s.dom j.domain
  let x := p.drop 4
  if 1 < n ∨ 1 < byteAt p 1 ∨ !allZero (slice p 2 2) then none
  else if byteAt p 1 = 0 then some (stOk, s.writeDom j.domain { r with authorities := tdel r.authorities n })
  else if recordOk x then
    some (stOk, s.writeDom j.domain { r with authorities := tput r.authorities n { hash := blockHash x, paired := blockPaired x } })
  else none

/-- IMPORT_AUTHORITY. -/
def execImportAuthority (slot : Fin 4096) (s : State) : Host.Outcome State Fault Refusal := s.orderRow slot.val 0x41 actImportAuthority

/-- IMPORT_KEY (R337). -/
def actImportKey : Action := fun s _ j p =>
  let h := field p 0 8
  let r := s.dom j.domain
  if h = 0 then some (stOk, s.writeDom j.domain { r with importKey := 0 })
  else (s.registrable j.domain h 1 3 [aDecaps, aGenInside, aNeverExport]).map (fun _ =>
    (stOk, s.writeDom j.domain { r with importKey := h }))

/-- IMPORT_KEY. -/
def execImportKey (slot : Fin 4096) (s : State) : Host.Outcome State Fault Refusal := s.orderRow slot.val 0x42 actImportKey

/-- HBS_PARTITION (R192 to R195): the new epoch is announced to the peers (R505). -/
def actHbsPartition : Action := fun s _ j p =>
  let rest := p.drop 32
  let new := rest.take (partLen rest)
  let prev := rest.drop (partLen rest)
  match s.partitionKey j.domain (p.take 32) with
  | some (i, k) =>
    if partitionOk k new prev ∧ k.version ≠ 0xFFFFFFFF then
      let s1 := s.applyPartition i k new prev
      some (stUncommitted, s1.sendAll 0x13 s1.partitionStates)
    else none
  | none => none

/-- HBS_PARTITION. -/
def execHbsPartition (slot : Fin 4096) (s : State) : Host.Outcome State Fault Refusal := s.orderRow slot.val 0x43 actHbsPartition

/-! ### The sweep (R334) -/

/-- The first entries of the live keys of a domain with their spans. -/
def State.toSweep (s : State) (d : Nat) : List (Nat × Nat) := (s.liveKeys d).map (fun x => (x.1, x.2.span))

/-- EPOCH_SWEEP (R334): a beat of the sweep frees 32 entries of the domain, and with none left it ends. A sweep that a device reset
has cut off goes on once the image is accepted (R335). -/
def execEpochSweep (d : Fin 256) (s : State) : Host.Outcome State Fault Refusal :=
  .next (if (s.dom d.val).dstate ≠ 2 ∨ !s.vault.loaded then s
    else
      let s1 := (sweepTake 32 (s.toSweep d.val)).foldl State.sweepKey s
      if (s1.toSweep d.val).isEmpty then s1.endSweep d.val else s1)

end Sys2Proof.Machine
end

