-- ==== Sys2Proof/Machine/Values.lean ====
section
/-! DEFINITION. What the entries of the object dictionary read as, who may read them, and their descriptors (R453 to R458). -/

namespace Sys2Proof.Machine

open Sys2Proof

/-- A list of numbers, each in `n` bytes. -/
def listBytes (n : Nat) (l : List Nat) : Bytes := l.flatMap (leBytes n)

/-- A signed 64-bit value. -/
def i64Bytes (v : Int) : Bytes := leBytes 8 (v % 2 ^ 64).toNat

/-- A mask of the numbers below `n` that satisfy a test. -/
def maskBelow (n : Nat) (p : Nat → Bool) : Nat := (List.range n).foldl (fun m i => if p i then setBit m i else m) 0

/-- The 160 bytes of a monitor record (R466). -/
def Monitor.bytes (m : Monitor) : Bytes :=
  leBytes 8 m.samples ++ i64Bytes m.min ++ i64Bytes m.max ++ leBytes 8 m.clearBeat
    ++ listBytes 4 ((List.range 32).map (countOf m.bins))

/-! ### Numbers, by table (R354, R452, R104, R326, R85) -/

/-- Entries of 0x1000. -/
def State.num1000 (s : State) (sub : Nat) : Int :=
  match sub with
  | 2 => flag !Config.industrial
  | 3 => Config.serial
  | 4 => s.lcState
  | 5 => s.lcSeq
  | 6 => s.seedGen
  | 9 => min Config.idCertLen 16384
  | _ => 0

/-- Entries of 0x1100. -/
def State.num1100 (s : State) (sub : Nat) : Int :=
  match sub with
  | 1 => s.mode.mode
  | 2 => s.mode.prev
  | 3 => s.mode.modeBeat
  | 4 => s.mode.quiesceKind
  | 5 => s.mode.resetCause
  | 6 => s.mode.changes
  | _ => 0

/-- Entries of 0x1102. -/
def State.num1102 (s : State) (sub : Nat) : Int :=
  match sub with
  | 3 => s.mode.idleEntries
  | 4 => s.mode.idleBeats + (if s.mode.mode = mIdle then s.beat - s.mode.modeBeat else 0 : Nat)
  | _ => 0

/-- Entries of 0x1200; PLL_LOCK reads 1, for the spec gives no beat without a locked PLL and no state of it (DESIGN CHOICE; log 61). -/
def State.num1200 (s : State) (sub : Nat) : Int :=
  match sub with
  | 1 => s.beat
  | 2 => 1000000000
  | 3 => 128
  | 4 => 1
  | _ => 0

/-- Entries of 0x1201. -/
def State.num1201 (s : State) (sub : Nat) : Int :=
  match sub with
  | 2 => s.wheel.tier
  | 3 => s.wheel.tierNext
  | 5 => s.wheel.tierChanges
  | _ => 0

/-- Entries of 0x2000 + d. -/
def State.num2000 (s : State) (d sub : Nat) : Int :=
  let r := s.dom d
  match sub with
  | 1 => r.dstate
  | 2 => flag (d == 0)
  | 3 => r.epoch
  | 4 => r.epochSeq
  | 5 => r.orderCounter
  | 6 => r.importCounter
  | 7 => r.importCeil
  | 8 => r.quorumM
  | 9 => maskBelow 16 (fun n => (tget r.officers n).isSome)
  | 10 => maskBelow 16 (fun n => ((tget r.officers n).map (·.paired)).getD false)
  | 11 => maskBelow 2 (fun n => (tget r.authorities n).isSome)
  | 12 => r.importKey
  | 19 => countOf s.sec.envCause d
  | _ => 0

/-- The code of a queue state (R75). -/
def QState.code : QState → Nat
  | .disabled => 0 | .running => 1 | .stopped => 2 | .halted => 3

/-- The code of a fetch state (R75). -/
def Fetch.code : Fetch → Nat
  | .idle => 0 | .active => 1 | .paused => 2

/-- Entries of 0x2400 + n. -/
def State.num2400 (s : State) (n sub : Nat) : Int :=
  let q := s.queue n
  match sub with
  | 0x18 => q.state.code
  | 0x19 => q.sqHead
  | 0x1A => q.cqTail + 65536 * flag q.cqPhase
  | 0x1B => q.cqHead
  | 0x1C => q.haltCause
  | 0x1D => q.haltAddr
  | 0x1E => q.retryCount
  | 0x1F => q.violCount
  | _ => 0

/-- Entries of 0x3000; until Assembly has chosen a wheel they show the factory wheel with WHEEL_SOURCE 2, of which the spec gives no
default (DESIGN CHOICE; log 61). -/
def State.num3000 (s : State) (sub : Nat) : Int :=
  match sub with
  | 1 => s.wheel.id
  | 2 => s.wheel.source
  | 4 => s.position
  | 5 => s.wheel.offset
  | 7 => s.wheel.swapState
  | 8 => s.wheel.swapCount
  | 9 => s.wheel.swapBeat
  | _ => 0

/-- Entries of 0x3001. -/
def State.num3001 (s : State) (sub : Nat) : Int :=
  match sub with
  | 3 => s.wheel.staged.length
  | 4 => s.wheel.stageCheck
  | _ => 0

/-- Entries of 0x3010 + g. -/
def State.num3010 (s : State) (g sub : Nat) : Int :=
  match sub with
  | 2 => s.wheel.slices g
  | 3 => s.wheel.hcache g
  | 4 => s.wheel.dataShare g
  | _ => 0

/-- Entries of 0x3100. -/
def State.num3100 (s : State) (sub : Nat) : Int :=
  match sub with
  | 1 => flag s.degraded
  | 2 => (s.jobs.units.filter (fun x => x.2.state == 3)).length
  | 4 => s.selfTest.retestState
  | _ => 0

/-! ### Numbers of the vault, the generators and the AO domain (R321, R376, R403) -/

/-- Entries of the vault in one of two states. -/
def State.entriesIn (s : State) (a b : Nat) : Nat :=
  (s.vault.keys.filter (fun x => x.2.state == a || x.2.state == b)).foldl (fun n x => n + x.2.span) 0

/-- Entries of 0x4000. -/
def State.num4000 (s : State) (sub : Nat) : Int :=
  let v := s.vault
  match sub with
  | 1 => if v.pending.isSome then 3 else if v.roundOpen then 2 else flag v.loaded
  | 2 => s.entriesIn 1 2
  | 3 => 33554432 - s.entriesIn 1 2 - s.entriesIn 3 3
  | 4 => s.entriesIn 3 3
  | 5 => v.dirty.length
  | 6 => v.rootSeq
  | 7 => (v.pending.map (·.1)).getD 0
  | 8 => v.nextSeq
  | 9 => v.lastCommit
  | 10 => flag v.commitReq
  | 11 => s.exportLeft
  | 12 => 45056 - v.copies.length
  | _ => 0

/-- Entries of 0x4001 to 0x4005. -/
def State.num400x (s : State) (i sub : Nat) : Int :=
  let v := s.vault
  match i, sub with
  | 1, 2 => 10
  | 2, 4 => v.loadStatus
  | 2, 5 => v.loadCause
  | 2, 6 => v.loadPage
  | 2, 7 => v.loadSeq
  | 3, 1 => v.region
  | 3, 2 => v.slot
  | 3, 3 => v.wseq
  | 3, 4 => v.rotations
  | 3, 5 => v.torn
  | 4, 3 => s.dieTemp
  | 4, 4 => v.ceCount
  | 4, 5 => v.ueCount
  | 4, 6 => v.tagFails
  | 4, 7 => v.retrains
  | 4, 8 => v.scrubPasses
  | 5, 1 => v.hcHits
  | 5, 2 => v.hcMisses
  | 5, 3 => v.expHits
  | 5, 4 => v.expMisses
  | 5, 5 => unitsOf (v.expansions.filter (·.pinned)) + ((List.range 256).map s.counterUnits).sum
  | _, _ => 0

/-- Qualified noise sources as a mask. -/
def State.qualifiedMask (s : State) : Nat := maskBelow 4 s.qualified

/-- COND_CAPACITY in blocks per second (R361). -/
def State.condCapacity (s : State) : Nat :=
  if !s.entropyMin then 0 else if popcount 4 s.qualifiedMask = 2 then 83333 else 125000

/-- Entries of 0x5000, read by domain `d`. -/
def State.num5000 (s : State) (d sub : Nat) : Int :=
  match sub with
  | 1 => s.entropy.state
  | 2 => s.qualifiedMask
  | 3 => s.condCapacity
  | 9 => 7813
  | 10 => 15625
  | 11 => (s.drbg d).requests
  | _ => 0

/-- Entries of 0x5010 + i. -/
def State.num5010 (s : State) (i sub : Nat) : Int :=
  let x := s.source i
  match sub with
  | 1 => x.state
  | 2 => flag (designB i)
  | 3 => rctCutoff i
  | 4 => aptCutoff i
  | 5 => x.rctFails
  | 6 => x.aptFails
  | 7 => x.requals
  | 8 => x.lastFail
  | _ => 0

/-- STUDY_LEN: bits captured from the selected source (R376). -/
def State.studyLen (s : State) : Nat :=
  if s.entropy.studyState = 2 ∧ bit s.entropy.studyMask (s.cfg 0x5030 2) then s.entropy.studySamples else 0

/-- Entries of 0x5020 and 0x5030. -/
def State.num502x (s : State) (idx sub : Nat) : Int :=
  let e := s.entropy
  match idx, sub with
  | 0x5020, 1 => e.rootLast
  | 0x5020, 2 => e.rootReseeds
  | 0x5020, 3 => e.prRequests
  | 0x5020, 4 => e.starved
  | 0x5020, 5 => e.notReady
  | 0x5020, 6 => flag e.maskReady
  | 0x5020, 7 => e.maskBytes
  | 0x5030, 1 => e.studyState
  | 0x5030, 3 => s.studyLen
  | _, _ => 0

/-- State of a mesh or sense input: 0 unarmed, 1 armed, 2 fused, 3 alarmed. -/
def State.sensorState (s : State) (src : Nat) : Nat :=
  if s.ao.alarmed.contains src then 3 else if s.isFused src then 2 else flag (s.isArmed src)

/-- Entries of 0x6000. -/
def State.num6000 (s : State) (sub : Nat) : Int :=
  match sub with
  | 2 => s.ao.fused
  | 3 => s.ao.eraseMap
  | 4 => flag s.ao.intruded
  | 5 => flag s.ao.supplyVbat
  | 6 => s.ao.vbatMv
  | 8 => s.ao.aoTemp
  | _ => 0

/-- Entries of 0x6010 + m and 0x6020 + i. -/
def State.num60xx (s : State) (base i sub : Nat) : Int :=
  match base, sub with
  | 0x6010, 1 => s.sensorState i
  | 0x6010, 2 => flag ((s.mesh i).history == 0)
  | 0x6010, 3 => (s.mesh i).mismatches
  | 0x6010, 4 => (s.mesh i).lastMismatch
  | 0x6020, 4 => flag (s.sense i).level
  | 0x6020, 5 => s.sensorState (5 + i)
  | 0x6020, 6 => (s.sense i).transitions
  | _, _ => 0

/-- Entries of 0x6030 and 0x6040. -/
def State.num603x (s : State) (idx sub : Nat) : Int :=
  let a := s.ao
  match idx, sub with
  | 0x6030, 3 => a.dieTempA
  | 0x6030, 4 => a.dieTempB
  | 0x6030, 5 => a.lightLast
  | 0x6030, 6 => a.glitchMargin
  | 0x6030, 7 => a.detectorTests
  | 0x6040, 1 => a.logSeq
  | 0x6040, 2 => a.log.length
  | 0x6040, 5 => flag a.logChain
  | 0x6040, 6 => a.logCopied
  | _, _ => 0

/-! ### Numbers of faults, maintenance, monitors, the Herd and the ports (R407, R434, R471, R472, R509, R510) -/

/-- Entries of 0x6800 + n. -/
def State.num6800 (s : State) (n sub : Nat) : Int :=
  match sub with
  | 2 => (faultRow n).dflt
  | 3 => (faultRow n).min
  | 4 => (faultRow n).max
  | 6 => countOf s.fault.counts n
  | 7 => countOf s.fault.lastBeats n
  | _ => 0

/-- Entries of 0x6900 to 0x6903. -/
def State.num690x (s : State) (i sub : Nat) : Int :=
  match i, sub with
  | 0, 2 => s.selfTest.rollingNext
  | 0, 3 => s.selfTest.rollingPasses
  | 0, 4 => s.selfTest.rollingFails
  | 1, 3 => s.patch.staged.length
  | 1, 5 => s.patch.status
  | 1, 6 => s.patch.version
  | 1, 7 => s.patch.minVersion
  | 1, 8 => Config.romId
  | 2, 1 => maskBelow 9 (fun a => s.maint.running.any (fun x => x.1 == a))
  | 2, 2 => maskBelow 9 (fun a => s.maint.queue.any (fun x => x.act == a))
  | 3, 1 => s.fault.flogSeq
  | 3, 4 => s.fault.mlogSeq
  | 3, 7 => s.fault.shadowMismatches
  | _, _ => 0

/-- WEAR_PEAK: the writes of the most-written cell in parts per million of 10^9; the slots of a region and the two copies of a
record take turns (R308, R324, R468). -/
def LifeRecord.wearPeak (l : LifeRecord) : Nat :=
  let top := fun (t : List (Nat × Nat)) => t.foldl (fun m x => max m x.2) 0
  max (max (ceilDiv (top l.journal) 64) (ceilDiv (top l.domainWrites) 2)) (max (ceilDiv l.lcWrites 2) (ceilDiv l.lifeWrites 2)) / 1000

/-- Entries of 0x7000, 0x7800, 0x7810 and 0x7880. -/
def State.num7xxx (s : State) (idx sub : Nat) : Int :=
  let d := s.dict
  match idx, sub with
  | 0x7000, 3 => d.requests
  | 0x7000, 4 => d.errors
  | 0x7800, 1 => d.life.seconds
  | 0x7800, 2 => d.life.cycles
  | 0x7800, 8 => d.life.wearPeak
  | 0x7810, 1 => d.calSeconds
  | 0x7810, 2 => flag d.calValid
  | 0x7810, 3 => d.calTrim
  | 0x7810, 4 => d.calSetBeat
  | 0x7810, 5 => d.calSets
  | 0x7880, 3 => d.bootStaged.length
  | 0x7880, 5 => d.bootStatus
  | 0x7880, 6 => d.bootRecord
  | 0x7880, 7 => d.bootId
  | _, _ => 0

/-- HERD_STATE: 0 no table; 1 forming, while no session has been down; 2 every session formed; 3 some down (R509). -/
def State.herdState (s : State) : Nat :=
  if s.herd.members.isEmpty then 0
  else if s.peerList.all (fun p => (s.peer p).up) then 2
  else if s.peerList.any (fun p => !(s.peer p).up && (s.peer p).formedBeat != 0) then 3
  else 1

/-- Entries of 0x8000. -/
def State.num8000 (s : State) (sub : Nat) : Int :=
  match sub with
  | 1 => s.herdState
  | 2 => s.herd.epoch
  | 3 => s.herd.members.length
  | 4 => (s.herdPos).getD 0xFF
  | 7 => (s.leader).getD 0xFF
  | 8 => s.herd.align
  | _ => 0

/-- Entries of 0x8010 + p. -/
def State.num8010 (s : State) (p sub : Nat) : Int :=
  let x := s.peer p
  match sub with
  | 1 => x.state
  | 2 => (((s.route p).map (· + 1)).getD 0 : Nat)
  | 3 => x.framesTx
  | 4 => x.framesRx
  | 5 => x.faults
  | 6 => x.authFails
  | 7 => x.applied
  | 8 => x.refused
  | 9 => x.lastRx
  | _ => 0

/-- Entries of 0x8020 + q. -/
def State.num8020 (s : State) (q sub : Nat) : Int :=
  let x := s.herdPort q
  match sub with
  | 1 => flag x.up
  | 2 => x.trainings
  | 3 => x.neighbour
  | _ => 0

/-- Secure sessions that are open (R485). -/
def PortState.sessions (p : PortState) : Nat :=
  p.spdm.foldl (fun n t => n + (t.2.sessions.filter (fun x => x.2.formed)).length) 0

/-- Entries of 0x9000 to 0x9004. -/
def State.num900x (s : State) (i sub : Nat) : Int :=
  match i, sub with
  | 0, 1 => s.link.speed
  | 0, 2 => s.link.width
  | 0, 3 => if s.port.vfEnable then s.port.numVfs else 0
  | 0, 4 => s.link.downs
  | 0, 5 => s.link.timeouts
  | 0, 6 => s.link.perstCount
  | 1, 3 => s.port.ptmUpdates
  | 1, 5 => s.port.ptmFails
  | 2, 3 => s.port.ideFails
  | 3, 2 => s.port.i3cAddr
  | 3, 3 => s.port.eid
  | 3, 4 => s.port.mctpErrors
  | 4, 1 => s.port.spdmVersion
  | 4, 2 => s.port.sessions
  | 4, 3 => s.port.spdmErrors
  | _, _ => 0

/-- The value of a numeric RO entry of a table, read by domain `d`. -/
def State.number (s : State) (d base i sub : Nat) : Int :=
  match base with
  | 0x1000 => s.num1000 sub
  | 0x1100 => s.num1100 sub
  | 0x1101 => s.mode.serviceBeat
  | 0x1102 => s.num1102 sub
  | 0x1103 => s.mode.dsrSeq
  | 0x1200 => s.num1200 sub
  | 0x1201 => s.num1201 sub
  | 0x2000 => s.num2000 i sub
  | 0x2400 => s.num2400 i sub
  | 0x3000 => s.num3000 sub
  | 0x3001 => s.num3001 sub
  | 0x3010 => s.num3010 i sub
  | 0x3100 => s.num3100 sub
  | 0x4000 => s.num4000 sub
  | 0x4001 | 0x4002 | 0x4003 | 0x4004 | 0x4005 => s.num400x (base - 0x4000) sub
  | 0x4800 => if sub = 0x14 then (((tget s.sec.lastOrder i).map (·.2)).getD 0 : Nat) else s.sec.attestKey
  | 0x5000 => s.num5000 d sub
  | 0x5010 => s.num5010 i sub
  | 0x5020 | 0x5030 => s.num502x base sub
  | 0x6000 => s.num6000 sub
  | 0x6010 | 0x6020 => s.num60xx base i sub
  | 0x6030 | 0x6040 => s.num603x base sub
  | 0x6800 => s.num6800 i sub
  | 0x6900 | 0x6901 | 0x6902 | 0x6903 => s.num690x (base - 0x6900) sub
  | 0x7000 | 0x7800 | 0x7810 | 0x7880 => s.num7xxx base sub
  | 0x8000 => s.num8000 sub
  | 0x8010 => s.num8010 i sub
  | 0x8020 => s.num8020 i sub
  | 0x9000 | 0x9001 | 0x9002 | 0x9003 | 0x9004 => s.num900x (base - 0x9000) sub
  | _ => countOf s.counts (entryKey base sub)

/-! ### Byte strings -/

/-- Cells of a group per class that the active tier keeps (R105), or only those of units in service. -/
def State.rights (s : State) (g : Nat) (live : Bool) : List Nat :=
  (List.range 65536).foldl (fun l k =>
    let p := k / 16
    let col := k % 16
    let c := s.wheel.cell p col
    let cls := columnClass col
    if c.valid && c.group == g && s.wheel.kept s.wheel.tier p col && (!live || (s.unit cls c.unit).live s.beat) then
      l.set (cls - 1) (l.getD (cls - 1) 0 + 1)
    else l) (List.replicate 7 0)

/-- A counter per class 1 to 7 of a group. -/
def classCounts (t : List (Nat × Nat)) (g : Nat) : Bytes := listBytes 8 ((List.range 7).map (fun c => countOf t (8 * g + c + 1)))

/-- UNIT_STATE of a unit: 4 where no group owns it (R432). -/
def State.unitCode (s : State) (cls u : Nat) : Nat :=
  let x := s.unit cls u
  if x.state ≠ 0 then x.state else if u < classUnits cls ∧ s.wheel.unitOwner cls u = 0xFF then 4 else 0

/-- The byte strings of the wheel's entries. -/
def State.bytes30xx (s : State) (base i sub : Nat) : Bytes :=
  let w := s.wheel
  match base, sub with
  | 0x3000, 3 => if w.digest.isEmpty then sha3_384 factoryImage else w.digest
  | 0x3000, 6 => w.bootDigest
  | 0x3000, 10 => listBytes 1 ((List.range 256).map w.groupOf)
  | 0x3000, 11 => match w.image with
    | some b => slice b 0x140 64
    | none => listBytes 1 (List.replicate 60 0 ++ List.replicate 4 0xFF)
  | 0x3001, 5 => w.stageDigest
  | 0x3010, 1 => leBytes 32 (maskBelow 256 (fun d => w.groupOf d == i))
  | 0x3010, 5 => listBytes 2 (s.rights i false)
  | 0x3010, 6 => listBytes 2 (s.rights i true)
  | 0x3010, 7 => classCounts w.grantedCount i
  | 0x3010, 8 => classCounts w.borrowedCount i
  | 0x3010, 9 => classCounts w.unusedCount i
  | _, _ => []

/-- The record at a slot of a ring of fault records, newest first (R412, R413). -/
def ringRecord (log : List FaultRecord) (seq size slot : Nat) : Bytes :=
  match log[(seq + size - slot % size) % size]? with
  | some r => r.bytes
  | none => zeros 32

/-- JOB_COUNTS: 48 bits per group in units of 1,024 jobs (R468). -/
def LifeRecord.jobCounts (l : LifeRecord) : Bytes := (List.range 21).flatMap (fun g => leBytes 6 (countOf l.jobs (g + 1) / 1024))

/-- The byte strings of the life records. -/
def State.bytes7800 (s : State) (sub : Nat) : Bytes :=
  let l := s.dict.life
  match sub with
  | 3 => l.jobCounts
  | 4 => listBytes 4 ((List.range 192).map (countOf l.events))
  | 5 => listBytes 4 ((List.range 16).map (countOf l.thermal))
  | 6 => listBytes 8 ((List.range 16).map (countOf l.journal))
  | 7 => listBytes 8 [l.domainWrites.foldl (fun m x => max m x.2) 0, l.lcWrites, l.lifeWrites]
  | _ => []

/-- The byte strings of 0x4800 + d. -/
def State.bytes4800 (s : State) (d sub : Nat) : Bytes :=
  let r := s.dom d
  if sub ≤ 0x10 then ((tget r.officers (sub - 1)).map (·.hash)).getD []
  else if sub ≤ 0x12 then ((tget r.authorities (sub - 0x11)).map (·.hash)).getD []
  else if sub = 0x13 then ((tget s.sec.lastOrder d).map (·.1)).getD []
  else s.sec.attestHash

/-- The provisional ID of the management port (R489). -/
def i3cPid : Nat := 2 ^ 33 * (Config.mipiId % 2 ^ 15) + Config.serial % 2 ^ 32

/-- The value of an RO entry of a byte type, before it is padded to its size. -/
def State.bytesOf (s : State) (base i sub : Nat) : Bytes :=
  match base, sub with
  | 0x1000, 1 => deviceIdBytes
  | 0x1000, 7 => idPkPq
  | 0x1000, 8 => idPkCl
  | 0x1000, 10 => (List.range (min Config.idCertLen 16384)).map Config.idCert
  | 0x1001, k => (tget s.measure (k - 1)).getD []
  | 0x1101, _ => listBytes 8 ((List.range 8).map (fun k => countOf s.mode.startupBeats (k + 1)))
  | 0x1103, _ => s.mode.dsrLast
  | 0x1201, _ => listBytes 2 ((List.range 8).map s.wheel.rated)
  | 0x3101, 1 => listBytes 1 ((List.range 16).map (s.unitCode i))
  | 0x3101, 2 => listBytes 1 ((List.range 16).map (fun u => (s.unit i u).cause))
  | 0x3101, 3 => listBytes 8 ((List.range 16).map (fun u => (s.unit i u).lastTest))
  | 0x3201, _ => listBytes 8 ((List.range 8).map (fun b => countOf s.counts (entryKey 0x3201 (0x51 + b))))
  | 0x4006, 1 => listBytes 4 ((List.range 256).map s.entriesLive)
  | 0x4006, 2 => listBytes 4 ((List.range 256).map (fun d =>
      unitsOf (s.vault.expansions.filter (fun e => e.domain == d)) + s.counterUnits d))
  | 0x4800, k => s.bytes4800 i k
  | 0x5020, _ => listBytes 4 ((List.range 256).map (fun d => (s.drbg d).requests))
  | 0x5030, _ => (s.studyData.map (·.1)).getD []
  | 0x6040, _ => ((s.ao.log.find? (fun e => e.1 % 256 == s.cfg 0x6040 3)).map (·.2)).getD []
  | 0x6900, _ => leBytes 8 s.selfTest.startupFails
  | 0x6902, _ => listBytes 8 ((List.range 9).map (countOf s.maint.grants))
  | 0x6903, 3 => ringRecord s.fault.flog s.fault.flogSeq 1024 (s.cfg 0x6903 2)
  | 0x6903, 6 => ringRecord s.fault.mlog s.fault.mlogSeq 64 (s.cfg 0x6903 5)
  | 0x7000, _ => s.dict.lastError
  | 0x7010, k => (s.monitorShown (entryKey (0x7010 + i) k)).bytes
  | 0x7020, k => (s.monitorShown (entryKey 0x7020 k)).bytes
  | 0x7030, k => (s.monitorShown (entryKey 0x7030 k)).bytes
  | 0x7800, k => s.bytes7800 k
  | 0x8000, 5 => s.herd.members.flatten
  | 0x8000, 6 => s.herd.digest
  | 0x9001, 1 => s.port.ptmLast
  | 0x9001, 2 => s.port.ptmPrev
  | 0x9002, _ => listBytes 1 ((List.range 9).map (fun k => ((tget s.port.ide k).map (·.state)).getD 0))
  | 0x9003, _ => leBytes 6 i3cPid
  | _, _ => s.bytes30xx base i sub

/-! ### Values -/

/-- SUB_COUNT of an index: the highest subindex of its table. -/
def subCount (idx base i : Nat) : Nat :=
  if base = 0x4800 ∧ i ≠ 0 then 0x14
  else if base = 0xF000 then Config.vendorSubs idx
  else (rowsOf base).foldl (fun m e => max m e.subHi) 0

/-- The bytes of an entry's value, read by domain `d` (R453, R454). -/
def State.value (s : State) (d idx sub : Nat) (e : Entry) : Bytes :=
  let (base, i) := (family idx).getD (0, 0)
  if e.acc = .wo then zeros e.ty.size
  else if sub = 0 then leBytes 1 (subCount idx base i)
  else if idx = 0x1104 then leBytes 8 (countOf s.mode.dsrAddr d)
  else if idx = 0x7880 ∧ sub = 4 then fit 48 s.dict.bootHeld
  else if e.acc ≠ .ro then e.ty.encode (s.cfgI idx sub)
  else match e.ty with
    | .bytes n => fit n (s.bytesOf base i sub)
    | .digest384 => fit 48 (s.bytesOf base i sub)
    | t => t.encode (s.number d base i sub)

/-! ### Who may read (R85, R104, R105, R326, R354, R355, R376, R403, R434, R452, R471, R472, R509, R510) -/

/-- Indices that every domain may read. -/
def readByAll (idx sub : Nat) : Bool :=
  idx == 0x1000 || idx == 0x1001 || idx == 0x1100 || idx == 0x1101 || idx == 0x1103 || idx == 0x1104 || idx == 0x1200 || idx == 0x1201
    || (idx == 0x3000 && decide (1 ≤ sub) && decide (sub ≤ 5)) || (decide (0x3100 ≤ idx) && decide (idx ≤ 0x3107))
    || idx == 0x3200 || idx == 0x3210 || idx == 0x3220 || idx == 0x3230 || idx == 0x3240 || idx == 0x3250 || idx == 0x5000
    || (idx == 0x6000 && (sub == 1 || sub == 2)) || idx == 0x7810 || (decide (0x7010 ≤ idx) && decide (idx ≤ 0x7017) && sub == 0)
    || ((idx == 0x9000 || idx == 0x9001) && decide (1 ≤ sub) && decide (sub ≤ 3)) || decide (0xF000 ≤ idx)

/-- A tenant may read an entry that belongs to it. -/
def State.readsOwn (s : State) (d idx sub : Nat) : Bool :=
  idx == 0x2000 + d || idx == 0x4800 + d
    || (decide (0x2400 ≤ idx) && decide (idx ≤ 0x27FF) && s.qcfg (idx - 0x2400) 1 == d)
    || (decide (0x7010 ≤ idx) && decide (idx ≤ 0x7017) && s.qcfg (128 * (idx - 0x7010) + sub - 1) 1 == d)
    || (decide (0x3010 ≤ idx) && decide (idx ≤ 0x301F) && s.wheel.groupOf d == idx - 0x3010)

/-- The vendor test entries are open (R473). -/
def State.vendorOpen (s : State) : Bool := s.lcState == 0 || s.lcState == 1

/-- A domain may read an entry in the present mode (R440, R473). -/
def State.mayRead (s : State) (d idx sub : Nat) (e : Entry) : Bool :=
  (s.mode.mode != mLockdown || (d == 0 && e.acc == .ro)) && (d == 0 || readByAll idx sub || s.readsOwn d idx sub)

/-- The monitors that a MON_CLEAR names (R471): index and subindices; none where it names no monitor. -/
def monitorsNamed (v : Nat) : Option (List (Nat × Nat)) :=
  let idx := v % 65536
  let sub := v / 65536 % 256
  let top := if 0x7010 ≤ idx ∧ idx ≤ 0x7017 then 128 else if idx = 0x7020 then 7 else if idx = 0x7030 then 5 else 0
  if 2 ^ 25 ≤ v ∨ top = 0 then none
  else if bit v 24 then some ((List.range top).map (fun k => (idx, k + 1)))
  else if 1 ≤ sub ∧ sub ≤ top then some [(idx, sub)]
  else none

/-- A tenant owns the queue of a latency monitor (R471). -/
def State.ownsMonitor (s : State) (d : Nat) (m : Nat × Nat) : Bool :=
  decide (0x7010 ≤ m.1) && decide (m.1 ≤ 0x7017) && s.qcfg (128 * (m.1 - 0x7010) + m.2 - 1) 1 == d

/-- A domain may write an entry in the present mode, whatever its access code; RO entries are no tenant's to write. -/
def State.mayWrite (s : State) (d idx : Nat) (e : Entry) : Bool :=
  s.mode.mode != mLockdown
    && (match e.acc with
        | .rw => s.mayWriteRw d idx
        | .wo => d == 0 || idx == 0x7000
        | _ => d == 0)

/-! ### Descriptors (R458) -/

/-- Lower end of an entry's range. -/
def State.entryLo (s : State) (idx sub : Nat) (e : Entry) : Int :=
  if 0x6800 ≤ idx ∧ idx ≤ 0x68BF ∧ sub = 1 then (faultRow (idx - 0x6800)).min
  else if 0x2400 ≤ idx ∧ idx ≤ 0x27FF ∧ sub = 0x10 then max 1 (s.qcfg (idx - 0x2400) 0xF) else e.lo

/-- Upper end of an entry's range. -/
def State.entryHi (s : State) (idx sub : Nat) (e : Entry) : Int :=
  if 0x6800 ≤ idx ∧ idx ≤ 0x68BF ∧ sub = 1 then (faultRow (idx - 0x6800)).max
  else if idx = 0x6030 ∧ sub = 2 then (if Config.industrial then -450 else -50)
  else if 0x2400 ≤ idx ∧ idx ≤ 0x27FF then
    let n := idx - 0x2400
    match sub with
    | 2 => if s.qcfg n 1 = 0 ∨ s.qcfg n 1 = 0xFFFF then 255 else 63
    | 0xB => (s.qcfg n 0xC : Int) - 1
    | 0xD => (s.qcfg n 0xE : Int) - 16
    | _ => e.hi
  else e.hi

/-- DEFAULT of a numeric entry: the table's, or an open value where the table gives none (log 11). -/
def entryDefault (idx sub : Nat) : Int :=
  let (base, i) := (family idx).getD (0, 0)
  if sub = 0 then subCount idx base i
  else if openDefaults.contains (base, sub) then Config.openDefault idx sub else dfltOf idx sub

/-- The 48 bytes of a descriptor for a domain. -/
def State.descriptor (s : State) (d idx sub : Nat) (e : Entry) : Bytes :=
  let plain := match e.ty with | .bytes _ => true | .digest384 => true | _ => false
  let locked := e.acc == .rwl && s.dict.locked.contains (entryKey idx sub)
  let writes := s.mayWrite d idx e && !locked && (e.acc == .rw || e.acc == .rwl || e.acc == .wo) && stateOk s idx sub
  [u8 e.ty.code, u8 e.acc.code, u8 (flag locked + 2 * flag (s.mayRead d idx sub e) + 4 * flag writes + 8 * flag e.sparse), 0#8]
    ++ leBytes 4 e.ty.size ++ (if plain then zeros 8 else i64Bytes (entryDefault idx sub))
    ++ (if plain then zeros 16 else i64Bytes (s.entryLo idx sub e) ++ i64Bytes (s.entryHi idx sub e))
    ++ fit 12 (ascii e.unit.toList) ++ zeros 4

end Sys2Proof.Machine
end

