-- ==== Sys2Proof/Machine/Mctp.lean ====
section
/-! DEFINITION. What the Q9 sends over MCTP on the management port, and its violations (R490 to R492). -/

namespace Sys2Proof.Machine

open Sys2Proof

/-- One MCTP packet: header version 1, destination, source, flags and tag, and at most 64 bytes. -/
def mctpPacket (dest src flags : Nat) (data : Bytes) : Bytes := [1#8, u8 dest, u8 src, u8 flags] ++ data

/-- The packets of a message under a tag, from packet number `k` on; the first carries SOM and the last EOM. -/
def mctpPackets (dest src tag : Nat) : Nat → Nat → Bytes → List Bytes
  | 0, _, _ => []
  | n + 1, k, b =>
    let flags := 128 * flag (k == 0) + 64 * flag (decide (b.length ≤ 64)) + 16 * (k % 4) + tag % 8
    mctpPacket dest src flags (b.take 64) :: (if b.length ≤ 64 then [] else mctpPackets dest src tag n (k + 1) (b.drop 64))

/-- A packet is ready: an in-band interrupt with mandatory byte 0xAE, where the owner has enabled it (R490). -/
def State.raiseIbi (s : State) : State :=
  if s.port.i3cAddr ≠ 0 ∧ bit s.port.i3cEvents 0 then s.send (.ibi 0xAE) else s

/-- A message to an endpoint, under the tag of the request that it answers (R490). -/
def State.sendMctp (s : State) (dest tag : Nat) (msg : Bytes) : State :=
  let packets := mctpPackets dest s.port.eid tag (msg.length + 1) 0 msg
  let was := s.port.mctpOut.isEmpty
  let s1 := { s with port := { s.port with mctpOut := s.port.mctpOut ++ packets } }
  if was then s1.raiseIbi else s1

/-- A discarded or malformed packet, message or request: MCTP_VIOLATION, and one partner violation of domain 0 (R492). -/
def State.mctpViolation (s : State) : State :=
  (({ s with port := { s.port with mctpErrors := bump 32 s.port.mctpErrors 1 } }).raise 0xA7).violation 0 none

/-- A dictionary response as the body of a vendor-defined message (R491). -/
def State.answerI3c (s : State) (dest tag : Nat) (resp : Bytes) : State :=
  s.sendMctp dest tag ([0x7E#8, 0x1F#8, 0x4C#8, 0x81#8, 0#8] ++ resp)

end Sys2Proof.Machine
end

