-- ==== Sys2Proof/Machine/Dictionary.lean ====
section
/-! DEFINITION. The service of the object dictionary, the boot image's staging, monitors, life records and the calendar (17). -/

namespace Sys2Proof.Machine

open Sys2Proof

/-! ### WO entries (R105, R315, R344, R375, R409, R419, R424, R465, R471) -/

/-- A result of the dictionary with the state after it (R459). -/
def refuseWith (s : State) (code : Nat) : Nat × State := (code, s)

/-- The outcome of an action that may be refused. -/
def doneOr (s : State) (code : Nat) (o : Option State) : Nat × State :=
  match o with
  | some t => (0, t)
  | none => (code, s)

/-- The boot-image phase of Assembly (R465, R472). -/
def State.bootOpen (s : State) : Bool := s.mode.mode == mAssembly && s.mode.bootPhase

/-- A write of BOOT_RESET, none where it is refused. -/
def State.bootReset (s : State) : Option State :=
  if s.bootOpen then some { s with dict := { s.dict with bootStaged := [], bootStatus := 0 } } else none

/-- A write of BOOT_DATA, none where it is refused. -/
def State.bootData (s : State) (data : Bytes) : Option State :=
  if s.bootOpen ∧ s.dict.bootStaged.length + data.length ≤ 65536 then
    some { s with dict := { s.dict with bootStaged := s.dict.bootStaged ++ data, bootStatus := 1 } }
  else none

/-- A write of MEAS_EXTEND: slots 2 to 7 (R344, R354). -/
def State.measExtend (s : State) (v : Bytes) : Option State :=
  if 2 ≤ byteAt v 0 ∧ byteAt v 0 ≤ 7 then some (s.extend (byteAt v 0) (v.drop 1)) else none

/-- A write of MON_CLEAR by a domain (R467, R471). -/
def State.monClear (s : State) (d v : Nat) : Nat × State :=
  match monitorsNamed v with
  | none => refuseWith s (if d = 0 then 8 else 2)
  | some l =>
    if d ≠ 0 ∧ !(l.all (s.ownsMonitor d)) then refuseWith s 2
    else (0, l.foldl (fun a m => a.clearMonitor (entryKey m.1 m.2)) s)

/-- Entries that append: 1 to n bytes (R454). -/
def appends (idx sub : Nat) : Bool := (idx == 0x3001 || idx == 0x6901 || idx == 0x7880) && sub == 2

/-- The write of a WO entry by domain 0, past its checks of length and range. -/
def State.writeAction (s : State) (d idx sub : Nat) (data : Bytes) : Nat × State :=
  if idx = 0x1001 then doneOr s 8 (s.measExtend data)
  else if idx = 0x3001 then (if sub = 1 then (0, s.stageReset) else doneOr s 8 (s.stageData data))
  else if clearSub idx = some sub then (0, s.countClear idx)
  else if idx = 0x3100 then doneOr s 8 (s.retest (leNat data))
  else if idx = 0x4002 then
    (if s.mode.mode ≠ mAssembly then refuseWith s 7
     else doneOr s 8 (if leNat data = 1 then s.vloadImage else s.vloadEmpty))
  else if idx = 0x5030 then doneOr s 7 s.studyExit
  else if 0x6800 ≤ idx ∧ idx ≤ 0x68BF then doneOr s 8 (s.force (idx - 0x6800))
  else if idx = 0x6901 then
    (if !s.patchOpen then refuseWith s 7
     else doneOr s 8 (if sub = 1 then s.patchReset else if sub = 2 then s.patchData data else s.patchApply))
  else if idx = 0x7000 then s.monClear d (leNat data)
  else if idx = 0x7880 then
    (if !s.bootOpen then refuseWith s 7 else doneOr s 8 (if sub = 1 then s.bootReset else s.bootData data))
  else refuseWith s 8

/-- The write of a WO entry (R454, R459). -/
def State.writeOnly (s : State) (d idx sub : Nat) (e : Entry) (data : Bytes) : Nat × State :=
  if (if appends idx sub then decide (data.length < 1) || decide (e.ty.size < data.length) else data.length != e.ty.size) then
    refuseWith s 6
  else if !appends idx sub && idx != 0x1001 && !rangeOk s idx sub e (leNat data) then refuseWith s 5
  else s.writeAction d idx sub data

/-! ### Writes that take effect at the end of their beat (R454, R462) -/

/-- The indices of the vendor test entries (R473). -/
def vendorIndex (i : Nat) : Bool := decide (0xF000 ≤ i) && decide (i ≤ 0xF009)

/-- A write of a vendor test entry takes effect (R346): from BLANK the device comes to VENDOR_TEST; from VENDOR_TEST it is
provisioned, with an identity key, domain 0's roster, and a new root seed at the next start. Which writes take these steps is open
(log 11). -/
def State.vendorWrite (s : State) (w : EntryWrite) : State :=
  if Config.vendorWrite w.idx w.sub w.value ≠ 2 then s
  else if s.lcState = 0 then (s.writeLc 1 s.seedGen).advanceAll
  else if s.lcState = 1 then
    let (k, s1) := s.draw
    let p := Config.provisionRoster w.value
    let officers := (List.range (min 16 (p 0).toNat)).map (fun i =>
      (i, ({ hash := (List.range 32).map (fun n => p (64 * (i + 1) + n)), paired := (p (64 * (i + 1) + 32)).toNat % 2 == 1 } : Officer)))
    let s2 := (s1.writeDom 0 { s1.dom 0 with officers := officers, quorumM := (p 1).toNat }).writeLc 2 s.seedGen
    { s2 with sec := { s2.sec with idSealed := primOut .seal [identitySealKey, randomOut k 80] 80, seedDue := true } }
  else s

/-- A write that has been accepted takes effect. -/
def State.landWrite (s : State) (x : Nat × EntryWrite) : State :=
  match entryAt x.2.idx x.2.sub with
  | some e => if e.acc = .wo then (s.writeAction x.1 x.2.idx x.2.sub x.2.value).2 else s.applyWrites x.1 [x.2]
  | none => if vendorIndex x.2.idx then s.vendorWrite x.2 else s

/-- The writes of the beat take effect, in the order in which they were served. -/
def State.landWrites (s : State) : State := s.dict.late.foldl State.landWrite { s with dict := { s.dict with late := [] } }

/-! ### Serving a request (R454, R457 to R460) -/

/-- The fields of a request. -/
def parseRequest (b : Bytes) : Request where
  ver := byteAt b 0
  op := byteAt b 1
  seq := field b 2 2
  index := field b 4 2
  sub := byteAt b 6
  target := byteAt b 7
  offset := field b 8 4
  len := field b 12 2
  rsvd := field b 14 2
  data := b.drop 16

/-- A response (R458). -/
def Request.response (r : Request) (result valueLen : Nat) (data : Bytes) : Bytes :=
  [1#8, u8 (r.op ||| 128)] ++ leBytes 2 r.seq ++ leBytes 2 r.index ++ [u8 r.sub, u8 result] ++ leBytes 4 valueLen
    ++ leBytes 2 data.length ++ zeros 2 ++ data

/-- A request is malformed, whatever its path (R457, R459). -/
def Request.malformed (r : Request) : Bool :=
  r.ver != 1 || r.op == 0 || decide (4 < r.op) || r.rsvd != 0 || (decide (8 ≤ r.target) && r.target != 0xFF)
    || decide (1024 < r.len) || (r.op != 1 && r.offset != 0) || (decide (3 ≤ r.op) && r.len != 0)
    || (r.op == 2 && decide (r.data.length < r.len))

/-- A path accepts a request's TARGET (R460). -/
def State.targetOk (s : State) (p : DictPath) (t : Nat) : Bool :=
  match p with
  | .mailbox fn => fn.val == 0 || t == 0xFF
  | .i3c => true
  | .relay => t == 0xFF || s.herdPos == some t

/-- The answer to a request that is served: RESULT, VALUE_LEN, data, and the state after it. -/
structure Served where
  result : Nat
  valueLen : Nat := 0
  data : Bytes := []
  after : State

/-- A READ (R457 to R459); a read of STUDY_DATA advances. -/
def State.readEntry (s : State) (d : Nat) (r : Request) (e : Entry) : Served :=
  let out := fun (v : Bytes) (t : State) =>
    if v.length ≤ r.offset then ({ result := 5, after := s } : Served)
    else { result := 0, valueLen := v.length, data := slice v r.offset (if r.len = 0 then 1024 else r.len), after := t }
  if r.index = 0x5030 ∧ r.sub = 4 then
    match s.studyData with
    | some (v, t) => out v t
    | none => { result := 5, after := s }
  else out (s.value d r.index r.sub e) s

/-- The answer to a WRITE by a domain (R454, R459): its checks are made on the state that the writes served before it in the beat
will leave. -/
def State.writeCode (s : State) (d : Nat) (r : Request) (e : Entry) : Nat :=
  let data := r.data.take r.len
  let w : EntryWrite := { idx := r.index, sub := r.sub, value := data }
  let t := s.landWrites
  match e.acc with
  | .rwc => 4
  | .ro => 3
  | .rwf => if s.vendorOpen then 8 else 3
  | .wo => (t.writeOnly d r.index r.sub e data).1
  | .rw | .rwl =>
    if e.acc = .rwl ∧ s.dict.locked.contains (entryKey r.index r.sub) then 3 else writeResult t (t.putAll d [w]) w

/-- A WRITE by a domain: one that is accepted takes effect at the end of the beat, so that an event in the beat sees the old value
(R454); MON_CLEAR alone acts at once, so that a sample that follows in the beat falls into the emptied record (R467). -/
def State.writeEntryBy (s : State) (d : Nat) (r : Request) (e : Entry) : Nat × State :=
  let c := s.writeCode d r e
  if c ≠ 0 then refuseWith s c
  else if r.index = 0x7000 ∧ r.sub = 6 then s.monClear d (leNat (r.data.take r.len))
  else (0, s.writeLate d { idx := r.index, sub := r.sub, value := r.data.take r.len })

/-- A LOCK by a domain (R454, R459). -/
def State.lockEntry (s : State) (r : Request) (e : Entry) : Nat × State :=
  if e.acc = .rwl then (0, { s with dict := { s.dict with locked := insertNat s.dict.locked (entryKey r.index r.sub) } })
  else refuseWith s 0xB

/-- A request for this device, past the check of its form: `open_` says that the path is served, `writes` that it may write. -/
def State.serveLocal (s : State) (d : Nat) (open_ writes : Bool) (r : Request) : Served :=
  match entryAt r.index r.sub with
  | none =>
    let data := r.data.take r.len
    if vendorIndex r.index ∧ !s.vendorOpen then { result := 2, after := s }
    else if vendorIndex r.index && r.op == 2 && open_ && writes && d == 0 && Config.vendorWrite r.index r.sub data != 0 then
      { result := 0, valueLen := data.length, after := s.writeLate d { idx := r.index, sub := r.sub, value := data } }
    else { result := 1, after := s }
  | some e =>
    if !open_ then { result := 2, after := s }
    else if r.op = 1 then (if s.mayRead d r.index r.sub e then s.readEntry d r e else { result := 2, after := s })
    else if r.op = 4 then { result := 0, valueLen := 48, data := s.descriptor d r.index r.sub e, after := s }
    else if !writes || !s.mayWrite d r.index e then { result := 2, after := s }
    else
      let x := if r.op = 2 then s.writeEntryBy d r e else s.lockEntry r e
      { result := x.1, valueLen := if x.1 = 0 then e.ty.size else 0, after := x.2 }

/-! ### Paths (R460 to R463) -/

/-- The requester domain of a path. -/
def pathDomain : DictPath → Nat
  | .mailbox fn => fn.val
  | _ => 0

/-- The order in which paths take effect within a beat (R462). -/
def pathRank : DictPath → Nat
  | .mailbox fn => fn.val
  | .i3c => 256
  | .relay => 257

/-- The path as LAST_ERROR shows it (R471). -/
def pathCode : DictPath → Nat
  | .mailbox fn => if fn.val = 0 then 0 else 1
  | .i3c => 2
  | .relay => 3

/-- The mailbox of a function. -/
def State.box (s : State) (fn : Nat) : Mailbox := (tget s.dict.boxes fn).getD {}

/-- Sets a mailbox. -/
def State.setBox (s : State) (fn : Nat) (m : Mailbox) : State :=
  { s with dict := { s.dict with boxes := if m = {} then tdel s.dict.boxes fn else tput s.dict.boxes fn m } }

/-- A path is served in the present mode (R440, R445, R462, R501). -/
def State.pathServed (s : State) (p : DictPath) : Bool :=
  match p with
  | .mailbox _ => decide (3 ≤ s.mode.mode) && s.mode.mode != mIdle
  | .i3c => decide (2 ≤ s.mode.mode) && s.mode.mode != mIdle
  | .relay => s.serves

/-- A path that comes before one already served in this beat waits for the next (R462). -/
def State.inTurn (s : State) (p : DictPath) : Bool :=
  s.dict.served.1 != s.beat || decide (s.dict.served.2 ≤ pathRank p)

/-- The request that waits on a path and has not been relayed. -/
def State.waiting (s : State) (p : DictPath) : Option Bytes :=
  match p with
  | .mailbox fn =>
    let m := s.box fn.val
    if m.go && (fn.val != 0 || (tget s.herd.relays 0).isNone) then some m.captured else none
  | .i3c => if (tget s.herd.relays 1).isNone then s.port.asked.head?.map (·.2.2) else none
  | .relay => s.herd.asked.head?.map (·.2)

/-- The first bytes of a buffer replaced. -/
def overlay (old new : Bytes) : Bytes := new ++ old.drop new.length

/-- A response is put in place on its path (R461, R490, R506). -/
def State.answer (s : State) (p : DictPath) (resp : Bytes) : State :=
  match p with
  | .mailbox fn =>
    let m := s.box fn.val
    (s.setBox fn.val { m with rspHdr := resp.take 16, rspData := overlay m.rspData (resp.drop 16), go := false, rspValid := true,
                              captured := [] }).cause fn.val 2
  | .i3c =>
    match s.port.asked with
    | [] => s
    | x :: r => ({ s with port := { s.port with asked := r } }).answerI3c x.1 x.2.1 resp
  | .relay =>
    match s.herd.asked with
    | [] => s
    | x :: r => ({ s with herd := { s.herd with asked := r } }).sendHerd x.1 0x21 true resp

/-- A served request is counted, and an error kept as the last (R471). -/
def State.countRequest (s : State) (p : DictPath) (r : Request) (result : Nat) : State :=
  let d := s.dict
  let last := [u8 (pathCode p), u8 (pathDomain p)] ++ leBytes 2 r.index ++ [u8 r.sub, u8 result, u8 r.op, 0#8]
  { s with dict := { d with requests := bump 64 d.requests 1, errors := if result = 0 then d.errors else bump 32 d.errors 1,
                            lastError := if result = 0 then d.lastError else last } }

/-- A MALFORMED answer counts a partner violation (R463, R492). -/
def State.countMalformed (s : State) (p : DictPath) : State :=
  match p with
  | .mailbox fn => s.violation fn.val none
  | .i3c => s.mctpViolation
  | .relay => s

/-- A request is answered. -/
def State.finishRequest (s : State) (p : DictPath) (r : Request) (x : Served) : State :=
  let s1 := (x.after.countRequest p r x.result).answer p (r.response x.result x.valueLen x.data)
  let s2 := { s1 with dict := { s1.dict with served := (s.beat, pathRank p) } }
  if x.result = 9 then s2.countMalformed p else s2

/-- The key of a path in the table of relayed requests. -/
def relayKey : DictPath → Nat
  | .i3c => 1
  | _ => 0

/-- A request for another member is forwarded, or fails at once where no session to it is formed (R460, R506). -/
def State.relayRequest (s : State) (p : DictPath) (r : Request) (b : Bytes) : State :=
  if s.herdPos.isNone ∨ !(s.peer r.target).up then s.finishRequest p r { result := 0xA, after := s }
  else
    let s1 := s.sendHerd r.target 0x20 true (b.take (16 + (if r.op = 2 then r.len else 0)))
    { s1 with herd := { s1.herd with relays := tput s1.herd.relays (relayKey p) (r.target, b.take 16, s.beat) },
              dict := { s1.dict with served := (s.beat, pathRank p) } }

/-- A request of a path is served: its form, its path's limits, and then its entry, here or at another member. -/
def State.serveRequest (s : State) (p : DictPath) (b : Bytes) : State :=
  let r := parseRequest b
  let writes := p != .i3c || s.cfg 0x7000 1 == 1
  if r.malformed || !s.targetOk p r.target then s.finishRequest p r { result := 9, after := s }
  else if r.target ≠ 0xFF ∧ s.herdPos ≠ some r.target then
    (if (r.op == 2 || r.op == 3) && !writes then s.finishRequest p r { result := 2, after := s } else s.relayRequest p r b)
  else s.finishRequest p r (s.serveLocal (pathDomain p) (p != .relay || s.cfg 0x7000 2 == 1) writes r)

/-- The request that waits on a path is served, if a test of its OP holds. -/
def State.serveIf (s : State) (p : DictPath) (op : Nat → Bool) : State :=
  match s.waiting p with
  | none => s
  | some b => if op (byteAt b 1) && s.pathServed p && s.inTurn p then s.serveRequest p b else s

/-- The request that waits on a path is one of domain 0 to read FLOG_ENTRY of this device. -/
def State.readsLog (s : State) (p : DictPath) : Bool :=
  match s.waiting p with
  | none => false
  | some b =>
    let r := parseRequest b
    r.op == 1 && r.index == 0x6903 && r.sub == 3 && pathDomain p == 0 && (r.target == 0xFF || s.herdPos == some r.target)
      && s.pathServed p && s.inTurn p

/-- The record in the selected slot of the fault record log fails its parity: it is marked damaged, and FLOG_PARITY is raised (R407,
R412). -/
def State.damageRecord (s : State) : State :=
  let k := (s.fault.flogSeq + 1024 - s.cfg 0x6903 2 % 1024) % 1024
  let mark := fun (r : FaultRecord) => if bit r.rflags 5 then r else { r with rflags := r.rflags + 32 }
  ({ s with fault := { s.fault with flog := s.fault.flog.modify k mark } }).raise 0x48 { detail := s.cfg 0x6903 2 }

/-- READ (R457): a request with an OP that does not exist is answered here too. The operand is the path, and whether the parity of the
fault record that the request reads fails (R407). -/
def execRead (path : DictPath × Bool) (s : State) : Host.Outcome State Fault Refusal :=
  .next ((if path.2 && s.readsLog path.1 then s.damageRecord else s).serveIf path.1 (fun o => o != 2 && o != 3 && o != 4))

/-- WRITE (R457). -/
def execWrite (path : DictPath) (s : State) : Host.Outcome State Fault Refusal := .next (s.serveIf path (fun o => o == 2))

/-- LOCK (R454). -/
def execLock (path : DictPath) (s : State) : Host.Outcome State Fault Refusal := .next (s.serveIf path (fun o => o == 3))

/-- DESCRIBE (R458). -/
def execDescribe (path : DictPath) (s : State) : Host.Outcome State Fault Refusal := .next (s.serveIf path (fun o => o == 4))

/-- The paths whose requests another member serves. -/
def relayPath (k : Nat) : DictPath := if k = 1 then .i3c else .mailbox 0

/-- A relayed request is answered with a response of its member, unchanged (R460). -/
def State.relayAnswered (s : State) (k : Nat) (resp : Bytes) : State :=
  match tget s.herd.relays k with
  | none => s
  | some (_, h, _) =>
    let p := relayPath k
    let s1 := { s with herd := { s.herd with relays := tdel s.herd.relays k } }
    (s1.countRequest p (parseRequest h) (byteAt resp 7)).answer p resp

/-- RELAY_TIMEOUT (R506): no RELAY_RSP within RELAY_TIMEOUT. -/
def State.relayExpires (s : State) (k : Nat) : State :=
  match tget s.herd.relays k with
  | some (_, h, since) =>
    if since + msBeats (s.cfg 0x8000 14) ≤ s.beat then s.relayAnswered k ((parseRequest h).response 0xA 0 []) else s
  | none => s

/-- RELAY_TIMEOUT. -/
def execRelayTimeout (s : State) : Host.Outcome State Fault Refusal := .next ((s.relayExpires 0).relayExpires 1)

/-! ### Rows of their own for WO entries -/

/-- MON_CLEAR (R467, R471): a write by a domain. -/
def execMonClear (by_ : Fin 256) (value : BitVec 32) (s : State) : Host.Outcome State Fault Refusal :=
  .next (if s.writable then (s.monClear by_.val value.toNat).2 else s)

/-- MEAS_EXTEND (R344, R354): a write of domain 0 of 49 bytes, in any mode from Self-test onwards. -/
def execMeasExtend (value : Bytes) (s : State) : Host.Outcome State Fault Refusal :=
  .next (if value.length = 49 ∧ 2 ≤ s.mode.mode ∧ s.mode.mode ≠ mLockdown then (s.measExtend value).getD s else s)

/-- BOOT_RESET (R465): a write of domain 0. -/
def execBootReset (s : State) : Host.Outcome State Fault Refusal := .next (s.bootReset.getD s)

/-- BOOT_DATA (R465): a write of domain 0 of 1 to 1,024 bytes. -/
def execBootData (data : Bytes) (s : State) : Host.Outcome State Fault Refusal :=
  .next (if 1 ≤ data.length ∧ data.length ≤ 1024 then (s.bootData data).getD s else s)

/-! ### Monitors (R466) -/

/-- The lesser margin of a value to two limits, 0 at or beyond either. -/
def marginTo (v lo hi : Int) : Nat := (min (v - lo) (hi - v)).toNat

/-- A level monitor takes its sample: 0 both die temperatures, 1 VDD_CORE, 2 VDD_SRAM, 3 VBAT, 4 the glitch margin. -/
def State.sampleLevel (s : State) (which : Nat) (a b : Int) : State :=
  match which with
  | 0 =>
    let s1 := { s with ao := { s.ao with dieTempA := a, dieTempB := b } }
    s1.sampleMonitor (entryKey 0x7030 1) (max a b) (marginTo (max a b) (s.cfgI 0x6030 2) (s.cfgI 0x6030 1))
  | 1 => ({ s with ao := { s.ao with vcoreMv := a.toNat } }).sampleMonitor (entryKey 0x7030 2) a (marginTo a 600 920)
  | 2 => ({ s with ao := { s.ao with vsramMv := a.toNat } }).sampleMonitor (entryKey 0x7030 3) a (marginTo a 700 920)
  | 3 => ({ s with ao := { s.ao with vbatMv := a.toNat } }).sampleMonitor (entryKey 0x7030 4) a (a - s.cfgI 0x6000 7).toNat
  | _ =>
    ({ s with ao := { s.ao with glitchMargin := min s.ao.glitchMargin a.toNat } }).sampleMonitor (entryKey 0x7030 5) a a.toNat

/-- MONITOR_SAMPLE (R466): each 1 ms, VBAT each 1 s, while the main die is powered. -/
def execMonitorSample (which : Fin 5) (reading second : Int) (s : State) : Host.Outcome State Fault Refusal :=
  .next (if s.mainOn then s.sampleLevel which.val reading second else s)

/-! ### Life records (R468) -/

/-- The older copy is written with the counts as they stand (R468); the write itself counts. -/
def State.writeLife (s : State) : State :=
  let d := s.dict
  let l := { d.life with lifeWrites := d.life.lifeWrites + 1 }
  let seq := max d.copyA.1 d.copyB.1 + 1
  let older := d.copyA.2.1 && d.copyB.2.1 && decide (d.copyB.1 < d.copyA.1) || !d.copyB.2.1
  { s with dict := if older then { d with life := l, copyB := (seq, true, l) } else { d with life := l, copyA := (seq, true, l) } }

/-- LIFE_RECORD_WRITE (R468); no MRAM write starts after PWR_FAIL_N (R317). -/
def execLifeRecordWrite (s : State) : Host.Outcome State Fault Refusal := .next (if s.mainOn && !s.mode.pwrFail then s.writeLife else s)

/-! ### The calendar (R469, R470) -/

/-- Bin of THERMAL_HIST for a temperature in 0.1 °C (R468). -/
def thermalBin (t : Int) : Nat := if t < -300 then 0 else min 15 ((t + 400) / 100).toNat

/-- A second of power: POWER_ON_SECONDS and THERMAL_HIST (R468). -/
def State.countSecond (s : State) : State :=
  let l := s.dict.life
  let b := thermalBin s.dieTemp
  { s with dict := { s.dict with life := { l with seconds := bump 64 l.seconds 1, thermal := countAdd l.thermal b 1 32 } } }

/-- The trim accumulates, in 1/32,768 of 0.1 µs, and whole counts of 1/32,768 s are inserted or dropped
(R470): an inserted count is part of the second that begins, a dropped one delays its end. -/
def DictState.trimmed (d : DictState) : DictState :=
  let acc := d.calAcc + 32768 * d.calTrim
  let n := acc.tdiv 10000000
  { d with calAcc := acc - 10000000 * n, calFrac := n.toNat % 32768, calTicks := 0 }

/-- The calendar counts a second, while it is valid (R469, R470). -/
def DictState.second (d : DictState) : DictState :=
  if d.calValid then { d.trimmed with calSeconds := bump 48 d.calSeconds 1 } else d

/-- CALENDAR_SECOND (R470). -/
def execCalendarSecond (s : State) : Host.Outcome State Fault Refusal :=
  let s1 := { s with dict := s.dict.second }
  .next (if s.mainOn then s1.countSecond else s1)

end Sys2Proof.Machine
end

