-- ==== Sys2Proof/Machine/Beat.lean ====
section
/-! DEFINITION. The beat (R8, R11): what a boundary notes of the waiting jobs, the refused
writes of the beat, and what is counted per beat. -/

namespace Sys2Proof.Machine

open Sys2Proof

/-- Units of a class that are busy (R91). -/
def State.busyUnits (s : State) (c : Nat) : Nat := ((List.range 16).filter (fun u => (s.unit c u).busy)).length

/-- The beat counter advances, and what is counted per beat starts anew (R8, R14, R444, R466). -/
def State.nextBeat (s : State) : State :=
  let busy := if s.jobs.units.isEmpty then s.dict.busyBeats
    else ((List.range 8).drop 1).foldl (fun t c => countAdd t c (s.busyUnits c) 64) s.dict.busyBeats
  { s with beat := s.beat + 1, jobs := { s.jobs with admitted := 0, offered := [], grantedNow := [] },
           dict := { s.dict with busyBeats := busy },
           mode := { s.mode with idleFrom := if s.idleReady then some (s.mode.idleFrom.getD s.beat) else none } }

/-- The reservations that a beat finds called for: the automatic one of each key, and one that waits for room (R188, R263, R309). -/
def State.reserveDue (s : State) : State :=
  if !s.serves then s
  else s.vault.counters.foldl (fun a x => if x.2.waits then a.reserve x.1 else a.autoReserve x.1) s

/-- What the new beat begins with: a mode that is due is entered (R443, R444), a retraining that waits may open its window (R293),
jobs in their first schedule beat are assigned their values (R187, R263), reservations that are called for are made (R188, R309),
attempt blocks draw their masks (R111), and a test that waits for its instance begins once it can serve (R365, R418). -/
def State.beginBeat (s : State) : State := s.enterNext.openRetrain.assignDue.reserveDue.drawBlockMasks.beginTest

/-- BEAT_BOUNDARY (R8, R11): the counter has 64 bits and is given no successor of its last value. The dictionary writes of the beat
take effect with it (R454). -/
def execBeatBoundary (s : State) : Host.Outcome State Fault Refusal :=
  if s.beat + 1 < 2 ^ 64 then .next s.settleOwed.noteJobs.landWrites.nextBeat.beginBeat else .fault .beatCounterEnd

end Sys2Proof.Machine
end

