-- ==== Sys2Proof/Machine/Herd.lean ====
section
/-! DEFINITION. The Herd link: ports, frames, sessions, replication, resync, relayed requests and beat alignment (R493 to R507). -/

namespace Sys2Proof.Machine

open Sys2Proof

/-! ### Ports (R493, R494) -/

/-- PORT_TRAINED (R493): the port is up, and the neighbours exchange NEIGHBOUR frames. -/
def execPortTrained (port : Fin 2) (s : State) : Host.Outcome State Fault Refusal :=
  let q := s.herdPort port.val
  .next (if q.up || !s.mainOn then s
    else (s.setHerdPort port.val { up := true, trainings := bump 32 q.trainings 1 }).sendNeighbour port.val)

/-- PORT_LOCK_LOSS (R493): the port is down until it has trained again. -/
def execPortLockLoss (port : Fin 2) (s : State) : Host.Outcome State Fault Refusal :=
  .next (if (s.herdPort port.val).up then s.setHerdPort port.val { trainings := (s.herdPort port.val).trainings } else s)

/-! ### Frames (R496 to R498) -/

/-- The types whose frames are sealed. -/
def sealedType (t : Nat) : Bool := decide (0x10 ≤ t)

/-- The form of a frame: version, length, flags, fragment numbers, counter and reserved bytes (R496). -/
def frameOk (b : Bytes) : Bool :=
  let enc := sealedType (byteAt b 1)
  decide (32 ≤ b.length) && byteAt b 0 == 1 && b.length == 32 + field b 6 2 + 16 * flag enc && decide (field b 6 2 ≤ 2048)
    && byteAt b 5 == flag enc + 2 * flag (byteAt b 14 + 1 == byteAt b 15) && decide (1 ≤ byteAt b 15) && decide (byteAt b 15 ≤ 64)
    && decide (byteAt b 14 < byteAt b 15) && (enc || field b 16 8 == 0) && allZero (slice b 24 8)

/-- HERD_FRAME_FAULT, and one partner violation of domain 0 (R497, R498, R508). -/
def State.frameFault (s : State) : State := (s.raise 0xA9).violation 0 none

/-- This device starts the handshake with a peer: the member of lower position does (R499). -/
def State.initiates (s : State) (p : Nat) : Bool := (s.herdPos.map (fun me => decide (me < p))).getD false

/-- The wait before the next attempt: HERD_RETRY, doubled after each failure up to 64 s (R500). -/
def State.nextWait (s : State) (x : Peer) : Nat := if x.retryWait = 0 then s.cfg 0x8000 10 else min (2 * x.retryWait) 64000

/-- A handshake has failed, or a session has closed: the initiator waits for its retry (R500). -/
def State.retryLater (s : State) (p : Nat) (up : Bool) : State :=
  let x := s.peer p
  let wait := s.nextWait x
  let start := s.initiates p
  let state := if up then 2 else if start then 3 else 0
  s.setPeer p { x with state := state, up := up, newKeys := none, hello := [], th1 := [], hsBeat := none, retryWait := wait,
                       frags := none, retryAt := if start then some (s.beat + msBeats wait) else none }

/-- The session with a peer closes (R500). -/
def State.closeSession (s : State) (p : Nat) : State :=
  let x := s.peer p
  (s.setPeer p { x with keyTx := [], keyRx := [], saltTx := [], saltRx := [], ctrTx := 0, ctrRx := 0, retryWait := 0, resync := [],
                        resyncAsked := false }).retryLater p false

/-- A sealed frame fails (R497); the sixteenth failure in a row closes its session. -/
def State.frameFails (s : State) (p : Nat) : State :=
  let x := s.peer p
  let s1 := (s.setPeer p { x with faults := bump 32 x.faults 1, failRun := x.failRun + 1 }).frameFault
  if 16 ≤ x.failRun + 1 then s1.closeSession p else s1

/-- A sealed frame meets every condition of R497. -/
def State.frameAccepted (s : State) (x : Peer) (b : Bytes) : Bool :=
  let body := b.drop 32
  let n := body.length - 16
  let ctr := field b 16 8
  primOut .gcmTag [x.keyRx, frameIv x.saltRx ctr, frameAad (b.take 32), body.take n] 16 == body.drop n
    && decide (x.ctrRx < ctr) && field b 8 4 == s.herd.epoch

/-- The payload of an accepted sealed frame. -/
def framePlain (x : Peer) (b : Bytes) : Bytes :=
  let n := b.length - 48
  gcmCipher x.keyRx (frameIv x.saltRx (field b 16 8)) (slice b 32 n)

/-- A fragment joins its message; the payload of the message once it is whole (R496). -/
def assemble (x : Peer) (msg frag count : Nat) (data : Bytes) : Peer × Option Bytes :=
  let whole := fun (b : Bytes) =>
    if frag + 1 = count then ({ x with frags := none }, some b) else ({ x with frags := some (msg, frag + 1, b) }, none)
  if frag = 0 then whole data
  else match x.frags with
    | some (m, k, b) => if m = msg ∧ k = frag then whole (b ++ data) else ({ x with frags := none }, none)
    | none => (x, none)

/-- A frame of a peer for this device, past its form: opened, joined to its message, and acted upon when that is whole. -/
def State.takeFrame (s : State) (p : Nat) (b : Bytes) (act : State → Nat → Bytes → State) : State :=
  let x := s.peer p
  let enc := sealedType (byteAt b 1)
  if enc && !x.up then s
  else if enc && !s.frameAccepted x b then s.frameFails p
  else
    let y := { x with framesRx := bump 64 x.framesRx 1, failRun := if enc then 0 else x.failRun,
                      ctrRx := if enc then field b 16 8 else x.ctrRx, lastRx := if enc then s.beat else x.lastRx }
    let z := assemble y (field b 12 2) (byteAt b 14) (byteAt b 15) (if enc then framePlain x b else b.drop 32)
    match z.2 with
    | some payload => act (s.setPeer p z.1) p payload
    | none => s.setPeer p z.1

/-- A frame for another member leaves by the other port with HOPS reduced by one (R498). -/
def State.forward (s : State) (port : Nat) (b : Bytes) : State :=
  let other := 1 - port
  if byteAt b 4 = 0 then s.frameFault
  else if (s.herdPort other).up && (s.herdPort other).usable then s.send (.herd other (byteAt b 1) (b.set 4 (u8 (byteAt b 4 - 1))))
  else s

/-- The device takes no Herd frame at all: its main die is off, in reset or in Lockdown (R440). -/
def State.herdDead (s : State) : Bool := s.mode.mode == mDormant || s.mode.mode == mReset || s.mode.mode == mLockdown

/-- A frame of a type arrives on a port (R496 to R498, R501); in Idle it wakes the device. -/
def State.onFrame (s : State) (port typ : Nat) (b : Bytes) (act : State → Nat → Bytes → State) : State :=
  let q := s.herdPort port
  match s.herdPos with
  | none => s
  | some me =>
    if !q.up || !q.usable || byteAt b 1 != typ || s.herdDead then s
    else if !frameOk b then s.frameFault
    else if byteAt b 3 ≠ me then s.wake.forward port b
    else if byteAt b 2 = me ∨ s.herd.members.length ≤ byteAt b 2 then s.frameFault
    else if !s.herdServes then s
    else s.wake.takeFrame (byteAt b 2) b act

/-- Frames are answered in full, and sessions form (R501). -/
def State.herdFull (s : State) : Bool := s.herdServes && s.mode.mode != mQuiesce && s.mode.mode != mStudy

/-- The position that the table puts at a port (R494). -/
def State.expectedAt (s : State) (me port : Nat) : Nat :=
  let n := s.herd.members.length
  if port = 0 then (me + 1) % n else (me + n - 1) % n

/-- A NEIGHBOUR frame arrives (R494). -/
def State.onNeighbour (s : State) (port : Nat) (b : Bytes) : State :=
  let q := s.herdPort port
  match s.herdPos with
  | none => s
  | some me =>
    let pos := byteAt b 64
    if !q.up || byteAt b 1 != 1 || s.herdDead then s
    else if !frameOk b || field b 6 2 != 33 then s.frameFault
    else if 2 ≤ s.herd.members.length ∧ pos = s.expectedAt me port ∧ s.herd.members[pos]? = some (slice b 32 32) then
      s.wake.setHerdPort port { q with neighbour := pos, usable := true }
    else
      let seen := if pos < 8 then pos else 0xFF
      let s1 := s.wake.setHerdPort port { q with neighbour := seen, usable := false, barred := true }
      if q.barred then s1 else s1.raise 0xA8

/-- NEIGHBOUR. -/
def execNeighbour (port : Fin 2) (frame : Bytes) (s : State) : Host.Outcome State Fault Refusal := .next (s.onNeighbour port.val frame)

/-! ### The handshake (R499) -/

/-- SHA3-512, function 9 of R254. -/
def sha3_512 (b : Bytes) : Bytes := primOut .digest [[9#8], b] 64

/-- Nonce, ML-KEM seed or message, and X448 private key of one side, cut from its draw: `n` bytes lie between the two. -/
def hsX (draw : Bytes) (n : Nat) : Bytes := slice draw (32 + n) 56

/-- The ML-KEM seed of the initiator. -/
def hsSeed (draw : Bytes) : Bytes := slice draw 32 64

/-- The HELLO payload. -/
def helloPayload (draw : Bytes) : Bytes :=
  draw.take 32 ++ publicOf1 1 3 (hsSeed draw) [] ++ xPublic 4 (hsX draw 64) ++ idPkPq ++ idPkCl

/-- The DEVICE_ID of the identity public keys at the end of a payload's fixed part: nonce, ML-KEM value, X448 key, keys. -/
def helloId (b : Bytes) : Bytes := sha3_256 (slice b 1656 2689)

/-- The peer is the member that the table holds at its position. -/
def State.isMember (s : State) (p : Nat) (b : Bytes) : Bool := s.herd.members[p]? == some (helloId b)

/-- The context string of the handshake's signatures. -/
def hsCtx : Bytes := ascii "QHRD1".toList

/-- This device's composite signature over a digest, with the draw of internal instance 2 (R364); none where no attempt passes
within the block limit. -/
def State.hsSign (s : State) (th : Bytes) : Option Bytes × State :=
  let (n, s1) := s.serve 258 88
  ((firstAttempt (pairPasses s.identityHalves idPkPq hsCtx th n) (4 * s.cfg 0x3200 4)).map
    (pairSignature s.identityHalves idPkPq hsCtx th n), s1)

/-- The peer's signature over a digest verifies under the keys of its payload. -/
def hsVerify (b th sig : Bytes) : Bool := pairVerifies (slice b 1656 2592) (slice b 4248 97) hsCtx th sig

/-- The keys of both directions with their salts, as this device sends and receives: tx, rx, salt tx, salt rx. -/
def sessionKeys (me p : Nat) (ssPq ssCl th2 : Bytes) : Bytes × Bytes × Bytes × Bytes :=
  let okm := kmac256 (ssPq ++ ssCl) (th2 ++ [u8 (min me p), u8 (max me p)]) 72 "QHRD1".toList
  let a := slice okm 0 32
  let b := slice okm 32 32
  let x := slice okm 64 4
  let y := slice okm 68 4
  if me < p then (a, b, x, y) else (b, a, y, x)

/-- A check of the handshake fails: HERD_AUTH_FAIL, and the handshake ends. -/
def State.authFails (s : State) (p : Nat) : State :=
  let x := s.peer p
  ((s.setPeer p { x with authFails := bump 32 x.authFails 1 }).retryLater p x.up).raise 0xA8

/-- A session forms, or its renewal is complete: the new keys come into use, PARTITION_STATE is sent and resync is called for
(R500, R504, R505). -/
def State.formSession (s : State) (p : Nat) (k : Bytes × Bytes × Bytes × Bytes) : State :=
  let x := s.peer p
  let s1 := s.setPeer p { x with state := 2, up := true, keyTx := k.1, keyRx := k.2.1, saltTx := k.2.2.1, saltRx := k.2.2.2, ctrTx := 0,
                                 ctrRx := 0, newKeys := none, hello := [], th1 := [], hsBeat := none, failRun := 0,
                                 formedBeat := s.beat, retryAt := none, retryWait := 0, lastRx := s.beat, frags := none,
                                 resyncAsked := true }
  s1.sendHerd p 0x13 true s1.partitionStates

/-- This device may start or answer a handshake: its identity key exists and instance 4 can serve. -/
def State.canShake (s : State) : Bool := s.herdFull && s.sec.identity && s.canServe 260 && s.canServe 258

/-- Step 1: HELLO leaves. -/
def State.sendHello (s : State) (p : Nat) : State :=
  let (n, s1) := s.serve 260 152
  (s1.setPeer p { s1.peer p with state := 1, draw := n, hello := helloPayload n, hsBeat := some s.beat, newKeys := none }).sendHerd p 2
    false (helloPayload n)

/-- Step 2: HELLO is checked and HELLO_REPLY leaves, but where `bad` says that the comparison of the DRBG engine fails on its draw
(R366). -/
def State.onHello (bad : Bool) (s : State) (p : Nat) (b : Bytes) : State :=
  if s.initiates p || !s.canShake then s
  else if b.length ≠ 4345 ∨ !s.isMember p b ∨ !ekOk (slice b 32 1568) then s.authFails p
  else if bad then s.mismatch 260
  else
    let (n, s1) := s.serve 260 120
    let m := slice n 32 32
    let ek := slice b 32 1568
    let x := hsX n 32
    let ssCl := xAgree 4 x (slice b 1600 56)
    let body := n.take 32 ++ mlkemCipher 3 ek m ++ xPublic 4 x ++ idPkPq ++ idPkCl
    let th1 := sha3_512 (s.herd.digest ++ b ++ body)
    if allZero ssCl then s1.authFails p
    else match s1.hsSign th1 with
      | (none, s2) => s2
      | (some sig, s2) =>
        let th2 := sha3_512 (th1 ++ sig)
        let keys := sessionKeys (s.herdPos.getD 0) p (mlkemSecret 3 ek m) ssCl th2
        (s2.setPeer p { s2.peer p with state := 1, hello := b, th1 := th2, newKeys := some keys, hsBeat := some s.beat }).sendHerd p 3
          false (body ++ sig)

/-- Step 3: HELLO_REPLY is checked, FINISH leaves, and the session forms on this side. -/
def State.onHelloReply (s : State) (p : Nat) (b : Bytes) : State :=
  let x := s.peer p
  if !s.initiates p || !s.canShake || x.state != 1 || x.hello.isEmpty then s
  else
    let body := b.take 4345
    let sig := b.drop 4345
    let th1 := sha3_512 (s.herd.digest ++ x.hello ++ body)
    let ssCl := xAgree 4 (hsX x.draw 64) (slice b 1600 56)
    if b.length < 4345 ∨ !s.isMember p b ∨ !hsVerify b th1 sig ∨ allZero ssCl then s.authFails p
    else
      let th2 := sha3_512 (th1 ++ sig)
      let keys := sessionKeys (s.herdPos.getD 0) p (mlkemRecover 3 (hsSeed x.draw) (slice b 32 1568)) ssCl th2
      match s.hsSign th2 with
      | (none, s1) => s1
      | (some mine, s1) => (s1.sendHerd p 4 false mine).formSession p keys

/-- FINISH is checked, and the session forms on the responder's side. -/
def State.onFinish (s : State) (p : Nat) (b : Bytes) : State :=
  let x := s.peer p
  match x.newKeys with
  | none => s
  | some keys =>
    if s.initiates p || !s.herdFull then s
    else if hsVerify x.hello x.th1 b then s.formSession p keys
    else s.authFails p

/-- HELLO: the operand is the port, with whether the comparison of the DRBG engine fails (R366). -/
def execHello (port : Fin 2 × Bool) (frame : Bytes) (s : State) : Host.Outcome State Fault Refusal :=
  .next (s.onFrame port.1.val 2 frame (State.onHello port.2))

/-- HELLO_REPLY. -/
def execHelloReply (port : Fin 2) (frame : Bytes) (s : State) : Host.Outcome State Fault Refusal :=
  .next (s.onFrame port.val 3 frame State.onHelloReply)

/-- FINISH. -/
def execFinish (port : Fin 2) (frame : Bytes) (s : State) : Host.Outcome State Fault Refusal :=
  .next (s.onFrame port.val 4 frame State.onFinish)

/-- Every peer of a list in turn. -/
def State.eachPeer (s : State) (act : State → Nat → State) : State := s.peerList.foldl act s

/-- The first attempt, or the retry that is due (R500). -/
def State.retryPeer (s : State) (p : Nat) : State :=
  let x := s.peer p
  if s.initiates p && !x.up && (x.state == 0 || x.state == 3) && decide (x.retryAt.getD 0 ≤ s.beat) && s.canShake && (s.route p).isSome
    then s.sendHello p else s

/-- HERD_RETRY (R500). -/
def execHerdRetry (s : State) : Host.Outcome State Fault Refusal := .next (s.eachPeer State.retryPeer)

/-- A session that has carried its frames or seconds is renewed by its initiator (R500). -/
def State.rekeyPeer (s : State) (p : Nat) : State :=
  let x := s.peer p
  let limit := s.cfg 0x8000 12
  let due := decide (limit ≤ x.ctrTx) || decide (limit ≤ x.ctrRx) || decide (x.formedBeat + msBeats (1000 * s.cfg 0x8000 13) ≤ s.beat)
  if s.initiates p && x.up && x.state == 2 && due && decide (x.retryAt.getD 0 ≤ s.beat) && s.canShake && (s.route p).isSome
    then s.sendHello p else s

/-- HERD_REKEY (R500). -/
def execHerdRekey (s : State) : Host.Outcome State Fault Refusal := .next (s.eachPeer State.rekeyPeer)

/-- A step of the handshake that is not answered within HERD_HELLO_TIMEOUT fails it (R499). -/
def State.helloExpires (s : State) (p : Nat) : State :=
  match (s.peer p).hsBeat with
  | some since => if since + msBeats (s.cfg 0x8000 11) ≤ s.beat then s.retryLater p (s.peer p).up else s
  | none => s

/-- HERD_HELLO_TIMEOUT (R499). -/
def execHerdHelloTimeout (s : State) : Host.Outcome State Fault Refusal := .next (s.eachPeer State.helloExpires)

/-- A session is lost when no frame has arrived for 3 × HERD_KEEPALIVE (R500). -/
def State.loseIfSilent (s : State) (p : Nat) : State :=
  if (s.peer p).up ∧ (s.peer p).lastRx + msBeats (3 * s.cfg 0x8000 9) ≤ s.beat then (s.closeSession p).raise 0xAA else s

/-- HERD_PEER_LOST (R500). -/
def execHerdPeerLost (s : State) : Host.Outcome State Fault Refusal := .next (s.eachPeer State.loseIfSilent)

/-- CLOSE (R500). -/
def execClose (port : Fin 2) (frame : Bytes) (s : State) : Host.Outcome State Fault Refusal :=
  .next (s.onFrame port.val 0x40 frame (fun a p _ => a.closeSession p))

/-! ### Announcements and resync (R500, R504) -/

/-- The live replicated keys of a page that belong to a domain. -/
def State.replicatedIn (s : State) (d page : Nat) : List (Nat × Key) :=
  s.vault.keys.filter (fun x => x.2.domain == d && x.1 / 32 == page && x.2.attr aHerd && x.2.state == 1)

/-- The digest of a page: INDEX, GEN and STATE of each entry with HERD_REPLICATE. -/
def State.replDigest (s : State) (d page : Nat) : Bytes :=
  sha3_256 ((s.replicatedIn d page).flatMap (fun x =>
    (List.range x.2.span).flatMap (fun o => leBytes 4 (x.1 + o) ++ leBytes 2 x.2.gen ++ [u8 x.2.state])))

/-- A page of a domain as one number. -/
def pageKey (d page : Nat) : Nat := 2 ^ 20 * d + page

/-- The pages of active domains that hold replicated entries. -/
def State.replPages (s : State) : List Nat :=
  (s.vault.keys.filter (fun x => x.2.attr aHerd && x.2.state == 1 && s.active x.2.domain)).foldl
    (fun l x => insertNat l (pageKey x.2.domain (x.1 / 32))) []

/-- The link map: two bits per member, as this device knows them. -/
def State.linkMap (s : State) (me : Nat) : Nat :=
  (List.range s.herd.members.length).foldl (fun m p =>
    m + 4 ^ p * (flag (s.portShown me p 0) + 2 * flag (s.portShown me p 1))) 0

/-- The ANNOUNCE payload: the link map, and a record of 40 bytes for each page with replicated entries, as many as the 64 fragments of
a message hold (R496; DESIGN CHOICE; log 48). -/
def State.announcement (s : State) : Bytes :=
  leBytes 2 (s.linkMap (s.herdPos.getD 0)) ++ (s.replPages.take 3276).flatMap (fun k =>
    [u8 (k / 2 ^ 20), 0#8, 0#8, 0#8] ++ leBytes 4 (k % 2 ^ 20) ++ s.replDigest (k / 2 ^ 20) (k % 2 ^ 20))

/-- HERD_KEEPALIVE_SEND (R500): ANNOUNCE to each peer in session. -/
def execHerdKeepaliveSend (s : State) : Host.Outcome State Fault Refusal :=
  .next (if s.herdServes then s.sendAll 0x10 s.announcement else s)

/-- The page digests of an ANNOUNCE payload. -/
def announcedPages (b : Bytes) : List (Nat × Bytes) :=
  let r := b.drop 2
  (List.range (r.length / 40)).map (fun k => (pageKey (byteAt r (40 * k)) (field r (40 * k + 4) 4), slice r (40 * k + 8) 32))

/-- ANNOUNCE is taken: the peer's ports, and where resync is called for the pages to compare, its own and the peer's. -/
def State.onAnnounce (s : State) (p : Nat) (b : Bytes) : State :=
  let x := s.peer p
  let theirs := announcedPages b
  let all := theirs.foldl (fun l k => insertNat l k.1) s.replPages
  let pages := (all.filter (fun k => s.active (k / 2 ^ 20))).map (fun k => (k, (tget theirs k).getD []))
  s.setPeer p { x with linkMap := field b 0 2 / 4 ^ p % 4, resync := if x.resyncAsked then pages else x.resync, resyncAsked := false }

/-- ANNOUNCE. -/
def execAnnounce (port : Fin 2) (frame : Bytes) (s : State) : Host.Outcome State Fault Refusal :=
  .next (s.onFrame port.val 0x10 frame State.onAnnounce)

/-- A page that differs is resent: its live replicated keys, and its FREE entries as destructions of the generation before. -/
def State.resendPage (s : State) (p d page : Nat) : State :=
  let s1 := (s.replicatedIn d page).foldl (fun a x => a.sendHerd p 0x11 true (replicatePayload x.1 1 x.2.gen x.2)) s
  (s.vault.freed.filter (fun x => x.1 / 32 == page && x.2.2 == d)).foldl (fun a x =>
    a.sendHerd p 0x11 true (replicatePayload x.1 2 (x.2.1 - 1) { cls := 0, state := 0, gen := 0, domain := d })) s1

/-- HERD_RESYNC_SLICE (R504): the grant for one page of one peer. -/
def State.resyncSlice (s : State) : State :=
  match s.grantOf maResync with
  | none => s
  | some (p, _) =>
    let s1 := s.endGrant maResync
    let x := s1.peer p
    match x.resync with
    | [] => s1
    | (k, digest) :: r =>
      let s2 := s1.setPeer p { x with resync := r }
      let d := k / 2 ^ 20
      if x.up ∧ s.herdFull ∧ s.active d ∧ s.replDigest d (k % 2 ^ 20) ≠ digest then s2.resendPage p d (k % 2 ^ 20) else s2

/-- HERD_RESYNC_SLICE. -/
def execHerdResyncSlice (s : State) : Host.Outcome State Fault Refusal := .next s.resyncSlice

/-! ### Replication (R502, R503, R505) -/

/-- The sealed body of a replicated key (R192, R502): seed and block of a stateful key, with ranges and ceiling zero. -/
def replicaBody (cls pset : Nat) (secret : Bytes) : Bytes :=
  if stateful cls then secret.take 32 ++ zeros 44 ++ slice secret 32 4 else secretBody cls pset secret

/-- The key that a REPLICATE payload creates. -/
def State.replica (s : State) (b : Bytes) : Key :=
  let cls := byteAt b 10
  let pset := byteAt b 11
  let attrs := field b 16 8
  let md := s.measDigest (bits attrs 39 32)
  let k : Key := { cls := cls, state := 1, pset := pset, gen := field b 8 2, version := 1, attrs := attrs, domain := byteAt b 0,
                   span := keySpan cls pset, md := md, measCheck := measCheckOf md,
                   body := replicaBody cls pset (slice b 32 (field b 24 2)) }
  { k with levels := levelsOf k k.body }

/-- OP 1: the RESULT and the state after it. -/
def State.replicaCreated (s : State) (b : Bytes) : Nat × State :=
  let k := s.replica b
  let i := field b 4 4
  let owner := s.pageOwner (i / 32)
  if !runFree s.occupied i k.span || decide (k.gen < s.genOf i k.span) then (2, s)
  else if 32 < i % 32 + k.span ∨ 2 ^ 25 ≤ i ∨ (owner.isSome ∧ owner ≠ some k.domain)
      ∨ s.cfg (0x2000 + k.domain) 0x0D < s.entriesUsed k.domain + k.span then (3, s)
  else (0, s.createKey i k)

/-- OP 2: the RESULT and the state after it. -/
def State.replicaDestroyed (s : State) (b : Bytes) : Nat × State :=
  let i := field b 4 4
  match s.key? i with
  | some k => if k.state = 1 ∧ k.gen = field b 8 2 ∧ k.domain = byteAt b 0 then (0, s.sweepKey i) else (2, s)
  | none => (2, s)

/-- A REPLICATE is applied (R503), or answered with BUSY in Quiesce and Entropy study (R501); an OP that R502 does not list changes
nothing and is answered STALE (DESIGN CHOICE; log 48). -/
def State.replicateResult (s : State) (b : Bytes) : Nat × State :=
  if !s.herdFull then (Config.resultBusy.toNat, s)
  else if !s.active (byteAt b 0) then (1, s)
  else if byteAt b 1 = 1 then s.replicaCreated b
  else if byteAt b 1 = 2 then s.replicaDestroyed b
  else (2, s)

/-- REPLICATE is taken and acknowledged. -/
def State.onReplicate (s : State) (p : Nat) (b : Bytes) : State :=
  let r := s.replicateResult b
  let x := r.2.peer p
  let y := if r.1 = 0 ∧ s.herdFull then { x with applied := bump 32 x.applied 1 } else { x with refused := bump 32 x.refused 1 }
  (r.2.setPeer p y).sendHerd p 0x12 true ([u8 (byteAt b 0)] ++ slice b 4 4 ++ slice b 8 2 ++ [u8 r.1])

/-- REPLICATE. -/
def execReplicate (port : Fin 2) (frame : Bytes) (s : State) : Host.Outcome State Fault Refusal :=
  .next (s.onFrame port.val 0x11 frame State.onReplicate)

/-- REPLICATE_ACK is taken: BUSY calls for a resync of that peer (R504). -/
def State.onReplicateAck (s : State) (p : Nat) (b : Bytes) : State :=
  if byteAt b 7 = Config.resultBusy.toNat then s.setPeer p { s.peer p with resyncAsked := true } else s

/-- REPLICATE_ACK. -/
def execReplicateAck (port : Fin 2) (frame : Bytes) (s : State) : Host.Outcome State Fault Refusal :=
  .next (s.onFrame port.val 0x12 frame State.onReplicateAck)

/-- One record of a PARTITION_STATE: a key with the same PK_HASH and epoch and another digest is latched (R195). -/
def State.checkPartition (s : State) (r : Bytes) : State :=
  match s.vault.keys.find? (fun x => x.2.state == 1 && stateful x.2.cls && x.2.partEpoch != 0 && x.2.pkHash == r.take 32) with
  | some (i, k) => if k.partEpoch = field r 32 4 ∧ k.partDigest ≠ slice r 36 16 then s.partitionConflict i k else s
  | none => s

/-- PARTITION_STATE is taken (R195, R505). -/
def State.onPartitionState (s : State) (_ : Nat) (b : Bytes) : State :=
  if s.herdFull then (List.range (b.length / 52)).foldl (fun a k => a.checkPartition (slice b (52 * k) 52)) s else s

/-- PARTITION_STATE. -/
def execPartitionState (port : Fin 2) (frame : Bytes) (s : State) : Host.Outcome State Fault Refusal :=
  .next (s.onFrame port.val 0x13 frame State.onPartitionState)

/-! ### Relayed requests (R460, R501, R506) -/

/-- RELAY_REQ is taken: the request waits to be served, and in Quiesce and Entropy study it fails at once. -/
def State.onRelayReq (s : State) (p : Nat) (b : Bytes) : State :=
  if s.herdFull then { s with herd := { s.herd with asked := s.herd.asked ++ [(p, b)] } }
  else s.sendHerd p 0x21 true ((parseRequest b).response 0xA 0 [])

/-- RELAY_REQ. -/
def execRelayReq (port : Fin 2) (frame : Bytes) (s : State) : Host.Outcome State Fault Refusal :=
  .next (s.onFrame port.val 0x20 frame State.onRelayReq)

/-- A response answers a relayed request: its member, OP, SEQ, INDEX and SUB. -/
def relayMatches (p : Nat) (resp : Bytes) (r : Nat × Bytes × Nat) : Bool :=
  r.1 == p && byteAt resp 1 == (byteAt r.2.1 1 ||| 128) && slice resp 2 5 == slice r.2.1 2 5

/-- RELAY_RSP is taken. -/
def State.onRelayRsp (s : State) (p : Nat) (b : Bytes) : State :=
  match s.herd.relays.find? (fun x => relayMatches p b x.2) with
  | some (k, _) => s.relayAnswered k b
  | none => s

/-- RELAY_RSP. -/
def execRelayRsp (port : Fin 2) (frame : Bytes) (s : State) : Host.Outcome State Fault Refusal :=
  .next (s.onFrame port.val 0x21 frame State.onRelayRsp)

/-! ### Beat alignment (R507) -/

/-- BEAT_SYNC reaches the leader: receipt and reply fall in one beat. -/
def State.onBeatSync (s : State) (p : Nat) (_ : Bytes) : State :=
  if s.leader = s.herdPos then s.sendHerd p 0x31 true (leBytes 8 s.wheelBeat ++ leBytes 8 s.wheelBeat) else s

/-- BEAT_SYNC. -/
def execBeatSync (port : Fin 2) (frame : Bytes) (s : State) : Host.Outcome State Fault Refusal :=
  .next (s.onFrame port.val 0x30 frame State.onBeatSync)

/-- The offset of R507, rounded towards zero. -/
def syncOffset (w1 w2 w3 w4 : Nat) : Int := Int.tdiv (((w2 : Int) - w1) + ((w3 : Int) - w4)) 2

/-- BEAT_SYNC_REPLY reaches the member that asked: the step waits for the wheel boundary (R89). -/
def State.onBeatSyncReply (s : State) (p : Nat) (b : Bytes) : State :=
  match s.herd.syncW1 with
  | some w1 =>
    if s.leader ≠ some p then s
    else
      let o := syncOffset w1 (field b 0 8) (field b 8 8) s.wheelBeat
      { s with herd := { s.herd with align := o, syncW1 := none },
               wheel := { s.wheel with align := if 0 < o then 1 else if o < 0 then -1 else 0 } }
  | none => s

/-- BEAT_SYNC_REPLY. -/
def execBeatSyncReply (port : Fin 2) (frame : Bytes) (s : State) : Host.Outcome State Fault Refusal :=
  .next (s.onFrame port.val 0x31 frame State.onBeatSyncReply)

end Sys2Proof.Machine
end

