-- ==== Sys2Proof/Machine/Links.lean ====
section
/-! DEFINITION. PCI Express, PTM, DOE, SPDM and IDE (R474 to R488). -/

namespace Sys2Proof.Machine

open Sys2Proof

/-! ### The link and its resets (R474, R477, R480, R481) -/

/-- Widths at which the link runs (R474). -/
def linkWidth (k : Nat) : Nat := 2 ^ (k % 4)

/-- PCIE_LINK_UP (R474): after PERST# is released, or after a hot reset or link loss. -/
def execPcieLinkUp (speed : Fin 5) (width : Fin 4) (s : State) : Host.Outcome State Fault Refusal :=
  .next (if s.mode.mode = mDormant then s
    else { s with link := { s.link with up := true, perst := false, speed := speed.val + 1, width := linkWidth width.val } })

/-- The queues of a function that are not disabled go to DISABLED as under R77. -/
def State.disableFunction (s : State) (fn : Nat) (silent : Bool) : State :=
  (s.enabledQueues.filter (fun n => s.qcfg n 1 == fn)).foldl
    (fun a n => (a.setQueue n { a.queue n with silent := (a.queue n).silent || silent }).disableQueue n) s

/-- Configuration space of a function at its reset values: Bus Master Enable clear, D0, and the MSI-X table (R481). -/
def Func.configReset (f : Func) : Func := { status := f.status, haltMap := f.haltMap }

/-- A function-level reset (R481): its queues, its mailbox, and a virtual function's DSR_ADDR. -/
def State.functionReset (s : State) (fn : Nat) : State :=
  let s1 := ((s.disableFunction fn true).setFunc fn {}).setBox fn {}
  if fn = 0 then s1 else { s1 with mode := { s1.mode with dsrAddr := tdel s1.mode.dsrAddr fn } }

/-- HOT_RESET (R481): a hot reset, or DL_Down outside PERST#, which raises LINK_DOWN. -/
def execHotReset (down : Bool) (s : State) : Host.Outcome State Fault Refusal :=
  .next (if !s.link.up then s
    else
      let s1 := s.enabledQueues.foldl (fun a n => a.disableQueue n)
        { s with link := { s.link with up := false, speed := 0, width := 0, downs := if down then bump 32 s.link.downs 1 else s.link.downs } }
      let s2 := { s1 with rings := { s1.rings with funcs := s1.rings.funcs.map (fun x => (x.1, x.2.configReset)) },
                          port := { s1.port with numVfs := 0, vfEnable := false, ptmEnable := false, ptmAsked := none, doe := [],
                                                 ide := [], aer := [], wakeOut := false } }
      if down then s2.raise 0xAB else s2)

/-- FUNCTION_LEVEL_RESET (R481). -/
def execFunctionLevelReset (fn : Fin 256) (s : State) : Host.Outcome State Fault Refusal :=
  .next (if s.takesConfig then s.functionReset fn.val else s)

/-- The virtual functions that are there. -/
def PortState.visible (p : PortState) : Nat := if p.vfEnable then p.numVfs else 0

/-- VF_ENABLE_CHANGE (R477): NumVFs changes only while VF Enable is 0, and each virtual function that disappears is reset. -/
def execVfEnableChange (enable : Bool) (num : Fin 256) (s : State) : Host.Outcome State Fault Refusal :=
  let n := if s.port.vfEnable && enable then s.port.numVfs else num.val
  let p := { s.port with vfEnable := enable, numVfs := n }
  .next (if !s.takesConfig then s
    else ((List.range (s.port.visible + 1)).filter (fun (f : Nat) => decide (p.visible < f))).foldl (fun a f => a.functionReset f)
      { s with port := p })

/-- POWER_STATE_CHANGE (R480): D0 or D3hot, and Bus Master Enable; WAKE# is released when the physical function returns to D0. -/
def execPowerStateChange (fn : Fin 256) (d3hot bme : Bool) (s : State) : Host.Outcome State Fault Refusal :=
  let s1 := s.setFunc fn.val { s.func fn.val with d3hot := d3hot, bme := bme }
  .next (if !s.takesConfig then s
    else if fn.val = 0 ∧ !d3hot then { s1 with port := { s1.port with wakeOut := false } } else s1)

/-- BAR_ACCESS_UNMAPPED (R476): completed with Unsupported Request. -/
def execBarAccessUnmapped (fn : Fin 256) (s : State) : Host.Outcome State Fault Refusal :=
  .next (if s.link.up then s.send (.pcie 1 [u8 fn.val]) else s)

/-- AER_ERROR_RECEIVED (R482): 0 a poisoned or ECRC-failed write, 1 a malformed TLP, receiver overflow or unexpected
completion, 2 a correctable link error, which is counted in AER only. -/
def execAerErrorReceived (kind : Fin 3) (s : State) : Host.Outcome State Fault Refusal :=
  let s1 := { s with port := { s.port with aer := countAdd s.port.aer kind.val 1 32 } }
  .next (if !s.link.up then s else if kind.val < 2 then s1.raise 0xA4 { detail := kind.val } else s1)

/-! ### PTM (R484) -/

/-- PTM_REQUEST (R484): every PTM_INTERVAL while PTM Enable is set. -/
def execPtmRequest (s : State) : Host.Outcome State Fault Refusal :=
  .next (if s.link.up && s.port.ptmEnable && s.port.ptmAsked.isNone
        && decide (s.port.ptmLastAsk + msBeats (s.cfg 0x9001 4) ≤ s.beat) then
      State.send { s with port := { s.port with ptmAsked := some s.beat, ptmLastAsk := s.beat } } (.pcie 2 [])
    else s)

/-- PTM_RESPONSE (R484): a pair of master time and beat counter; both entries are replaced together. -/
def execPtmResponse (time : BitVec 64) (s : State) : Host.Outcome State Fault Refusal :=
  .next (if s.port.ptmAsked.isNone then s
    else { s with port := { s.port with ptmAsked := none, ptmPrev := s.port.ptmLast,
                                        ptmLast := leBytes 8 time.toNat ++ leBytes 8 s.beat, ptmUpdates := bump 32 s.port.ptmUpdates 1 } })

/-- PTM_DIALOGUE_TIMEOUT (R484): the pairs stand. -/
def execPtmDialogueTimeout (s : State) : Host.Outcome State Fault Refusal :=
  .next (if s.port.ptmAsked.isNone then s
    else { s with port := { s.port with ptmAsked := none, ptmFails := bump 32 s.port.ptmFails 1 } })

/-! ### DOE and SPDM (R485, R486) -/

/-- Type of a DOE data object: 0 discovery, 1 CMA/SPDM, 2 secured CMA/SPDM. -/
def doeType (b : Bytes) : Nat := byteAt b 2

/-- The answer to a DOE Discovery object: the type at an index, and the next index. -/
def doeDiscovery (b : Bytes) : Bytes :=
  let i := byteAt b 8
  [1#8, 0#8, 0#8, 0#8] ++ leBytes 4 3
    ++ (if i < 3 then [1#8, 0#8, u8 i, u8 ((i + 1) % 3)] else [0xFF#8, 0xFF#8, 0#8, 0#8])

/-- DOE_OBJECT (R485): up to 65,536 bytes; an SPDM object waits for the responder. -/
def execDoeObject (object : Bytes) (s : State) : Host.Outcome State Fault Refusal :=
  .next (if !s.takesConfig || decide (object.length < 8) || decide (65536 < object.length) || field object 0 2 != 1 then s
    else if doeType object = 0 then s.send (.doe 0 (doeDiscovery object))
    else if doeType object ≤ 2 ∧ s.port.doe.isEmpty then { s with port := { s.port with doe := object } }
    else s)

/-- A transport of the responder: 0 DOE, 1 MCTP. -/
def State.spdm (s : State) (t : Nat) : Spdm := (tget s.port.spdm t).getD {}

/-- Sets a transport. -/
def State.setSpdm (s : State) (t : Nat) (x : Spdm) : State := { s with port := { s.port with spdm := tput s.port.spdm t x } }

/-- The measurement blocks 1 to 10 (R486). -/
def State.measurementBlocks (s : State) : Bytes :=
  (List.range 8).flatMap (fun k => (tget s.measure k).getD (zeros 48)) ++ [u8 s.lcState] ++ leBytes 4 s.lcSeq
    ++ leBytes 4 s.patch.version ++ leBytes 4 Config.romId

/-- A response of the responder, in the form of the SPDM specification (log 2): from the request, the certificate chain, the
measurement blocks, the session's secret, and a draw of internal instance 3. -/
def State.spdmResponse (s : State) (t : Nat) (msg secret drawn : Bytes) : Bytes :=
  let args := [[u8 t, u8 (s.spdm t).stage, u8 (s.spdm t).version], msg, (List.range (min Config.idCertLen 16384)).map Config.idCert,
    s.measurementBlocks, idPkCl, secret, drawn]
  primOut .spdm args (Config.primN .spdm args)

/-- The ERROR response that the specification names for a request (log 2). -/
def spdmError (msg : Bytes) : Bytes := [u8 (byteAt msg 0), 0x7F#8] ++ primOut .spdm [msg] 2

/-- Request codes that need the negotiation to have ended. -/
def spdmOpen (code : Nat) : Bool :=
  code == 0x81 || code == 0x82 || code == 0x83 || code == 0xE0 || code == 0xE4

/-- Request codes that are served inside an established session only. -/
def spdmInside (code : Nat) : Bool := code == 0xE8 || code == 0xE9 || code == 0xEC

/-- Requests that draw ephemeral values or nonces: CHALLENGE, GET_MEASUREMENTS and KEY_EXCHANGE. -/
def spdmDraws (code : Nat) : Bool := code == 0x83 || code == 0xE0 || code == 0xE4

/-- A request is in order on its transport, in a session or outside one. -/
def Spdm.inOrder (x : Spdm) (sess : Option Nat) (msg : Bytes) : Bool :=
  let code := byteAt msg 1
  match sess with
  | none =>
    code == 0x84 || (code == 0xE1 && decide (1 ≤ x.stage) && (byteAt msg 0 == 0x12 || byteAt msg 0 == 0x13))
      || (code == 0xE3 && x.stage == 2) || (spdmOpen code && x.stage == 3)
  | some k =>
    match tget x.sessions k with
    | none => false
    | some y => if y.formed then spdmInside code || (spdmOpen code && code != 0xE4 && code != 0x83) else code == 0xE5

/-- Where the negotiation stands after a request that is answered. -/
def Spdm.after (x : Spdm) (sess : Option Nat) (msg secret : Bytes) (beat : Nat) : Spdm :=
  let code := byteAt msg 1
  if code = 0x84 then { stage := 1 }
  else if code = 0xE1 then { x with stage := 2, version := byteAt msg 0 }
  else if code = 0xE3 then { x with stage := 3 }
  else if code = 0xE4 then { x with sessions := tput x.sessions (field msg 4 2) { secret := secret, lastBeat := beat } }
  else match sess with
    | none => x
    | some k =>
      let y := (tget x.sessions k).getD {}
      if code = 0xE5 then { x with sessions := tput x.sessions k { y with formed := true, lastBeat := beat } }
      else if code = 0xE8 then { x with sessions := tput x.sessions k { y with lastBeat := beat } }
      else if code = 0xE9 then { x with sessions := tput x.sessions k { y with secret := primOut .spdm [y.secret, msg] 32 } }
      else if code = 0xEC then { x with sessions := tdel x.sessions k }
      else x

/-- The session of a secured message and its content: the first four bytes name it (R485). -/
def State.spdmOpenMessage (s : State) (t : Nat) (secured : Bool) (raw : Bytes) : Option (Option Nat × Bytes) :=
  if !secured then some (none, raw)
  else match tget (s.spdm t).sessions (field raw 0 2) with
    | none => none
    | some y =>
      if Config.primB .unwrapOk [y.secret, raw] then
        some (some (field raw 0 2), primOut .unseal [y.secret, raw] (Config.primN .unseal [y.secret, raw]))
      else none

/-- A response leaves on its transport, sealed where the request was. -/
def State.sendSpdm (s : State) (t : Nat) (dest : Nat × Nat) (sess : Option (Nat × Bytes)) (resp : Bytes) : State :=
  let body := match sess with
    | none => resp
    | some (k, secret) => leBytes 4 k ++ primOut .seal [secret, resp] (Config.primN .seal [secret, resp])
  let typ := if sess.isSome then 2 else 1
  if t = 0 then
    s.send (.doe 0 ([1#8, 0#8, u8 typ, 0#8] ++ leBytes 4 (2 + ceilDiv body.length 4) ++ fit (4 * ceilDiv body.length 4) body))
  else s.sendMctp dest.1 dest.2 (u8 (4 + typ) :: body)

/-- A request is refused: the ERROR response, SPDM_VIOLATION, and one partner violation of domain 0 (R486, R508). -/
def State.spdmViolation (s : State) (t : Nat) (dest : Nat × Nat) (raw : Bytes) : State :=
  let s1 := s.sendSpdm t dest none (spdmError raw)
  (({ s1 with port := { s1.port with spdmErrors := bump 32 s1.port.spdmErrors 1 } }).raise 0xA6).violation 0 none

/-- A fifth session on a transport is refused (R485). -/
def Spdm.full (x : Spdm) (msg : Bytes) : Bool := byteAt msg 1 == 0xE4 && decide (4 ≤ x.sessions.length)

/-- A request in order is answered. -/
def State.spdmAnswer (s : State) (t : Nat) (dest : Nat × Nat) (sess : Option Nat) (msg : Bytes) : State :=
  let x := s.spdm t
  let draws := spdmDraws (byteAt msg 1)
  let (n0, s0) := if draws then s.serve 259 48 else ([], s)
  let (n1, s1) := if draws then s0.serve 258 56 else ([], s0)
  let n := n0 ++ n1
  let old := ((sess.bind (tget x.sessions)).map (·.secret)).getD []
  let secret := if byteAt msg 1 = 0xE4 then primOut .spdm [msg, n] 32 else old
  let s2 := s1.sendSpdm t dest (sess.map (fun k => (k, old))) (s1.spdmResponse t msg secret n)
  let s3 := s2.setSpdm t (x.after sess msg secret s.beat)
  if byteAt msg 1 = 0xE1 then { s3 with port := { s3.port with spdmVersion := byteAt msg 0 } } else s3

/-- A request that draws waits while internal instance 3, or instance 2 for the signature by the identity key, cannot serve, as in
Entropy study (R364, R365, R374). -/
def State.spdmHeld (s : State) (t : Nat) (secured : Bool) (raw : Bytes) : Bool :=
  match s.spdmOpenMessage t secured raw with
  | some (_, msg) => spdmDraws (byteAt msg 1) && !(s.canServe 259 && s.canServe 258)
  | none => false

/-- A message reaches the responder; `bad` says that the comparison of the DRBG engine fails on its draw, so that the ERROR response
goes out (R366; DESIGN CHOICE; log 73). -/
def State.spdmServe (s : State) (t : Nat) (dest : Nat × Nat) (secured : Bool) (raw : Bytes) (bad : Bool) : State :=
  match s.spdmOpenMessage t secured raw with
  | none => s.spdmViolation t dest raw
  | some (sess, msg) =>
    if !(s.spdm t).inOrder sess msg || !Config.primB .spdm [[u8 t, u8 (s.spdm t).version], msg] then s.spdmViolation t dest msg
    else if (s.spdm t).full msg then s.sendSpdm t dest none (spdmError msg)
    else if bad && spdmDraws (byteAt msg 1) then (s.mismatch 259).sendSpdm t dest none (spdmError msg)
    else s.spdmAnswer t dest sess msg

/-- SPDM_REQUEST (R486): the message that waits on a transport, from the Patch window on and not in Lockdown; one that came over MCTP
wakes the device from Idle first (R445). The operand is the transport, and whether the comparison of the DRBG engine fails (R366). -/
def execSpdmRequest (request : Fin 2 × Bool) (s : State) : Host.Outcome State Fault Refusal :=
  .next (if s.mode.mode < 3 ∨ s.mode.mode = mLockdown ∨ (request.1.val = 1 ∧ s.mode.mode = mIdle) then s
    else if request.1.val = 0 then
      (if s.port.doe.isEmpty || s.spdmHeld 0 (doeType s.port.doe == 2) (s.port.doe.drop 8) then s
       else
         let b := s.port.doe
         (State.spdmServe { s with port := { s.port with doe := [] } } 0 (0, 0) (doeType b == 2) (b.drop 8) request.2))
    else match s.port.spdmIn with
      | [] => s
      | x :: r =>
        if s.spdmHeld 1 (byteAt x.2.2 0 == 6) (x.2.2.drop 1) then s
        else State.spdmServe { s with port := { s.port with spdmIn := r } } 1 (x.1, x.2.1) (byteAt x.2.2 0 == 6) (x.2.2.drop 1) request.2)

/-- SPDM_HEARTBEAT_TIMEOUT (R485): an established session whose requester has sent no heartbeat within the period ends. -/
def execSpdmHeartbeatTimeout (transport : Fin 2) (session : BitVec 16) (s : State) : Host.Outcome State Fault Refusal :=
  let x := s.spdm transport.val
  .next (match tget x.sessions session.toNat with
    | some y =>
      if y.formed && decide (0 < Config.heartbeat) && decide (y.lastBeat + secBeats Config.heartbeat ≤ s.beat) then
        s.setSpdm transport.val { x with sessions := tdel x.sessions session.toNat }
      else s
    | none => s)

/-! ### IDE (R487, R488) -/

/-- IDE_KM (R487), over a secured session on DOE: 0 KEY_PROG, 1 K_SET_GO, 2 K_SET_STOP; a selective stream covers the functions
from `first` dest `last`. -/
def execIdeKm (stream : Fin 9) (op : Fin 3) (first last : Fin 256) (s : State) : Host.Outcome State Fault Refusal :=
  let old := tget s.port.ide stream.val
  let range := if stream.val = 0 then (0, 255) else (first.val, last.val)
  let put := fun (x : IdeStream) => { s with port := { s.port with ide := tput s.port.ide stream.val x } }
  .next (if !s.link.up || !(s.spdm 0).sessions.any (fun x => x.2.formed) then s
    else if op.val = 0 then put { state := ((old.map (·.state)).getD 1), first := range.1, last := range.2 }
    else match old with
      | none => s
      | some x => put { x with state := if op.val = 1 then 2 else 1 })

/-- IDE_TLP_CHECK (R487): a TLP of a stream fails its integrity check; it is discarded, and the stream is insecure. -/
def execIdeTlpCheck (stream : Fin 9) (s : State) : Host.Outcome State Fault Refusal :=
  .next (match tget s.port.ide stream.val with
    | some x =>
      if x.state = 2 ∧ s.link.up then
        (State.raise { s with port := { s.port with ide := tput s.port.ide stream.val { x with state := 1 },
                                                    ideFails := bump 32 s.port.ideFails 1 } } 0xA5 { detail := stream.val })
      else s
    | none => s)

end Sys2Proof.Machine
end

