-- ==== Sys2Proof/Machine/Management.lean ====
section
/-! DEFINITION. The management port: I3C common command codes, MCTP packets and control messages (R489 to R492). -/

namespace Sys2Proof.Machine

open Sys2Proof

/-! ### I3C (R489) -/

/-- The port is served (R462, R489). -/
def State.portServed (s : State) : Bool := decide (2 ≤ s.mode.mode)

/-- The port answers a CCC directed to its dynamic address. -/
def State.addressed (s : State) : Bool := s.portServed && s.port.i3cAddr != 0

/-- A CCC that returns bytes. -/
def State.cccReturns (s : State) (b : Bytes) : Host.Outcome State Fault Refusal :=
  .next (if s.addressed then s.send (.ccc b) else s)

/-- The provisional ID, most significant byte first, as the bus carries it. -/
def pidOnBus : Bytes := beBytes 6 i3cPid

/-- ENTDAA: the port offers its ID, BCR and DCR, and takes an address while it has none. -/
def execEntdaa (addr : Fin 128) (s : State) : Host.Outcome State Fault Refusal :=
  .next (if s.portServed ∧ s.port.i3cAddr = 0 then
      State.send { s with port := { s.port with i3cAddr := addr.val } } (.ccc (pidOnBus ++ [0x06#8, 0x00#8]))
    else s)

/-- RSTDAA: the address is lost. -/
def execRstdaa (s : State) : Host.Outcome State Fault Refusal :=
  .next (if s.portServed then { s with port := { s.port with i3cAddr := 0 } } else s)

/-- SETNEWDA: a new address in place of one held. -/
def execSetnewda (addr : Fin 128) (s : State) : Host.Outcome State Fault Refusal :=
  .next (if s.addressed then { s with port := { s.port with i3cAddr := addr.val } } else s)

/-- GETPID. -/
def execGetpid (s : State) : Host.Outcome State Fault Refusal := s.cccReturns pidOnBus

/-- GETBCR: 0x06. -/
def execGetbcr (s : State) : Host.Outcome State Fault Refusal := s.cccReturns [0x06#8]

/-- GETDCR: 0x00. -/
def execGetdcr (s : State) : Host.Outcome State Fault Refusal := s.cccReturns [0x00#8]

/-- GETSTATUS. -/
def execGetstatus (s : State) : Host.Outcome State Fault Refusal :=
  s.cccReturns (beBytes 2 (Config.i3cStatus (!s.port.mctpOut.isEmpty)).toNat)

/-- GETMWL. -/
def execGetmwl (s : State) : Host.Outcome State Fault Refusal := s.cccReturns (beBytes 2 s.port.mwl)

/-- GETMRL. -/
def execGetmrl (s : State) : Host.Outcome State Fault Refusal := s.cccReturns (beBytes 2 s.port.mrl)

/-- SETMWL: at most the 68 bytes of one MCTP packet. -/
def execSetmwl (value : BitVec 16) (s : State) : Host.Outcome State Fault Refusal :=
  .next (if s.addressed then { s with port := { s.port with mwl := min value.toNat 68 } } else s)

/-- SETMRL: at most the 68 bytes of one MCTP packet. -/
def execSetmrl (value : BitVec 16) (s : State) : Host.Outcome State Fault Refusal :=
  .next (if s.addressed then { s with port := { s.port with mrl := min value.toNat 68 } } else s)

/-- ENEC: target events are enabled. -/
def execEnec (events : BitVec 8) (s : State) : Host.Outcome State Fault Refusal :=
  .next (if s.addressed then { s with port := { s.port with i3cEvents := s.port.i3cEvents ||| events.toNat } } else s)

/-- DISEC: target events are disabled. -/
def execDisec (events : BitVec 8) (s : State) : Host.Outcome State Fault Refusal :=
  .next (if s.addressed then { s with port := { s.port with i3cEvents := clearBits s.port.i3cEvents events.toNat } } else s)

/-! ### MCTP packets and messages (R490 to R492) -/

/-- The longest message that is reassembled. -/
def mctpMax : Nat := 73728

/-- A vendor-defined message is malformed: another RCODE, a reserved byte that is not zero, or fewer than 20 bytes (R491). -/
def vendorMalformed (b : Bytes) : Bool := byteAt b 2 != 1 || byteAt b 3 != 0 || decide (b.length < 20)

/-- A vendor-defined message without its type byte (R491): its request waits, or is answered MALFORMED at once. -/
def State.vendorMessage (s : State) (src tag : Nat) (b : Bytes) : State :=
  if byteAt b 0 ≠ 0x1F ∨ byteAt b 1 ≠ 0x4C then s.mctpViolation
  else if vendorMalformed b then
    let r := parseRequest (fit 16 (b.drop 4))
    ((s.countRequest .i3c r 9).answerI3c src tag (r.response 9 0 [])).mctpViolation
  else { s with port := { s.port with asked := s.port.asked ++ [(src, tag, b.drop 4)] } }

/-- A control message waits for its command's row; a command that is not supported is answered so at once, with completion
code 5 of the base specification. -/
def State.controlMessage (s : State) (src tag : Nat) (b : Bytes) : State :=
  let c := byteAt b 2
  if c = 1 ∨ c = 2 ∨ c = 4 ∨ c = 5 ∨ c = 6 then { s with port := { s.port with control := s.port.control ++ [(src, tag, b)] } }
  else s.sendMctp src tag [0#8, u8 (byteAt b 1 % 128), u8 c, 5#8]

/-- A whole message, by its type (R490). -/
def State.mctpMessage (s : State) (src tag : Nat) (b : Bytes) : State :=
  match byteAt b 0 with
  | 0x00 => s.controlMessage src tag b
  | 0x05 => { s with port := { s.port with spdmIn := s.port.spdmIn ++ [(src, tag, b)] } }
  | 0x06 => { s with port := { s.port with spdmIn := s.port.spdmIn ++ [(src, tag, b)] } }
  | 0x7E => s.vendorMessage src tag (b.drop 1)
  | _ => s.mctpViolation

/-- A packet's header and length are those of a packet for this endpoint. -/
def State.packetOk (s : State) (p : Bytes) : Bool :=
  decide (5 ≤ p.length) && decide (p.length ≤ 68) && byteAt p 0 % 16 == 1
    && (byteAt p 1 == s.port.eid || byteAt p 1 == 0 || byteAt p 1 == 0xFF)

/-- A packet that continues the message under reassembly, or begins one. -/
def State.takePacket (s : State) (p : Bytes) : State :=
  let f := byteAt p 3
  let src := byteAt p 2
  let data := p.drop 4
  let deliver := fun (a : State) (n : Nat) (b : Bytes) =>
    if mctpMax < b.length then (State.mctpViolation { a with port := { a.port with mctp := none } })
    else if bit f 6 then (State.mctpMessage { a with port := { a.port with mctp := none } } src (f % 8) b)
    else { a with port := { a.port with mctp := some (src, f % 16, (n + 1) % 4, b) } }
  match s.port.mctp with
  | none => if bit f 7 then deliver s (bits f 5 4) data else s.mctpViolation
  | some (from_, tag, n, b) =>
    if bit f 7 then deliver (State.mctpViolation { s with port := { s.port with mctp := none } }) (bits f 5 4) data
    else if from_ = src ∧ tag = f % 16 ∧ n = bits f 5 4 then deliver s n (b ++ data)
    else (State.mctpViolation { s with port := { s.port with mctp := none } })

/-- MCTP_PACKET (R490): a packet whose PEC fails is discarded. -/
def execMctpPacket (packet : Bytes) (pecOk : Bool) (s : State) : Host.Outcome State Fault Refusal :=
  .next (if !s.addressed then s else if pecOk && s.packetOk packet then s.wake.takePacket packet else s.mctpViolation)

/-- IBI_PRIVATE_READ (R490): the bus owner takes a packet with its PEC; the next one that waits raises its own interrupt. -/
def execIbiPrivateRead (s : State) : Host.Outcome State Fault Refusal :=
  match s.port.mctpOut with
  | [] => .next s
  | p :: r =>
    .next (if !s.addressed then s
      else
        let s1 := State.send { s with port := { s.port with mctpOut := r } } (.mctp (p ++ primOut .pec [p] 1))
        if r.isEmpty then s1 else s1.raiseIbi)

/-! ### MCTP control commands (R490) -/

/-- The control message that waits is answered, if it carries a command code: its completion code and data. -/
def State.controlReply (s : State) (code : Nat) (f : State → Bytes → Bytes × State) : Host.Outcome State Fault Refusal :=
  match s.port.control with
  | [] => .next s
  | x :: r =>
    .next (if byteAt x.2.2 2 ≠ code ∨ !s.portServed ∨ s.mode.mode = mIdle then s
      else
        let y := f { s with port := { s.port with control := r } } (x.2.2.drop 3)
        y.2.sendMctp x.1 x.2.1 ([0#8, u8 (byteAt x.2.2 1 % 128), u8 code] ++ y.1))

/-- SET_ENDPOINT_ID: an endpoint ID from 8 to 254 is set; other values and operations are invalid data. -/
def execSetEndpointId (s : State) : Host.Outcome State Fault Refusal :=
  s.controlReply 1 fun a b =>
    if b.length < 2 then ([3#8], a)
    else if byteAt b 0 ≤ 1 ∧ 8 ≤ byteAt b 1 ∧ byteAt b 1 ≤ 254 then
      ([0#8, 0#8, u8 (byteAt b 1), 0#8], { a with port := { a.port with eid := byteAt b 1 } })
    else ([2#8, 0#8, u8 a.port.eid, 0#8], a)

/-- GET_ENDPOINT_ID. -/
def execGetEndpointId (s : State) : Host.Outcome State Fault Refusal :=
  s.controlReply 2 fun a _ => ([0#8, u8 a.port.eid, 0#8, 0#8], a)

/-- GET_MCTP_VERSION_SUPPORT: the versions are those of DSP0236 and DSP0233 (log 2). -/
def execGetMctpVersionSupport (s : State) : Host.Outcome State Fault Refusal :=
  s.controlReply 4 fun a b => (0#8 :: primOut .mctp [b] (Config.primN .mctp [b]), a)

/-- GET_MESSAGE_TYPE_SUPPORT: the four types of R490. -/
def execGetMessageTypeSupport (s : State) : Host.Outcome State Fault Refusal :=
  s.controlReply 5 fun a _ => ([0#8, 4#8, 0x00#8, 0x05#8, 0x06#8, 0x7E#8], a)

/-- GET_VENDOR_DEFINED_MESSAGE_SUPPORT: the one vendor ID of R490, with a version that the spec does not state (log 2). -/
def execGetVendorDefinedMessageSupport (s : State) : Host.Outcome State Fault Refusal :=
  s.controlReply 6 fun a b =>
    if b.length < 1 then ([3#8], a)
    else if byteAt b 0 = 0 then ([0#8, 0xFF#8, 0#8, 0x1F#8, 0x4C#8] ++ primOut .mctp [[6#8]] 2, a) else ([2#8], a)

end Sys2Proof.Machine
end

