-- ==== Sys2Proof/Machine/Window.lean ====
section
/-! DEFINITION. The control window (R74 to R76, R449, R461), the MSI-X table (R476) and PTM Enable (R484): what a write to
them does, and what a read of the window shows. -/

namespace Sys2Proof.Machine

open Sys2Proof

/-! ### Layout (R74) -/

/-- A place in the control window: a region and an offset in it, or a local queue number and an offset in its block. -/
inductive Place where
  | device (off : Nat)
  | mailbox (off : Nat)
  | doorbell (k off : Nat)
  | control (k off : Nat)
  | status (off : Nat)
  | unlisted
  deriving DecidableEq, Repr

/-- The place at an offset of the physical function's window. -/
def placePf (o : Nat) : Place :=
  if o < 0x1000 then .device o
  else if o < 0x2000 then .mailbox (o - 0x1000)
  else if o < 0x2800 then .doorbell ((o - 0x2000) / 8) (o % 8)
  else if 0x4000 ≤ o ∧ o < 0x6000 then .control ((o - 0x4000) / 32) (o % 32)
  else if 0x8000 ≤ o ∧ o < 0x8028 then .status (o - 0x8000)
  else .unlisted

/-- The place at an offset of a virtual function's window. -/
def placeVf (o : Nat) : Place :=
  if o < 0x1000 then .mailbox o
  else if o < 0x1200 then .doorbell ((o - 0x1000) / 8) (o % 8)
  else if 0x2000 ≤ o ∧ o < 0x2800 then .control ((o - 0x2000) / 32) (o % 32)
  else if 0x3000 ≤ o ∧ o < 0x3010 then .status (o - 0x3000)
  else .unlisted

/-- The place at an offset of a function's window. -/
def placeOf (fn o : Nat) : Place := if fn = 0 then placePf o else placeVf o

/-- The offset holds a field of its register table (R449, R461). -/
def Place.listed : Place → Bool
  | .device o => decide (o < 0xC) || (decide (0x10 ≤ o) && decide (o < 0x18)) || (decide (0x100 ≤ o) && decide (o < 0x120))
  | .mailbox o => decide (o < 0x824)
  | .unlisted => false
  | _ => true

/-- The size of a function's control window (R476). -/
def windowSize (fn : Nat) : Nat := if fn = 0 then 0x100000 else 0x10000

/-! ### Writes -/

/-- GO is written (R461, R463): the request is captured, or the write is a violation while GO reads 1. -/
def State.submit (s : State) (fn : Nat) : State :=
  let m := s.box fn
  if m.go then s.violation fn none
  else s.setBox fn { m with go := true, rspValid := false, captured := m.reqHdr ++ m.reqData }

/-- A byte of the mailbox region is written: request data or header. -/
def State.writeBox (s : State) (fn o : Nat) (v : Byte) : State :=
  let m := s.box fn
  if o < 0x400 then s.setBox fn { m with reqData := m.reqData.set o v }
  else if 0x800 ≤ o ∧ o < 0x810 then s.setBox fn { m with reqHdr := m.reqHdr.set (o - 0x800) v }
  else if o = 0x820 ∧ v.getLsbD 0 then s.submit fn
  else s

/-- SQ_HEAD is written: in STOPPED or HALTED only (R75), and counted modulo the ring size (R57). -/
def State.writeHead (s : State) (n o : Nat) (v : Byte) : State :=
  let q := s.queue n
  if q.state = .stopped ∨ q.state = .halted then
    s.setQueue n { q with sqHead :=
      (if o = 8 then q.sqHead / 256 * 256 + v.toNat else v.toNat * 256 + q.sqHead % 256) % s.ringSize n }
  else s

/-- A byte of a queue control block is written (R75). -/
def State.writeControl (s : State) (fn k o : Nat) (v : Byte) : State :=
  if o = 0 then
    let s1 := if v.getLsbD 0 then s.control fn k State.abortQueue else s
    let s2 := if v.getLsbD 1 then s1.control fn k State.resetQueue else s1
    if v.getLsbD 2 then s2.control fn k State.restartQueue else s2
  else if o = 8 ∨ o = 9 then
    match s.queueOf fn k with
    | some n => s.writeHead n o v
    | none => s
  else s

/-- A byte of the interrupt status is written: ones clear (R76). -/
def State.writeStatusByte (s : State) (fn o : Nat) (v : Byte) : State :=
  let f := s.func fn
  if o = 0 then s.setFunc fn { f with status := clearBits f.status (v.toNat % 16) }
  else if 8 ≤ o then s.setFunc fn { f with haltMap := clearBits f.haltMap (v.toNat * 256 ^ (o - 8)) }
  else s

/-- One byte of a write lands; the bytes of a doorbell act together. -/
def State.writeByte (s : State) (fn o : Nat) (v : Byte) : State :=
  match placeOf fn o with
  | .device 4 => (ctrlOrder (bitList 8 v.toNat)).foldl (fun a b => a.ctrl b) s
  | .mailbox x => s.writeBox fn x v
  | .control k x => s.writeControl fn k x v
  | .status x => s.writeStatusByte fn x v
  | _ => s

/-- The bytes of a write land in their order. -/
def State.writeBytes (s : State) (fn : Nat) : Nat → Bytes → State
  | _, [] => s
  | o, v :: r => (s.writeByte fn o v).writeBytes fn (o + 1) r

/-- The doorbells that a write touches, with the value that each takes (R61). R61 lets the host use one 32-bit write to the low half
or one 64-bit write; a write of another width, or to the high half alone, rings the doorbell with the bytes that it brings and
zeros for the others (DESIGN CHOICE; log 26). -/
def doorbellWrites (fn o : Nat) (data : Bytes) : List (Nat × Nat) :=
  ((List.range (data.length / 8 + 2)).map (fun i => 8 * (o / 8 + i))).filterMap (fun (g : Nat) =>
    match placeOf fn g with
    | .doorbell k _ =>
      if g < o + data.length ∧ o < g + 8 then
        some (k, if g < o then leNat (data.take (g + 8 - o)) * 256 ^ (o - g) else leNat (slice data (g - o) 8))
      else none
    | _ => none)

/-- The local numbers of the queues whose SQ_HEAD a write touches, each once. -/
def headWrites (fn o : Nat) (data : Bytes) : List Nat :=
  ((List.range data.length).filterMap (fun i => match placeOf fn (o + i) with
    | .control k x => if x = 8 ∨ (x = 9 ∧ i = 0) then some k else none
    | _ => none))

/-- The queues of a function whose SQ_HEAD a write touches outside STOPPED and HALTED: each write counts a violation (R82). -/
def State.headRefused (s : State) (fn o : Nat) (data : Bytes) : List Nat :=
  ((headWrites fn o data).filterMap (s.queueOf fn)).filter
    (fun n => (s.queue n).state != .stopped && (s.queue n).state != .halted)

/-- A write in the control window: it wakes the device, one that touches an offset that is not listed counts a violation, and so
does a write to SQ_HEAD outside STOPPED and HALTED (R74, R82, R445). -/
def State.writeWindow (s : State) (fn o : Nat) (data : Bytes) : State :=
  let s1 := s.wake.writeBytes fn o data
  let s2 := (s1.headRefused fn o data).foldl (fun a n => a.violation fn (some n)) s1
  let s3 := (doorbellWrites fn o data).foldl (fun a x => a.ringDoorbell fn x.1 x.2) s2
  if (List.range data.length).all (fun i => (placeOf fn (o + i)).listed) then s3 else s3.violation fn none

/-- One dword of the MSI-X table: address, data, or the mask bit of a vector. -/
def State.writeMsix (s : State) (fn i v : Nat) : State :=
  let f := s.func fn
  if 32 ≤ i then s
  else if i % 4 = 3 then
    (if bit v 0 then s.setFunc fn { f with vecMask := setBit f.vecMask (i / 4) } else s.unmask fn (i / 4))
  else s.setFunc fn { f with msix := if v = 0 then tdel f.msix i else tput f.msix i v }

/-- A memory write is within the rules for requests: 1 to 4,096 bytes, and not across a 4 KiB boundary (R476). -/
def requestOk (o len : Nat) : Bool := decide (1 ≤ len) && decide (o % 4096 + len ≤ 4096)

/-- Device Control or Device Control 2 is written (R478, R479): Max_Read_Request_Size stands in bits 14 to 12 of the one, the
Completion Timeout Value in bits 3 to 0 of the other, as PCI Express has them (PRESUMED; log 67). -/
def State.writeControlReg (s : State) (fn offset v : Nat) : State :=
  let f := s.func fn
  if offset = 8 then s.setFunc fn { f with maxRead := 128 * 2 ^ min 5 (bits v 14 12) }
  else if offset = 0x28 then s.setFunc fn { f with timeoutCode := bits v 3 0 }
  else s

/-- REGISTER_WRITE (R454, R74, R476, R478, R479, R484): the registers without a row of their own, and the bits of those that have
one. -/
def execRegisterWrite (fn : Fin 256) (space : RegSpace) (offset : Nat) (data : Bytes) (s : State) : Host.Outcome State Fault Refusal :=
  let alive := s.mainOn && s.mode.mode != mReset
  match space with
  | .window =>
    .next (if alive && s.reachable fn.val && requestOk offset data.length && decide (offset + data.length ≤ windowSize fn.val)
      then s.writeWindow fn.val offset data else s)
  | .msix =>
    .next (if alive && s.reachable fn.val && offset % 4 == 0 && (data.length == 4 || data.length == 8) then
      let s1 := s.writeMsix fn.val (offset / 4) (leNat (data.take 4))
      if data.length = 8 then s1.writeMsix fn.val (offset / 4 + 1) (leNat (data.drop 4)) else s1
    else s)
  | .ptm =>
    .next (if s.takesConfig && fn.val == 0 then { s with port := { s.port with ptmEnable := bit (leNat data) 0 } } else s)
  | .control => .next (if s.takesConfig then s.writeControlReg fn.val offset (leNat data) else s)

/-! ### Reads -/

/-- The first dword of the device page (R449). -/
def State.deviceStatus (s : State) : Nat :=
  s.mode.mode + 16 * s.mode.prev + 256 * s.lcState + 2048 * flag s.degraded + 4096 * flag s.fault.alarmOut
    + 8192 * flag s.vault.commitReq + 16384 * flag s.mode.drained

/-- The STATE code of a queue (R75). -/
def queueCode : QState → Nat
  | .disabled => 0
  | .running => 1
  | .stopped => 2
  | .halted => 3

/-- The FETCH code of a queue (R75). -/
def fetchCode : Fetch → Nat
  | .idle => 0
  | .active => 1
  | .paused => 2

/-- The 32 bytes of a queue control block (R75). -/
def State.controlBlock (s : State) (n : Nat) : Bytes :=
  let q := s.queue n
  leBytes 4 (flag q.abort + 2 * flag q.reset + 4 * flag q.restart)
    ++ leBytes 4 (queueCode q.state + 4 * fetchCode q.fetch + 16 * q.haltCause + 65536 * s.inflight n)
    ++ leBytes 4 q.sqHead ++ leBytes 4 (q.cqTail + 65536 * flag q.cqPhase) ++ leBytes 8 q.haltAddr ++ leBytes 4 q.violCount ++ zeros 4

/-- The bits of DEV_CTRL whose action is still to be done (R449): those held in Idle, and one whose mode the next beat enters. -/
def State.ctrlBits (s : State) : List Nat :=
  s.mode.held ++ (if s.mode.nextMode = mService then [6] else if s.mode.nextMode = mIdle then [2] else [])

/-- The byte at an offset of a function's window, as a read of that byte alone shows it; offsets not listed read zero (R74). -/
def State.readWindow (s : State) (fn o : Nat) : Byte :=
  match placeOf fn o with
  | .device x =>
    if x < 4 then (leBytes 4 s.deviceStatus).getD x 0#8
    else if x = 4 then u8 (s.ctrlBits.foldl setBit 0)
    else if x = 8 then u8 (s.mode.lastCtrl + 16 * flag s.mode.refused)
    else if 0x10 ≤ x ∧ x < 0x14 then (leBytes 8 s.beat).getD (x - 0x10) 0#8
    else if 0x14 ≤ x ∧ x < 0x18 then (leBytes 4 s.mode.beatLatch).getD (x - 0x14) 0#8
    else if 0x100 ≤ x ∧ x < 0x120 then s.mode.dsrLast.getD (x - 0x100) 0#8
    else 0#8
  | .mailbox x =>
    let m := s.box fn
    if x < 0x400 then m.reqData.getD x 0#8
    else if x < 0x800 then m.rspData.getD (x - 0x400) 0#8
    else if x < 0x810 then m.reqHdr.getD (x - 0x800) 0#8
    else if x < 0x820 then m.rspHdr.getD (x - 0x810) 0#8
    else if x = 0x820 then u8 (flag m.go + 2 * flag m.rspValid)
    else 0#8
  | .control k x =>
    match s.queueOf fn k with
    | some n => (s.controlBlock n).getD x 0#8
    | none => 0#8
  | .status x =>
    let f := s.func fn
    if x < 8 then (leBytes 8 f.status).getD x 0#8 else (leBytes 32 f.haltMap).getD (x - 8) 0#8
  | _ => 0#8

/-- A read of the low half of BEAT_COUNT latches the high half for the next read (R449). -/
def State.latchBeat (s : State) : State := { s with mode := { s.mode with beatLatch := s.beat / 2 ^ 32 } }

end Sys2Proof.Machine
end

