-- ==== Sys2Proof/Machine/Dispatch.lean ====
section
/-! DEFINITION. One arm per command: its meaning, or its rejection by name. -/

namespace Sys2Proof.Machine

open Sys2Proof

/-- The effect of one command on everything but the queue of waiting commands. -/
def exec (i : Instr) (s : State) : Host.Outcome State Fault Refusal :=
  match i with
  | .doorbellWrite fn k value => Sys2Proof.Machine.execDoorbellWrite fn k value s
  | .headerReadReturn q index data => Sys2Proof.Machine.execHeaderReadReturn q index data s
  | .idleRescan q => Sys2Proof.Machine.execIdleRescan q s
  | .fetchResume q => Sys2Proof.Machine.execFetchResume q s
  | .parameterBlockReturn q index data => Sys2Proof.Machine.execParameterBlockReturn q index data s
  | .admission => Sys2Proof.Machine.execAdmission s
  | .sgEntryReturn slot output entry => Sys2Proof.Machine.execSgEntryReturn slot output entry s
  | .inputDataReturn slot aad data => Sys2Proof.Machine.execInputDataReturn slot aad data s
  | .stagingSpaceFreed slot => Sys2Proof.Machine.execStagingSpaceFreed slot s
  | .fetchEnd slot => Sys2Proof.Machine.execFetchEnd slot s
  | .startRightGrant cell => Sys2Proof.Machine.execStartRightGrant cell s
  | .expansionRun run => Sys2Proof.Machine.execExpansionRun run s
  | .stagingEnd slot failed => Sys2Proof.Machine.execStagingEnd slot failed s
  | .release slot failed => Sys2Proof.Machine.execRelease slot failed s
  | .chunkRelease slot => Sys2Proof.Machine.execChunkRelease slot s
  | .hbsSliceEnd slot slice => Sys2Proof.Machine.execHbsSliceEnd slot slice s
  | .wipeEnd cls unit => Sys2Proof.Machine.execWipeEnd cls unit s
  | .completionWrite slot => Sys2Proof.Machine.execCompletionWrite slot s
  | .destroyCompletion slot => Sys2Proof.Machine.execDestroyCompletion slot s
  | .intDelayExpiry q => Sys2Proof.Machine.execIntDelayExpiry q s
  | .msixUnmask fn vec => Sys2Proof.Machine.execMsixUnmask fn vec s
  | .startWaitTimeout slot => Sys2Proof.Machine.execStartWaitTimeout slot s
  | .entropyWaitExpiry slot => Sys2Proof.Machine.execEntropyWaitExpiry slot s
  | .dmaReadFailure read addr => Sys2Proof.Machine.execDmaReadFailure read addr s
  | .dmaRetry read => Sys2Proof.Machine.execDmaRetry read s
  | .completionTimeoutExpiry read addr => Sys2Proof.Machine.execCompletionTimeoutExpiry read addr s
  | .postedWriteRefused write => Sys2Proof.Machine.execPostedWriteRefused write s
  | .violationBucketLeak d => Sys2Proof.Machine.execViolationBucketLeak d s
  | .queueAbort fn k => Sys2Proof.Machine.execQueueAbort fn k s
  | .queueReset fn k => Sys2Proof.Machine.execQueueReset fn k s
  | .queueRestart fn k => Sys2Proof.Machine.execQueueRestart fn k s
  | .queueDone q => Sys2Proof.Machine.execQueueDone q s
  | .qEnable by_ q on => Sys2Proof.Machine.execQEnable by_ q on s
  | .registerWrite fn space offset data => Sys2Proof.Machine.execRegisterWrite fn space offset data s
  | .mlkemEncaps slot => Sys2Proof.Machine.execMlkemEncaps slot s
  | .mlkemCheckEk slot => Sys2Proof.Machine.execMlkemCheckEk slot s
  | .mlkemDecaps slot => Sys2Proof.Machine.execMlkemDecaps slot s
  | .mldsaSign slot => Sys2Proof.Machine.execMldsaSign slot s
  | .mldsaSignMu slot => Sys2Proof.Machine.execMldsaSignMu slot s
  | .mldsaVerify slot => Sys2Proof.Machine.execMldsaVerify slot s
  | .mldsaVerifyMu slot => Sys2Proof.Machine.execMldsaVerifyMu slot s
  | .fndsaSign slot => Sys2Proof.Machine.execFndsaSign slot s
  | .fndsaVerify slot => Sys2Proof.Machine.execFndsaVerify slot s
  | .slhdsaSign slot => Sys2Proof.Machine.execSlhdsaSign slot s
  | .slhdsaVerify slot => Sys2Proof.Machine.execSlhdsaVerify slot s
  | .hssSign slot => Sys2Proof.Machine.execHssSign slot s
  | .hssVerify slot => Sys2Proof.Machine.execHssVerify slot s
  | .hssReserve slot => Sys2Proof.Machine.execHssReserve slot s
  | .xmssSign slot => Sys2Proof.Machine.execXmssSign slot s
  | .xmssVerify slot => Sys2Proof.Machine.execXmssVerify slot s
  | .xmssReserve slot => Sys2Proof.Machine.execXmssReserve slot s
  | .hqcEncaps slot => Sys2Proof.Machine.execHqcEncaps slot s
  | .hqcDecaps slot => Sys2Proof.Machine.execHqcDecaps slot s
  | .cmEncaps slot => Sys2Proof.Machine.execCmEncaps slot s
  | .cmDecaps slot => Sys2Proof.Machine.execCmDecaps slot s
  | .rsaOaepEncrypt slot => Sys2Proof.Machine.execRsaOaepEncrypt slot s
  | .rsaOaepDecrypt slot => Sys2Proof.Machine.execRsaOaepDecrypt slot s
  | .rsaPssSign slot => Sys2Proof.Machine.execRsaPssSign slot s
  | .rsaPssVerify slot => Sys2Proof.Machine.execRsaPssVerify slot s
  | .rsaV15Sign slot => Sys2Proof.Machine.execRsaV15Sign slot s
  | .rsaV15Verify slot => Sys2Proof.Machine.execRsaV15Verify slot s
  | .ecdsaSign slot => Sys2Proof.Machine.execEcdsaSign slot s
  | .ecdsaVerify slot => Sys2Proof.Machine.execEcdsaVerify slot s
  | .ecdh slot => Sys2Proof.Machine.execEcdh slot s
  | .ecCheckPoint slot => Sys2Proof.Machine.execEcCheckPoint slot s
  | .eddsaSign slot => Sys2Proof.Machine.execEddsaSign slot s
  | .eddsaVerify slot => Sys2Proof.Machine.execEddsaVerify slot s
  | .xdh slot => Sys2Proof.Machine.execXdh slot s
  | .ecbEnc slot => Sys2Proof.Machine.execEcbEnc slot s
  | .ecbDec slot => Sys2Proof.Machine.execEcbDec slot s
  | .cbcEnc slot => Sys2Proof.Machine.execCbcEnc slot s
  | .cbcDec slot => Sys2Proof.Machine.execCbcDec slot s
  | .ctr slot => Sys2Proof.Machine.execCtr slot s
  | .gcmEnc slot => Sys2Proof.Machine.execGcmEnc slot s
  | .gcmDec slot => Sys2Proof.Machine.execGcmDec slot s
  | .gmacGen slot => Sys2Proof.Machine.execGmacGen slot s
  | .gmacVerify slot => Sys2Proof.Machine.execGmacVerify slot s
  | .ccmEnc slot => Sys2Proof.Machine.execCcmEnc slot s
  | .ccmDec slot => Sys2Proof.Machine.execCcmDec slot s
  | .xtsEnc slot => Sys2Proof.Machine.execXtsEnc slot s
  | .xtsDec slot => Sys2Proof.Machine.execXtsDec slot s
  | .cmacGen slot => Sys2Proof.Machine.execCmacGen slot s
  | .cmacVerify slot => Sys2Proof.Machine.execCmacVerify slot s
  | .kwWrap slot => Sys2Proof.Machine.execKwWrap slot s
  | .kwUnwrap slot => Sys2Proof.Machine.execKwUnwrap slot s
  | .digest slot => Sys2Proof.Machine.execDigest slot s
  | .xof slot => Sys2Proof.Machine.execXof slot s
  | .verifyDigest slot => Sys2Proof.Machine.execVerifyDigest slot s
  | .hmac slot => Sys2Proof.Machine.execHmac slot s
  | .kmac slot => Sys2Proof.Machine.execKmac slot s
  | .verifyMac slot => Sys2Proof.Machine.execVerifyMac slot s
  | .kdfCtr slot => Sys2Proof.Machine.execKdfCtr slot s
  | .hkdf slot => Sys2Proof.Machine.execHkdf slot s
  | .kdfOnestep slot => Sys2Proof.Machine.execKdfOnestep slot s
  | .chachapolyEnc slot => Sys2Proof.Machine.execChachapolyEnc slot s
  | .chachapolyDec slot => Sys2Proof.Machine.execChachapolyDec slot s
  | .asconEnc slot => Sys2Proof.Machine.execAsconEnc slot s
  | .asconDec slot => Sys2Proof.Machine.execAsconDec slot s
  | .asconHash slot => Sys2Proof.Machine.execAsconHash slot s
  | .asconXof slot => Sys2Proof.Machine.execAsconXof slot s
  | .muntjacRecoveryJob slot => Sys2Proof.Machine.execMuntjacRecoveryJob slot s
  | .hkemEncaps slot => Sys2Proof.Machine.execHkemEncaps slot s
  | .hkemDecaps slot => Sys2Proof.Machine.execHkemDecaps slot s
  | .csigSign slot => Sys2Proof.Machine.execCsigSign slot s
  | .csigVerify slot => Sys2Proof.Machine.execCsigVerify slot s
  | .generate slot => Sys2Proof.Machine.execGenerate slot s
  | .destroy slot => Sys2Proof.Machine.execDestroy slot s
  | .derive slot => Sys2Proof.Machine.execDerive slot s
  | .exportWrapped slot => Sys2Proof.Machine.execExportWrapped slot s
  | .importEnvelope slot => Sys2Proof.Machine.execImportEnvelope slot s
  | .attest slot => Sys2Proof.Machine.execAttest slot s
  | .query slot => Sys2Proof.Machine.execQuery slot s
  | .getRandom slot => Sys2Proof.Machine.execGetRandom slot s
  | .getRandomPr slot => Sys2Proof.Machine.execGetRandomPr slot s
  | .streamInit slot => Sys2Proof.Machine.execStreamInit slot s
  | .streamUpdate slot => Sys2Proof.Machine.execStreamUpdate slot s
  | .streamFinal slot => Sys2Proof.Machine.execStreamFinal slot s
  | .streamDiscard slot => Sys2Proof.Machine.execStreamDiscard slot s
  | .vaultExport slot => Sys2Proof.Machine.execVaultExport slot s
  | .vaultPrepare slot => Sys2Proof.Machine.execVaultPrepare slot s
  | .vaultCommit slot => Sys2Proof.Machine.execVaultCommit slot s
  | .nop slot => Sys2Proof.Machine.execNop slot s
  | .fence slot => Sys2Proof.Machine.execFence slot s
  | .echo slot => Sys2Proof.Machine.execEcho slot s
  | .abort slot => Sys2Proof.Machine.execAbort slot s
  | .ownership slot => Sys2Proof.Machine.execOwnership slot s
  | .lcSet slot => Sys2Proof.Machine.execLcSet slot s
  | .domainCreate slot => Sys2Proof.Machine.execDomainCreate slot s
  | .domainRetire slot => Sys2Proof.Machine.execDomainRetire slot s
  | .dictWrite slot => Sys2Proof.Machine.execDictWrite slot s
  | .wheelLoad slot => Sys2Proof.Machine.execWheelLoad slot s
  | .fuseDisable slot => Sys2Proof.Machine.execFuseDisable slot s
  | .forceSource slot => Sys2Proof.Machine.execForceSource slot s
  | .patchMin slot => Sys2Proof.Machine.execPatchMin slot s
  | .entropyStudy slot => Sys2Proof.Machine.execEntropyStudy slot s
  | .herdMembership slot => Sys2Proof.Machine.execHerdMembership slot s
  | .calendarSet slot => Sys2Proof.Machine.execCalendarSet slot s
  | .attestKey slot => Sys2Proof.Machine.execAttestKey slot s
  | .rosterSet slot => Sys2Proof.Machine.execRosterSet slot s
  | .importAuthority slot => Sys2Proof.Machine.execImportAuthority slot s
  | .importKey slot => Sys2Proof.Machine.execImportKey slot s
  | .hbsPartition slot => Sys2Proof.Machine.execHbsPartition slot s
  | .epochAdvance slot => Sys2Proof.Machine.execEpochAdvance slot s
  | .epochSweep d => Sys2Proof.Machine.execEpochSweep d s
  | .assemblySweep => Sys2Proof.Machine.execAssemblySweep s
  | .statefulRebuild index => Sys2Proof.Machine.execStatefulRebuild index s
  | .wheelBoundary => Sys2Proof.Machine.execWheelBoundary s
  | .powerCap value => Sys2Proof.Machine.execPowerCap value s
  | .stageReset => Sys2Proof.Machine.execStageReset s
  | .stageData data => Sys2Proof.Machine.execStageData data s
  | .countClear index => Sys2Proof.Machine.execCountClear index s
  | .vloadImage => Sys2Proof.Machine.execVloadImage s
  | .vloadEmpty => Sys2Proof.Machine.execVloadEmpty s
  | .vloadDone list bus => Sys2Proof.Machine.execVloadDone list bus s
  | .journalSlotWritten ok => Sys2Proof.Machine.execJournalSlotWritten ok s
  | .journalRotation => Sys2Proof.Machine.execJournalRotation s
  | .commitRequest => Sys2Proof.Machine.execCommitRequest s
  | .commitIntervalExpiry => Sys2Proof.Machine.execCommitIntervalExpiry s
  | .patrolScrubSlice found => Sys2Proof.Machine.execPatrolScrubSlice found s
  | .dramRetrain passed => Sys2Proof.Machine.execDramRetrain passed s
  | .expansionPurgeSlice => Sys2Proof.Machine.execExpansionPurgeSlice s
  | .copyAreaFreed page => Sys2Proof.Machine.execCopyAreaFreed page s
  | .noiseWindow source raw => Sys2Proof.Machine.execNoiseWindow source raw s
  | .rctFailure source => Sys2Proof.Machine.execRctFailure source s
  | .requalificationAttempt source passed => Sys2Proof.Machine.execRequalificationAttempt source passed s
  | .requalPeriodExpiry source => Sys2Proof.Machine.execRequalPeriodExpiry source s
  | .conditionedBlock => Sys2Proof.Machine.execConditionedBlock s
  | .rootReseed => Sys2Proof.Machine.execRootReseed s
  | .maskUnitReseed unit => Sys2Proof.Machine.execMaskUnitReseed unit s
  | .rootAgeExpiry => Sys2Proof.Machine.execRootAgeExpiry s
  | .entropyStartupStep failed => Sys2Proof.Machine.execEntropyStartupStep failed s
  | .startupLimitExpiry => Sys2Proof.Machine.execStartupLimitExpiry s
  | .studyCaptureEnd captured => Sys2Proof.Machine.execStudyCaptureEnd captured s
  | .studySelect source => Sys2Proof.Machine.execStudySelect source s
  | .studyData => Sys2Proof.Machine.execStudyData s
  | .studyExit => Sys2Proof.Machine.execStudyExit s
  | .meshStep samples => Sys2Proof.Machine.execMeshStep samples s
  | .meshAlarm mesh => Sys2Proof.Machine.execMeshAlarm mesh s
  | .senseSample input level => Sys2Proof.Machine.execSenseSample input level s
  | .senseAlarm input => Sys2Proof.Machine.execSenseAlarm input s
  | .chatterBinRoll => Sys2Proof.Machine.execChatterBinRoll s
  | .zeroiseRequest => Sys2Proof.Machine.execZeroiseRequest s
  | .detectorAlarm detector reading => Sys2Proof.Machine.execDetectorAlarm detector reading s
  | .aoTempAlarm temp => Sys2Proof.Machine.execAoTempAlarm temp s
  | .vbatLow mv => Sys2Proof.Machine.execVbatLow mv s
  | .vbatFail mv => Sys2Proof.Machine.execVbatFail mv s
  | .aoClock => Sys2Proof.Machine.execAoClock s
  | .aoSupplySwitch => Sys2Proof.Machine.execAoSupplySwitch s
  | .aoSupplyReturn => Sys2Proof.Machine.execAoSupplyReturn s
  | .fuseBurnStep ok => Sys2Proof.Machine.execFuseBurnStep ok s
  | .lockdownHoldClear => Sys2Proof.Machine.execLockdownHoldClear s
  | .force source => Sys2Proof.Machine.execForce source s
  | .shadowMismatch item source copy => Sys2Proof.Machine.execShadowMismatch item source copy s
  | .microTrapScrub cls unit word => Sys2Proof.Machine.execMicroTrapScrub cls unit word s
  | .rollingBistStart => Sys2Proof.Machine.execRollingBistStart s
  | .unitIsolated cls unit => Sys2Proof.Machine.execUnitIsolated cls unit s
  | .rollingBistEnd result => Sys2Proof.Machine.execRollingBistEnd result s
  | .unitRetest value => Sys2Proof.Machine.execUnitRetest value s
  | .maintRequest act who => Sys2Proof.Machine.execMaintRequest act who s
  | .maintGrant => Sys2Proof.Machine.execMaintGrant s
  | .maintOverdue act => Sys2Proof.Machine.execMaintOverdue act s
  | .patchStageReset => Sys2Proof.Machine.execPatchStageReset s
  | .patchData data => Sys2Proof.Machine.execPatchData data s
  | .patchApply => Sys2Proof.Machine.execPatchApply s
  | .patchWindowTimeout => Sys2Proof.Machine.execPatchWindowTimeout s
  | .windowClose => Sys2Proof.Machine.execWindowClose s
  | .powerUp => Sys2Proof.Machine.execPowerUp s
  | .resetRecordsRead ramLost bad lcBad => Sys2Proof.Machine.execResetRecordsRead ramLost bad lcBad s
  | .memoryBistEnd failed => Sys2Proof.Machine.execMemoryBistEnd failed s
  | .logicBistEnd failed => Sys2Proof.Machine.execLogicBistEnd failed s
  | .aoRecordsStepEnd => Sys2Proof.Machine.execAoRecordsStepEnd s
  | .knownAnswerTestsEnd failed detectorBad => Sys2Proof.Machine.execKnownAnswerTestsEnd failed detectorBad s
  | .bootReset => Sys2Proof.Machine.execBootReset s
  | .bootData data => Sys2Proof.Machine.execBootData data s
  | .assemblyDone => Sys2Proof.Machine.execAssemblyDone s
  | .quiesce => Sys2Proof.Machine.execQuiesce s
  | .resume => Sys2Proof.Machine.execResume s
  | .drained => Sys2Proof.Machine.execDrained s
  | .softReset => Sys2Proof.Machine.execSoftReset s
  | .idle => Sys2Proof.Machine.execIdle s
  | .idleDelayExpiry => Sys2Proof.Machine.execIdleDelayExpiry s
  | .wake => Sys2Proof.Machine.execWake s
  | .modeRevert => Sys2Proof.Machine.execModeRevert s
  | .ceremony => Sys2Proof.Machine.execCeremony s
  | .ceremonyExit => Sys2Proof.Machine.execCeremonyExit s
  | .ceremonyTimeout => Sys2Proof.Machine.execCeremonyTimeout s
  | .pwrFailAssert => Sys2Proof.Machine.execPwrFailAssert s
  | .pwrFailDeassert => Sys2Proof.Machine.execPwrFailDeassert s
  | .coreRailsRemoved => Sys2Proof.Machine.execCoreRailsRemoved s
  | .perstAssert => Sys2Proof.Machine.execPerstAssert s
  | .hotReset down => Sys2Proof.Machine.execHotReset down s
  | .functionLevelReset fn => Sys2Proof.Machine.execFunctionLevelReset fn s
  | .vfEnableChange enable num => Sys2Proof.Machine.execVfEnableChange enable num s
  | .powerStateChange fn d3hot bme => Sys2Proof.Machine.execPowerStateChange fn d3hot bme s
  | .barAccessUnmapped fn => Sys2Proof.Machine.execBarAccessUnmapped fn s
  | .aerErrorReceived kind => Sys2Proof.Machine.execAerErrorReceived kind s
  | .ptmRequest => Sys2Proof.Machine.execPtmRequest s
  | .ptmResponse time => Sys2Proof.Machine.execPtmResponse time s
  | .doeObject object => Sys2Proof.Machine.execDoeObject object s
  | .spdmRequest request => Sys2Proof.Machine.execSpdmRequest request s
  | .ideKm stream op first last => Sys2Proof.Machine.execIdeKm stream op first last s
  | .ideTlpCheck stream => Sys2Proof.Machine.execIdeTlpCheck stream s
  | .entdaa addr => Sys2Proof.Machine.execEntdaa addr s
  | .rstdaa => Sys2Proof.Machine.execRstdaa s
  | .setnewda addr => Sys2Proof.Machine.execSetnewda addr s
  | .getpid => Sys2Proof.Machine.execGetpid s
  | .getbcr => Sys2Proof.Machine.execGetbcr s
  | .getdcr => Sys2Proof.Machine.execGetdcr s
  | .getstatus => Sys2Proof.Machine.execGetstatus s
  | .getmwl => Sys2Proof.Machine.execGetmwl s
  | .getmrl => Sys2Proof.Machine.execGetmrl s
  | .setmwl value => Sys2Proof.Machine.execSetmwl value s
  | .setmrl value => Sys2Proof.Machine.execSetmrl value s
  | .enec events => Sys2Proof.Machine.execEnec events s
  | .disec events => Sys2Proof.Machine.execDisec events s
  | .mctpPacket packet pecOk => Sys2Proof.Machine.execMctpPacket packet pecOk s
  | .ibiPrivateRead => Sys2Proof.Machine.execIbiPrivateRead s
  | .setEndpointId => Sys2Proof.Machine.execSetEndpointId s
  | .getEndpointId => Sys2Proof.Machine.execGetEndpointId s
  | .getMctpVersionSupport => Sys2Proof.Machine.execGetMctpVersionSupport s
  | .getMessageTypeSupport => Sys2Proof.Machine.execGetMessageTypeSupport s
  | .getVendorDefinedMessageSupport => Sys2Proof.Machine.execGetVendorDefinedMessageSupport s
  | .read path => Sys2Proof.Machine.execRead path s
  | .write path => Sys2Proof.Machine.execWrite path s
  | .lock path => Sys2Proof.Machine.execLock path s
  | .describe path => Sys2Proof.Machine.execDescribe path s
  | .monClear by_ value => Sys2Proof.Machine.execMonClear by_ value s
  | .measExtend value => Sys2Proof.Machine.execMeasExtend value s
  | .monitorSample which reading second => Sys2Proof.Machine.execMonitorSample which reading second s
  | .lifeRecordWrite => Sys2Proof.Machine.execLifeRecordWrite s
  | .calendarSecond => Sys2Proof.Machine.execCalendarSecond s
  | .portTrained port => Sys2Proof.Machine.execPortTrained port s
  | .portLockLoss port => Sys2Proof.Machine.execPortLockLoss port s
  | .neighbour port frame => Sys2Proof.Machine.execNeighbour port frame s
  | .hello port frame => Sys2Proof.Machine.execHello port frame s
  | .helloReply port frame => Sys2Proof.Machine.execHelloReply port frame s
  | .finish port frame => Sys2Proof.Machine.execFinish port frame s
  | .announce port frame => Sys2Proof.Machine.execAnnounce port frame s
  | .replicate port frame => Sys2Proof.Machine.execReplicate port frame s
  | .replicateAck port frame => Sys2Proof.Machine.execReplicateAck port frame s
  | .partitionState port frame => Sys2Proof.Machine.execPartitionState port frame s
  | .relayReq port frame => Sys2Proof.Machine.execRelayReq port frame s
  | .relayRsp port frame => Sys2Proof.Machine.execRelayRsp port frame s
  | .beatSync port frame => Sys2Proof.Machine.execBeatSync port frame s
  | .beatSyncReply port frame => Sys2Proof.Machine.execBeatSyncReply port frame s
  | .close port frame => Sys2Proof.Machine.execClose port frame s
  | .herdKeepaliveSend => Sys2Proof.Machine.execHerdKeepaliveSend s
  | .herdPeerLost => Sys2Proof.Machine.execHerdPeerLost s
  | .herdRetry => Sys2Proof.Machine.execHerdRetry s
  | .herdRekey => Sys2Proof.Machine.execHerdRekey s
  | .herdHelloTimeout => Sys2Proof.Machine.execHerdHelloTimeout s
  | .relayTimeout => Sys2Proof.Machine.execRelayTimeout s
  | .herdResyncSlice => Sys2Proof.Machine.execHerdResyncSlice s
  | .beatBoundary => Sys2Proof.Machine.execBeatBoundary s
  | .pcieLinkUp speed width => Sys2Proof.Machine.execPcieLinkUp speed width s
  | .maskGeneratorNotReady unit => Sys2Proof.Machine.execMaskGeneratorNotReady unit s
  | .ptmDialogueTimeout => Sys2Proof.Machine.execPtmDialogueTimeout s
  | .spdmHeartbeatTimeout transport session => Sys2Proof.Machine.execSpdmHeartbeatTimeout transport session s

end Sys2Proof.Machine
end

