-- ==== Sys2Proof/Safety.lean ====
section
/-! DEFINITION. The terms in which claims are made: what a command leaves alone, how the schedule of a job ends, and the
invariant that every step keeps. -/

namespace Sys2Proof.Machine

open Sys2Proof

/-! ### What a command leaves alone -/

/-- `t` is `s` but for one job slot and the count of mask bytes drawn (R111). -/
def OnlyJob (s t : State) (slot : Nat) : Prop :=
  (∀ n, n ≠ slot → t.job? n = s.job? n)
    ∧ ∃ slots masks, t = { s with jobs := { s.jobs with slots := slots }, entropy := { s.entropy with maskBytes := masks } }

/-- The command changes nothing but the queue that it is taken from: its event does not hold in `s`. -/
def NoEffect (c : Instr) (s : State) : Prop := exec c s = .next s

/-! ### The end of a schedule (R19, R21) -/

/-- Every job in or past its first schedule beat has the index or counter value that is its own (R187, R263), as the start of each
beat leaves it. -/
def AllAssigned (s : State) : Prop := s.owedIndex (fun q => decide (q.granted + 2 ≤ s.beat)) = []

/-- One job alone is owed the next value of its key, and the reservation that may follow finds room for its copy (R187, R309). -/
def OwedAlone (s : State) (slot : Nat) (j : Job) (i : Nat) (c : CounterState) : Prop :=
  s.owedIndex (fun q => decide (q.granted + 2 ≤ s.beat)) = [slot] ∧ j.wants = true ∧ j.keyIndex = some i ∧ s.counter? i = some c
    ∧ ∀ k, s.key? i = some k → s.copyFull k.domain (i / 32) = false

/-- The job of a slot with the length of its schedule and its result, which the release takes (R23, R44). -/
def Job.ended (j : Job) (len : Nat) (r : Result) : Job :=
  { j with schedLen := len, blocks := if r.blocks = 0 then j.blocks else r.blocks, result := some r }

/-- A command completes: the job of its slot has the length of its schedule and its result, and nothing else changes but
the count of mask bytes. -/
def Ends (c : Instr) (s : State) (slot : Nat) (j : Job) (len : Nat) (r : Result) : Prop :=
  ∃ t, exec c s = .next t ∧ OnlyJob s t slot ∧ t.job? slot = some (j.ended len r)

/-- A schedule in attempt blocks (R130, R134): the first attempt that passes, counted from 0, gives the result after its
block and the self-verification; with none the job ends at its limit of blocks and gives no output. -/
def EndsInBlocks (c : Instr) (s : State) (slot : Nat) (j : Job) (per p v e cl tail : Nat) (passes : Nat → Bool)
    (sig : Nat → Bytes) : Prop :=
  (∀ a, firstAttempt passes (per * j.blockMax) = some a →
    ∃ r, Ends c s slot j (e + max (p * (a / per + 1) + v) cl + tail) r ∧ r.status = 0x00 ∧ r.out = sig a ∧ r.blocks = a / per + 1)
  ∧ (firstAttempt passes (per * j.blockMax) = none →
    ∃ r, Ends c s slot j (e + max (p * j.blockMax) cl) r ∧ r.status = 0x36 ∧ r.out = [] ∧ r.blocks = j.blockMax)

/-- A released secret, or a new entry that keeps it (R40, R118): `before` is what is written in either case. -/
def SecretOut (j : Job) (secret before : Bytes) (r : Result) : Prop :=
  (j.hdr.has flToVault = false → r.status = 0x00 ∧ r.out = before ++ secret ∧ r.entryClass = 0)
  ∧ (j.hdr.has flToVault = true → r.status = 0x01 ∧ r.out = before ∧ r.entryClass = j.pb.cls ∧ r.entryPset = j.pb.newPset)

/-- A result without output or entry. -/
def Bare (r : Result) (st : Nat) : Prop := r.status = st ∧ r.out = [] ∧ r.entryClass = 0 ∧ r.fault = none

/-- The value at a place in a list of a table, the places numbered from 1. -/
def col (l : List Nat) (n : Nat) : Nat := l.getD (n - 1) 0

/-! ### Tables of commands by operation code (R38) -/

/-- The one-shot operations of class 0xC to 0xE that run on lanes, symmetric units or the Muntjac core (R256). -/
def symmetricRows (slot : Fin 4096) : List (Nat × Instr) :=
  [(0x0C01, .ecbEnc slot), (0x0C02, .ecbDec slot), (0x0C03, .cbcEnc slot), (0x0C04, .cbcDec slot), (0x0C05, .ctr slot),
   (0x0C06, .gcmEnc slot), (0x0C07, .gcmDec slot), (0x0C08, .gmacGen slot), (0x0C09, .gmacVerify slot),
   (0x0C0A, .ccmEnc slot), (0x0C0B, .ccmDec slot), (0x0C0C, .xtsEnc slot), (0x0C0D, .xtsDec slot), (0x0C0E, .cmacGen slot),
   (0x0C0F, .cmacVerify slot), (0x0C10, .kwWrap slot), (0x0C11, .kwUnwrap slot), (0x0D01, .digest slot), (0x0D02, .xof slot),
   (0x0D03, .verifyDigest slot), (0x0D04, .hmac slot), (0x0D05, .kmac slot), (0x0D06, .verifyMac slot),
   (0x0E01, .chachapolyEnc slot), (0x0E02, .chachapolyDec slot), (0x0E03, .asconEnc slot), (0x0E04, .asconDec slot),
   (0x0E05, .asconHash slot), (0x0E06, .asconXof slot)]

/-- The operations whose rows run a schedule: operation code and row (R38). -/
def operationRows (slot : Fin 4096) : List (Nat × Instr) :=
  symmetricRows slot ++ [(0x0101, .mlkemEncaps slot), (0x0102, .mlkemCheckEk slot), (0x0103, .mlkemDecaps slot), (0x0201,
   .mldsaSign slot), (0x0202, .mldsaSignMu slot), (0x0203, .mldsaVerify slot), (0x0204, .mldsaVerifyMu slot), (0x0301,
   .fndsaSign slot), (0x0302, .fndsaVerify slot), (0x0401, .slhdsaSign slot), (0x0402, .slhdsaVerify slot), (0x0501, .hssSign
   slot), (0x0502, .hssVerify slot), (0x0503, .hssReserve slot), (0x0601, .xmssSign slot), (0x0602, .xmssVerify slot),
   (0x0603, .xmssReserve slot), (0x0701, .hqcEncaps slot), (0x0702, .hqcDecaps slot), (0x0801, .cmEncaps slot), (0x0802,
   .cmDecaps slot), (0x0901, .rsaOaepEncrypt slot), (0x0902, .rsaOaepDecrypt slot), (0x0903, .rsaPssSign slot), (0x0904,
   .rsaPssVerify slot), (0x0905, .rsaV15Sign slot), (0x0906, .rsaV15Verify slot), (0x0A01, .ecdsaSign slot), (0x0A02,
   .ecdsaVerify slot), (0x0A03, .ecdh slot), (0x0A04, .ecCheckPoint slot), (0x0B01, .eddsaSign slot), (0x0B02, .eddsaVerify
   slot), (0x0B03, .xdh slot), (0x0D07, .kdfCtr slot), (0x0D08, .hkdf slot), (0x0D09, .kdfOnestep slot), (0x0F01, .hkemEncaps
   slot), (0x0F02, .hkemDecaps slot), (0x0F03, .csigSign slot), (0x0F04, .csigVerify slot), (0x1001, .generate slot),
   (0x1002, .destroy slot), (0x1003, .derive slot), (0x1004, .exportWrapped slot), (0x1005, .importEnvelope slot), (0x1006,
   .attest slot), (0x1007, .query slot), (0x1101, .getRandom slot), (0x1102, .getRandomPr slot), (0x1201, .streamInit slot),
   (0x1202, .streamUpdate slot), (0x1203, .streamFinal slot), (0x1204, .streamDiscard slot), (0x1301, .vaultExport slot),
   (0x1302, .vaultPrepare slot), (0x1303, .vaultCommit slot)]

/-- What a schedule waits for (R181, R188, R308): a tree for its slices, a reservation for room in the copy area, the write of a
journal slot for the one under way. -/
def ScheduleFree (s : State) (op : Nat) (j : Job) : Prop :=
  AllAssigned s
    ∧ (op = 0x1001 → j.pb.cls = 5 ∨ j.pb.cls = 6 → j.tasks = [] ∧ j.suspended = [] ∧ j.slices = [])
    ∧ (op = 0x0503 ∨ op = 0x0603 → ∀ i k, j.keyIndex = some i → s.key? i = some k → s.copyFull k.domain (i / 32) = false)
    ∧ (op = 0x1302 ∨ op = 0x1303 → s.vault.writing = none ∧ s.mode.pwrFail = false)

/-- The order actions: code and row (R332). -/
def orderRows (slot : Fin 4096) : List (Nat × Instr × Action) :=
  [(0x01, .ownership slot, actOwnership), (0x02, .lcSet slot, actLcSet), (0x03, .domainCreate slot, actDomainCreate),
   (0x04, .domainRetire slot, actDomainRetire), (0x05, .dictWrite slot, actDictWrite), (0x06, .wheelLoad slot, actWheelLoad),
   (0x07, .fuseDisable slot, actFuseDisable), (0x08, .forceSource slot, actForceSource), (0x09, .patchMin slot, actPatchMin),
   (0x0B, .herdMembership slot, actHerdMembership), (0x0C, .calendarSet slot, actCalendarSet),
   (0x0D, .attestKey slot, actAttestKey), (0x40, .rosterSet slot, actRosterSet),
   (0x41, .importAuthority slot, actImportAuthority), (0x42, .importKey slot, actImportKey),
   (0x43, .hbsPartition slot, actHbsPartition), (0x44, .epochAdvance slot, actEpochAdvance)]

/-- An order is at the last beat of its schedule with every check of steps 1 to 6 passed (R329, R330). -/
def OrderPasses (s : State) (slot : Nat) (action : Nat) (j : Job) : Prop :=
  s.job? slot = some j ∧ j.phase = 5 ∧ j.hdr.opcode = 0x1401 ∧ j.hdr.pset = action ∧ j.granted + 2 + j.orderLen ≤ s.beat
    ∧ s.orderFailure j = none

/-! ### The Herd link (R496 to R500) -/

/-- A frame of a type from a member reaches this device on a port in use, in a mode that serves the link (R496, R498, R501). -/
def FrameFor (s : State) (port typ p : Nat) (b : Bytes) : Prop :=
  (s.herdPort port).up = true ∧ (s.herdPort port).usable = true ∧ byteAt b 1 = typ ∧ frameOk b = true
    ∧ s.herdPos = some (byteAt b 3) ∧ byteAt b 2 = p ∧ p ≠ byteAt b 3 ∧ p < s.herd.members.length ∧ s.herdServes = true

/-- Where a frame that is not sealed completes a message of its peer, `act` holds of the next state and the message. -/
def TakesStep (c : Instr) (s : State) (port typ p : Nat) (b : Bytes) (act : State → Bytes → Prop) : Prop :=
  FrameFor s port typ p b → ∃ t, exec c s = .next t ∧
    ∀ m, (assemble (s.peer p) (field b 12 2) (byteAt b 14) (byteAt b 15) (b.drop 32)).2 = some m → act t m

/-- Where a sealed frame of a peer in session passes (R497) and completes a message, `act` holds of the next state and the
message. -/
def TakesMessage (c : Instr) (s : State) (port typ p : Nat) (b : Bytes) (act : State → Bytes → Prop) : Prop :=
  FrameFor s port typ p b → (s.peer p).up = true → ∃ t, exec c s = .next t ∧
    (s.frameAccepted (s.peer p) b = true →
      ∀ m, (assemble (s.peer p) (field b 12 2) (byteAt b 14) (byteAt b 15) (framePlain (s.peer p) b)).2 = some m → act t m)

/-- A handshake with a peer has failed (R499): it is counted and raised, and a session in use goes on. -/
def AuthFailed (s t : State) (p : Nat) : Prop :=
  (t.peer p).authFails = bump 32 (s.peer p).authFails 1 ∧ (t.peer p).up = (s.peer p).up ∧ (t.peer p).newKeys = none
    ∧ (s.initiates p = true → (t.peer p).retryAt = some (s.beat + msBeats (s.nextWait (s.peer p))))
    ∧ countOf t.fault.counts 0xA8 = bump 32 (countOf s.fault.counts 0xA8) 1

/-- A session with a peer has formed, with its keys and salts: tx, rx, salt tx, salt rx (R499, R500, R504). -/
def SessionFormed (s t : State) (p : Nat) (k : Bytes × Bytes × Bytes × Bytes) : Prop :=
  (t.peer p).up = true ∧ (t.peer p).state = 2 ∧ (t.peer p).keyTx = k.1 ∧ (t.peer p).keyRx = k.2.1 ∧ (t.peer p).saltTx = k.2.2.1
    ∧ (t.peer p).saltRx = k.2.2.2 ∧ (t.peer p).ctrRx = 0 ∧ (t.peer p).formedBeat = s.beat ∧ (t.peer p).retryWait = 0
    ∧ (t.peer p).newKeys = none ∧ (t.peer p).resyncAsked = true

/-- The command brings a frame of a type, NEIGHBOUR apart (R496). -/
def BringsFrame (port : Fin 2) (b : Bytes) (typ : Nat) (c : Instr) : Prop :=
  (typ, c) ∈ [(0x02, Instr.hello (port, false) b), (0x03, .helloReply port b), (0x04, .finish port b), (0x10, .announce port b), (0x11, .replicate port b),
   (0x12, .replicateAck port b), (0x13, .partitionState port b), (0x20, .relayReq port b), (0x21, .relayRsp port b),
   (0x30, .beatSync port b), (0x31, .beatSyncReply port b), (0x40, .close port b)]

/-! ### The invariant -/

/-- The beat counter has 64 bits (R8), the mode and the mode that Quiesce or Idle was entered from are modes of R435, and the
life-cycle state and its older copy are states of R345. -/
def State.Good (s : State) : Prop :=
  s.beat < 2 ^ 64 ∧ s.mode.mode ≤ 11 ∧ s.mode.cameFrom ≤ 11 ∧ s.lcState ≤ 6 ∧ s.sec.lcCopies.other.1 ≤ 6

end Sys2Proof.Machine
end

