-- ==== Sys2Proof/Certificates/Slice0/Obligations.lean ====
section
/-! DEFINITION. The statements for the provers, in the order of the chapters of the spec. -/

open Sys2Proof Sys2Proof.Machine

/-! ### Job operations: the schedules and results that the class chapters give -/

/-- ML-KEM (R118, R120, R121, R136): schedule lengths per parameter set; a host key out of range ends with INPUT_RANGE and
no output; decapsulation is OK for every ciphertext. -/
def Obligations.MlkemOperations : Prop :=
  ∀ (s : State) (slot : Fin 4096) (j : Job), 1 ≤ j.hdr.pset → j.hdr.pset ≤ 3 →
    (s.running slot.val 0x0101 = some j →
      ∃ r, Ends (.mlkemEncaps slot) s slot.val j (col [14, 20, 28] j.hdr.pset) r
        ∧ (j.hdr.keyHandle = 0 → ekOk (j.input.take (col [800, 1184, 1568] j.hdr.pset)) = false → Bare r 0x33)
        ∧ (j.hdr.keyHandle ≠ 0 ∨ ekOk (j.input.take (col [800, 1184, 1568] j.hdr.pset)) = true →
            SecretOut j (mlkemSecret j.hdr.pset (j.peerKey (col [800, 1184, 1568] j.hdr.pset)) (j.random 32))
              (mlkemCipher j.hdr.pset (j.peerKey (col [800, 1184, 1568] j.hdr.pset)) (j.random 32)) r))
    ∧ (s.running slot.val 0x0102 = some j →
      ∃ r, Ends (.mlkemCheckEk slot) s slot.val j (col [4, 5, 6] j.hdr.pset) r
        ∧ Bare r (if ekOk j.input then 0x00 else 0x33))
    ∧ (s.running slot.val 0x0103 = some j →
      ∃ r, Ends (.mlkemDecaps slot) s slot.val j (col [18, 24, 34] j.hdr.pset) r
        ∧ SecretOut j (mlkemRecover j.hdr.pset j.secret j.input) [] r)

/-- ML-DSA signing (R123, R126, R127, R130, R134, R136): four attempts a block, P and V per parameter set, E for a long message;
SIGN_BLOCK_LIMIT after E + P × MLDSA_BLOCK_MAX beats; MU takes the 64 input bytes as μ. FN-DSA signing (R147, R148, R151): two
attempts a block. Of the 72 bytes drawn the first 40 are the salt, which stands in the signature behind its header byte, and the
others the sampler seed, from which attempt a + 1 hashes its own. ML-DSA and FN-DSA verification (R127, R129, R150, R151): a fixed
schedule plus E; OK or VERIFY_FAIL, and for FN-DSA INPUT_RANGE for a host key out of range. -/
def Obligations.LatticeSignatures : Prop :=
  (∀ (s : State) (slot : Fin 4096) (j : Job), 1 ≤ j.hdr.pset → j.hdr.pset ≤ 3 →
    (s.running slot.val 0x0201 = some j →
      let mu := dsaMu j.keyPk (messageRep j.hdr j.pb [] j.input)
      EndsInBlocks (.mldsaSign slot) s slot.val j 4 (col [72, 96, 140] j.hdr.pset) (col [16, 20, 28] j.hdr.pset)
        (absorb (messageRepLen j.hdr j.pb 0 j.hdr.inLen)) 0 0
        (dsaPasses j.hdr.pset j.secret mu (dsaRnd j)) (dsaSignature j.hdr.pset j.secret mu (dsaRnd j)))
    ∧ (s.running slot.val 0x0202 = some j →
      EndsInBlocks (.mldsaSignMu slot) s slot.val j 4 (col [72, 96, 140] j.hdr.pset) (col [16, 20, 28] j.hdr.pset) 0 0 0
        (dsaPasses j.hdr.pset j.secret j.input (dsaRnd j)) (dsaSignature j.hdr.pset j.secret j.input (dsaRnd j))))
  ∧ (∀ (s : State) (slot : Fin 4096) (j : Job), 1 ≤ j.hdr.pset → j.hdr.pset ≤ 2 → s.running slot.val 0x0301 = some j →
    let m := messageRep j.hdr j.pb [] j.input
    EndsInBlocks (.fndsaSign slot) s slot.val j 2 (col [292, 586] j.hdr.pset) (col [8, 14] j.hdr.pset)
      (absorb (messageRepLen j.hdr j.pb 0 j.hdr.inLen)) 0 0
      (fun a => Config.primB .attemptOk [tag 3 j.hdr.pset, fnKey j.hdr.pset j.secret, m, j.random 40,
        shake256 ((j.random 72).drop 40 ++ leBytes 2 (a + 1)) 64])
      (fun a => [u8 (0x38 + j.hdr.pset)] ++ j.random 40 ++ primOut .sign [tag 3 j.hdr.pset, fnKey j.hdr.pset j.secret, m, j.random 40,
        shake256 ((j.random 72).drop 40 ++ leBytes 2 (a + 1)) 64] (fnSig j.hdr.pset - 41)))
  ∧ (∀ (s : State) (slot : Fin 4096) (j : Job),
    (s.running slot.val 0x0203 = some j → 1 ≤ j.hdr.pset → j.hdr.pset ≤ 3 →
      let rest := j.afterKey (publicLen 2 j.hdr.pset)
      let n := col [2420, 3309, 4627] j.hdr.pset
      let pk := j.peerKey (publicLen 2 j.hdr.pset)
      ∃ r, Ends (.mldsaVerify slot) s slot.val j
          (col [16, 20, 28] j.hdr.pset + absorb (messageRepLen j.hdr j.pb 0 (rest.drop n).length)) r
        ∧ Bare r (if dsaVerifies j.hdr.pset pk (dsaMu pk (messageRep j.hdr j.pb [] (rest.drop n))) (rest.take n) then 0x00 else 0x30))
    ∧ (s.running slot.val 0x0204 = some j → 1 ≤ j.hdr.pset → j.hdr.pset ≤ 3 →
      let rest := j.afterKey (publicLen 2 j.hdr.pset)
      let n := col [2420, 3309, 4627] j.hdr.pset
      ∃ r, Ends (.mldsaVerifyMu slot) s slot.val j (col [16, 20, 28] j.hdr.pset) r
        ∧ Bare r (if dsaVerifies j.hdr.pset (j.peerKey (publicLen 2 j.hdr.pset)) (rest.drop n) (rest.take n) then 0x00 else 0x30))
    ∧ (s.running slot.val 0x0302 = some j → 1 ≤ j.hdr.pset → j.hdr.pset ≤ 2 →
      let rest := j.afterKey (publicLen 3 j.hdr.pset)
      let n := fnSig j.hdr.pset
      let pk := j.peerKey (publicLen 3 j.hdr.pset)
      ∃ r, Ends (.fndsaVerify slot) s slot.val j
          (col [8, 14] j.hdr.pset + absorb (messageRepLen j.hdr j.pb 0 (rest.drop n).length)) r
        ∧ Bare r (if j.hdr.keyHandle = 0 ∧ (fnCoeffs j.hdr.pset pk).any (fun x => decide (12289 ≤ x)) = true then 0x33
            else if fnVerifies j.hdr.pset pk (messageRep j.hdr j.pb [] (rest.drop n)) (rest.take n) then 0x00 else 0x30)))

/-- SLH-DSA (R170 to R175): one result per schedule; with DET the PK.seed of the key stands for the drawn bytes; a signature
whose root differs ends with VERIFY_FAIL after the full schedule. -/
def Obligations.SlhdsaOperations : Prop :=
  ∀ (s : State) (slot : Fin 4096) (j : Job),
    (s.running slot.val 0x0401 = some j →
      ∃ r, Ends (.slhdsaSign slot) s slot.val j (slhSign j.hdr.pset + slhE j.hdr j.pb j.hdr.inLen true) r
        ∧ r.status = 0x00 ∧ r.bumps = [(0x322101, 1)]
        ∧ r.out = primOut .sign [tag 4 j.hdr.pset, j.secret, messageRep j.hdr j.pb [] j.input,
            if j.hdr.has flDet then slice j.secret (2 * slhN j.hdr.pset) (slhN j.hdr.pset) else j.random (slhN j.hdr.pset)]
            (slhSig j.hdr.pset))
    ∧ (s.running slot.val 0x0402 = some j →
      let rest := j.afterKey (publicLen 4 j.hdr.pset)
      let m := rest.drop (slhSig j.hdr.pset)
      ∃ r, Ends (.slhdsaVerify slot) s slot.val j (slhVerify j.hdr.pset + slhE j.hdr j.pb m.length false) r
        ∧ Bare r (if Config.primB .verify [tag 4 j.hdr.pset, j.peerKey (publicLen 4 j.hdr.pset), messageRep j.hdr j.pb [] m,
            rest.take (slhSig j.hdr.pset)] then 0x00 else 0x30))

/-- Stateful signing (R182, R187): a job with its one-time index signs with it and INFO reports it; a class-0x5 signature keeps the
randomisers of its upper levels with the cached signatures, and a class-0x6 one changes nothing but the job. A job that is owed
its index alone takes the value of NEXT, and NEXT advances by one, so that no index is taken twice. Stateful verification (R183,
R185): a host key whose head does not name the parameter set ends with INPUT_RANGE after 4 beats; otherwise OK or VERIFY_FAIL
after the schedule of its tree. A wrong length, Nspk, embedded typecode or index is VERIFY_FAIL. HSS_RESERVE and XMSS_RESERVE
(R188): with a reservation outstanding INFO is CEIL_C; with the range used up, or a VERSION that cannot advance, HBS_EXHAUSTED;
otherwise CEIL advances by one block, held at RANGE_HI, and INFO is the old CEIL. With no room in the copy area the job waits for
it (R309). -/
def Obligations.StatefulSignatures : Prop :=
  (∀ (s : State) (slot : Fin 4096) (j : Job) (cls : Nat) (c' : Instr),
    (s.running slot.val 0x0501 = some j ∧ cls = 5 ∧ c' = .hssSign slot
      ∨ s.running slot.val 0x0601 = some j ∧ cls = 6 ∧ c' = .xmssSign slot) →
    (∀ (k : Key) (v : Nat), AllAssigned s → j.key = some k → j.counter = some v →
      let len := hbsSign k.tree + hbsE cls j.hdr.pset j.hdr.inLen
      let cs := hssRandom j.hdr.pset k.levels (((j.keyIndex.bind s.counter?).map (·.upper)).getD []) v j.rand
      ∃ r, r.status = 0x00 ∧ r.info = v
        ∧ r.out = (if cls = 5 then hssSignature j.hdr.pset k.levels j.secret v cs j.input else xmssSignature j.hdr.pset j.secret v j.input)
        ∧ (cls = 6 → Ends c' s slot.val j len r)
        ∧ (∃ t, exec c' s = .next t ∧ t.job? slot.val = some (j.ended len r) ∧ (∀ n, n ≠ slot.val → t.job? n = s.job? n)
          ∧ t.vault.keys = s.vault.keys
          ∧ ∀ i c, cls = 5 → j.keyIndex = some i → s.counter? i = some c →
              t.counter? i = some { c with upper := hssCached j.hdr.pset k.levels v cs }))
    ∧ (∀ (i : Nat) (c : CounterState), OwedAlone s slot.val j i c →
      ∃ t k r, exec c' s = .next t ∧ t.job? slot.val = some k ∧ k.result = some r ∧ r.status = 0x00 ∧ r.info = c.next
        ∧ k.counter = some c.next ∧ k.wants = false ∧ (t.counter? i).map (·.next) = some (c.next + 1)
        ∧ ∀ n, n ≠ slot.val → t.job? n = s.job? n))
  ∧ (∀ (s : State) (slot : Fin 4096) (j : Job),
    (s.running slot.val 0x0502 = some j →
      let pk := j.peerKey (publicLen 5 j.hdr.pset)
      let levels := match j.key with | some k => k.levels | none => hssLevels pk
      let rest := j.afterKey (publicLen 5 j.hdr.pset)
      let n := field j.pb.body 0 4
      if j.hdr.keyHandle = 0 ∧ hssPkOk j.hdr.pset pk = false then ∃ r, Ends (.hssVerify slot) s slot.val j 4 r ∧ Bare r 0x33
      else ∃ r, Ends (.hssVerify slot) s slot.val j
          (hbsVerify (treeLevels 5 j.hdr.pset levels) + hbsE 5 j.hdr.pset (rest.drop n).length) r
        ∧ Bare r (if hssSigOk (lmsN j.hdr.pset) levels (rest.take n) = true
            ∧ Config.primB .verify [tag 5 j.hdr.pset, pk, rest.drop n, rest.take n] = true then 0x00 else 0x30))
    ∧ (s.running slot.val 0x0602 = some j →
      let pk := j.peerKey (publicLen 6 j.hdr.pset)
      let rest := j.afterKey (publicLen 6 j.hdr.pset)
      let n := xmssSigLen j.hdr.pset
      if j.hdr.keyHandle = 0 ∧ beNat (slice pk 0 4) ≠ j.hdr.pset % 128 then
        ∃ r, Ends (.xmssVerify slot) s slot.val j 4 r ∧ Bare r 0x33
      else ∃ r, Ends (.xmssVerify slot) s slot.val j
          (hbsVerify (treeLevels 6 j.hdr.pset []) + hbsE 6 j.hdr.pset (rest.drop n).length) r
        ∧ Bare r (if beNat (rest.take (xmssIdx j.hdr.pset)) < 2 ^ ((xmssLayers j.hdr.pset).1 * (xmssLayers j.hdr.pset).2)
            ∧ Config.primB .verify [tag 6 j.hdr.pset, pk, rest.drop n, rest.take n] = true then 0x00 else 0x30)))
  ∧ (∀ (s : State) (slot : Fin 4096) (j : Job) (i : Nat) (k : Key) (c : CounterState) (c' : Instr), j.keyIndex = some i →
    s.key? i = some k → s.counter? i = some c → (k.cls = 5 ∨ k.cls = 6) →
    (s.running slot.val 0x0503 = some j ∧ c' = .hssReserve slot ∨ s.running slot.val 0x0603 = some j ∧ c' = .xmssReserve slot) →
    (c.ceilC < k.ceil → ∃ r, Ends c' s slot.val j 0 r ∧ r.status = 0x01 ∧ r.info = c.ceilC)
    ∧ (k.ceil ≤ c.ceilC → (k.ceil = k.rangeHi ∨ k.version = 0xFFFFFFFF) → ∃ r, Ends c' s slot.val j 0 r ∧ Bare r 0x27)
    ∧ (k.ceil ≤ c.ceilC → k.ceil < k.rangeHi → k.version ≠ 0xFFFFFFFF → s.copyFull k.domain (i / 32) = false →
      ∃ t q r, exec c' s = .next t ∧ t.job? slot.val = some q ∧ q.result = some r ∧ r.status = 0x01 ∧ r.info = k.ceil
        ∧ t.key? i = some { k with version := k.version + 1, durable := false, inRound := false,
                                   body := putAt k.body k.ceilAt (leBytes 8 (min (k.ceil + k.block) k.rangeHi)) })
    ∧ (k.ceil ≤ c.ceilC → k.ceil ≠ k.rangeHi → k.version ≠ 0xFFFFFFFF → s.copyFull k.domain (i / 32) = true →
      ∃ t, exec c' s = .next t ∧ (t.counter? i).map (·.waits) = some true))

/-- HQC and Classic McEliece (R207, R210, R211, R218): a host key with padding bits set ends with INPUT_RANGE; a
decapsulation is always OK. -/
def Obligations.CodeKems : Prop :=
  ∀ (s : State) (slot : Fin 4096) (j : Job) (cls : Nat) (enc dec : Instr),
    (cls = 7 ∧ enc = .hqcEncaps slot ∧ dec = .hqcDecaps slot ∨ cls = 8 ∧ enc = .cmEncaps slot ∧ dec = .cmDecaps slot) →
    (s.running slot.val (256 * cls + 1) = some j →
      let pk := j.peerKey (publicLen cls j.hdr.pset)
      let m := j.random (codeDraw cls j.hdr.pset)
      ∃ r, Ends enc s slot.val j (codeEncaps cls j.hdr.pset) r
        ∧ (if j.hdr.keyHandle = 0 ∧ paddingOk cls j.hdr.pset pk = false then Bare r 0x33
          else SecretOut j (primOut .kemSecret [tag cls j.hdr.pset, pk, m] (codeK cls))
            (primOut .kemCipher [tag cls j.hdr.pset, pk, m] (codeCt cls j.hdr.pset)) r))
    ∧ (s.running slot.val (256 * cls + 2) = some j →
      ∃ r, Ends dec s slot.val j (codeDecaps cls j.hdr.pset) r
        ∧ SecretOut j (primOut .recover [tag cls j.hdr.pset,
            if cls = 7 then hqcSeeds j.hdr.pset j.secret else j.secret, j.input] (codeK cls)) [] r)

/-- RSA (R230, R232, R233, R242, R243): one status, DECODE_FAIL, for every decoding failure; INPUT_RANGE for a representative of 0 or
of the modulus or more; MODULUS_INVALID before INPUT_RANGE for a host key. Weierstrass curves (R237, R238, R242): POINT_INVALID
before INPUT_RANGE before VERIFY_FAIL; an invalid peer point gives no secret; ECDSA with DET draws nothing. Edwards and Montgomery
curves (R237, R239 to R241): an undecodable A or R is POINT_INVALID, an S of L or more INPUT_RANGE; XDH ends with INPUT_RANGE on
an all-zero output where the check is on. -/
def Obligations.ClassicalOperations : Prop :=
  (∀ (s : State) (slot : Fin 4096) (j : Job),
    let n := publicLen 9 j.hdr.pset
    let pk := j.peerKey n
    let rest := j.afterKey n
    let k := rsaK j.hdr.pset
    (s.running slot.val 0x0901 = some j →
      ∃ r, Ends (.rsaOaepEncrypt slot) s slot.val j (rsaPublic j.hdr.pset) r
        ∧ (∀ st, j.hdr.keyHandle = 0 → rsaPkStatus j.hdr.pset pk = some st → Bare r st)
        ∧ (j.hdr.keyHandle ≠ 0 ∨ rsaPkStatus j.hdr.pset pk = none → r.status = 0x00
            ∧ r.out = primOut .oaepEncode [tag 9 j.hdr.pset, pk, j.pb.body, rest, j.random (phLen j.pb.hash)] k))
    ∧ (s.running slot.val 0x0902 = some j →
      let args := [tag 9 j.hdr.pset, j.secret, j.pb.body, j.input]
      let len := min (Config.primN .oaepDecode args) (k - 2 * phLen j.pb.hash - 2)
      ∃ r, Ends (.rsaOaepDecrypt slot) s slot.val j (rsaPrivate j.hdr.pset) r
        ∧ (rsaRange j.keyPk j.input = true → Bare r 0x33)
        ∧ (rsaRange j.keyPk j.input = false → Config.primB .oaepOk args = false → Bare r 0x38)
        ∧ (rsaRange j.keyPk j.input = false → Config.primB .oaepOk args = true → j.hdr.has flToVault = true →
            len ≠ secretLen j.pb.cls j.pb.newPset → Bare r 0x38)
        ∧ (rsaRange j.keyPk j.input = false → Config.primB .oaepOk args = true →
            (j.hdr.has flToVault = false ∨ len = secretLen j.pb.cls j.pb.newPset) →
            SecretOut j (primOut .oaepDecode args len) [] r))
    ∧ (∀ c, s.running slot.val 0x0903 = some j ∧ c = .rsaPssSign slot ∨ s.running slot.val 0x0905 = some j ∧ c = .rsaV15Sign slot →
      ∃ r, Ends c s slot.val j (rsaPrivate j.hdr.pset + classicE j.hdr j.pb.hash j.hdr.inLen) r ∧ r.status = 0x00
        ∧ r.out = primOut .sign [tag 9 j.hdr.pset ++ [u8 (rsaKind j.hdr / 2), u8 (flag (j.hdr.has flPrehash))], j.secret, j.pb.body,
            j.input, if j.hdr.opcode = 0x0903 then j.random j.pb.saltLen else []] k)
    ∧ (∀ c, s.running slot.val 0x0904 = some j ∧ c = .rsaPssVerify slot
          ∨ s.running slot.val 0x0906 = some j ∧ c = .rsaV15Verify slot →
      ∃ r, Ends c s slot.val j (rsaPublic j.hdr.pset + classicE j.hdr j.pb.hash (rest.length - k)) r
        ∧ (∀ st, j.hdr.keyHandle = 0 → rsaPkStatus j.hdr.pset pk = some st → Bare r st)
        ∧ (j.hdr.keyHandle ≠ 0 ∨ rsaPkStatus j.hdr.pset pk = none →
            Bare r (if rsaRange pk (rest.take k) then 0x33
              else if Config.primB .verify [tag 9 j.hdr.pset ++ [u8 (rsaKind j.hdr / 2), u8 (flag (j.hdr.has flPrehash))], pk, j.pb.body,
                rest.drop k, rest.take k] then 0x00 else 0x30))))
  ∧ (∀ (s : State) (slot : Fin 4096) (j : Job), 1 ≤ j.hdr.pset → j.hdr.pset ≤ 3 →
    (s.running slot.val 0x0A01 = some j →
      ∃ r, Ends (.ecdsaSign slot) s slot.val j (col [100, 230, 700] j.hdr.pset + classicE j.hdr j.pb.hash j.hdr.inLen) r
        ∧ r.status = 0x00
        ∧ r.out = ecdsaSig j.hdr.pset j.secret (j.digest j.input)
            (if j.hdr.has flDet then nonceOf j.hdr.pset j.pb.hash j.secret (j.digest j.input)
             else beNat (j.random (col [40, 56, 74] j.hdr.pset)) % ((curveOf j.hdr.pset).n - 1) + 1))
    ∧ (s.running slot.val 0x0A02 = some j →
      let pk := j.peerKey (publicLen 10 j.hdr.pset)
      let rest := j.afterKey (publicLen 10 j.hdr.pset)
      let k := col [64, 96, 132] j.hdr.pset
      ∃ r, Ends (.ecdsaVerify slot) s slot.val j
          (col [150, 340, 1040] j.hdr.pset + classicE j.hdr j.pb.hash (rest.length - k)) r
        ∧ Bare r (if j.hdr.keyHandle = 0 ∧ pointOk j.hdr.pset pk = false then 0x34
            else if ecdsaRange j.hdr.pset (rest.take k) = false then 0x33
            else if ecdsaVerifies j.hdr.pset pk (j.digest (rest.drop k)) (rest.take k) then 0x00 else 0x30))
    ∧ (s.running slot.val 0x0A03 = some j →
      let peer := if j.hdr.auxHandle = 0 then j.input else j.auxPk
      ∃ r, Ends (.ecdh slot) s slot.val j (col [90, 200, 610] j.hdr.pset) r
        ∧ (j.hdr.auxHandle = 0 → pointOk j.hdr.pset j.input = false → Bare r 0x34)
        ∧ (j.hdr.auxHandle ≠ 0 ∨ pointOk j.hdr.pset j.input = true →
            SecretOut j (ecAgree j.hdr.pset j.secret peer) [] r))
    ∧ (s.running slot.val 0x0A04 = some j →
      ∃ r, Ends (.ecCheckPoint slot) s slot.val j (col [6, 8, 12] j.hdr.pset) r
        ∧ Bare r (if pointOk j.hdr.pset j.input then 0x00 else 0x34)))
  ∧ (∀ (s : State) (slot : Fin 4096) (j : Job),
    (s.running slot.val 0x0B01 = some j →
      ∃ r, Ends (.eddsaSign slot) s slot.val j (nth [80, 250] j.hdr.pset + edE j.hdr j.hdr.inLen true) r ∧ r.status = 0x00
        ∧ r.out = edSign j.hdr.pset (edPh j.hdr) j.secret j.pb.ctxStr j.input)
    ∧ (s.running slot.val 0x0B02 = some j →
      let pk := j.peerKey (publicLen 11 j.hdr.pset)
      let rest := j.afterKey (publicLen 11 j.hdr.pset)
      let n := nth [64, 114] j.hdr.pset
      ∃ r, Ends (.eddsaVerify slot) s slot.val j (nth [120, 360] j.hdr.pset + edE j.hdr (rest.drop n).length false) r
        ∧ Bare r (if edKeyOk j.hdr.pset pk = false ∨ ((edCurve j.hdr.pset).decode (rest.take n)).isNone = true then 0x34
            else if (edCurve j.hdr.pset).order ≤ leNat (slice (rest.take n) (edCurve j.hdr.pset).len (edCurve j.hdr.pset).len) then 0x33
            else if edVerifies j.hdr.pset (edPh j.hdr) pk j.pb.ctxStr (rest.drop n) (rest.take n) then 0x00 else 0x30))
    ∧ (s.running slot.val 0x0B03 = some j →
      let out := xAgree j.hdr.pset j.secret (if j.hdr.auxHandle = 0 then j.input else j.auxPk)
      ∃ r, Ends (.xdh slot) s slot.val j (nth [0, 0, 70, 210] j.hdr.pset) r
        ∧ (if (j.pb.checkZero = true ∨ j.cfg 0x3240 9 = 1) ∧ allZero out = true then Bare r 0x33 else SecretOut j out [] r)))

/-- Composite KEM (R155 to R158, R162): the checks in their order, and the combined secret of both halves. Composite signatures (R159
to R162): the layout of the signature, and a verification that succeeds only when the head and both halves do. -/
def Obligations.CompositeOperations : Prop :=
  (∀ (s : State) (slot : Fin 4096) (j : Job), 1 ≤ j.hdr.pset → j.hdr.pset ≤ 3 →
    (s.running slot.val 0x0F01 = some j →
      let ps := j.hdr.pset
      let ek := (pubHalves j ps).1
      let pkCl := (pubHalves j ps).2
      let eph := clSecret ps ((j.random (32 + clKeyLen ps)).drop 32)
      let ctPq := mlkemCipher (pqHalf ps).2 ek (j.random 32)
      let ctCl := publicOf1 (clHalf ps).1 (clHalf ps).2 eph []
      let ssCl := clAgree ps eph pkCl
      ∃ r, Ends (.hkemEncaps slot) s slot.val j (col [143, 403, 423] ps) r
        ∧ (if j.hdr.keyHandle = 0 ∧ ekOk ek = false then Bare r 0x33
          else if ps = 2 ∧ pointOk 2 pkCl = false then Bare r 0x34
          else if checksZero j = true ∧ allZero ssCl = true then Bare r 0x33
          else SecretOut j (sha3_256 (ascii "Quarus-HKEM-1".toList ++ [u8 ps] ++ mlkemSecret (pqHalf ps).2 ek (j.random 32)
            ++ ssCl ++ ctPq ++ ctCl ++ pkCl)) (ctPq ++ ctCl) r))
    ∧ (s.running slot.val 0x0F02 = some j →
      let ps := j.hdr.pset
      let n := kemCt (pqHalf ps).2
      let ssCl := clAgree ps (halves j).2 (j.input.drop n)
      ∃ r, Ends (.hkemDecaps slot) s slot.val j (col [73, 203, 213] ps) r
        ∧ (if ps = 2 ∧ pointOk 2 (j.input.drop n) = false then Bare r 0x34
          else if checksZero j = true ∧ allZero ssCl = true then Bare r 0x33
          else SecretOut j (sha3_256 (ascii "Quarus-HKEM-1".toList ++ [u8 ps]
            ++ mlkemRecover (pqHalf ps).2 (halves j).1 (j.input.take n) ++ ssCl ++ j.input.take n ++ j.input.drop n
            ++ (pubHalves j ps).2)) [] r)))
  ∧ (∀ (s : State) (slot : Fin 4096) (j : Job),
    let ps := j.hdr.pset
    let lp := (pqHalf ps).2
    (s.running slot.val 0x0F03 = some j →
      let mu := dsaMu (pubHalves j ps).1 (messageRep j.hdr j.pb (ascii "QCSIG1".toList ++ [u8 ps]) j.input)
      let rnd := if j.hdr.has flDet then zeros 32 else j.random 32
      let sigCl := clSign ps (halves j).2 (csigClassical j.hdr j.pb j.input) (if j.hdr.has flDet then none else some (j.rand.drop 32))
      EndsInBlocks (.csigSign slot) s slot.val j 4 (dsaP lp) (dsaV lp) (csigE j.hdr j.pb j.hdr.inLen) (clLen ps false) 2
        (dsaPasses lp (halves j).1 mu rnd)
        (fun a => [1#8, u8 ps] ++ leBytes 2 (dsaSig lp) ++ dsaSignature lp (halves j).1 mu rnd a ++ sigCl))
    ∧ (s.running slot.val 0x0F04 = some j →
      let pk := (pubHalves j ps).1
      let pkCl := (pubHalves j ps).2
      let rest := j.afterKey (publicLen 15 ps)
      let sig := rest.take (csigLen ps)
      let m := rest.drop (csigLen ps)
      ∃ r, Ends (.csigVerify slot) s slot.val j (pairSched ps true + csigE j.hdr j.pb m.length) r
        ∧ Bare r r.status
        ∧ (r.status = 0x00 →
            byteAt sig 0 = 1 ∧ byteAt sig 1 = ps ∧ field sig 2 2 = dsaSig lp
            ∧ dsaVerifies lp pk (dsaMu pk (messageRep j.hdr j.pb (ascii "QCSIG1".toList ++ [u8 ps]) m)) (slice sig 4 (dsaSig lp)) = true
            ∧ clVerifies ps pkCl (csigClassical j.hdr j.pb m) (sig.drop (4 + dsaSig lp)) = true)
        ∧ (r.status ≠ 0x00 → r.status = 0x30 ∨ r.status = 0x34 ∧ j.hdr.keyHandle = 0)))

/-! ### Symmetric operations, streams and random bits -/

/-- The one-shot symmetric operations (R256, R267, R268): a job of at most 65,536 data bytes, and the last chunk of a longer
one, ends with its result; a chunk before the last leaves the job to be granted again. -/
def Obligations.SymmetricOperations : Prop :=
  ∀ (s : State) (slot : Fin 4096) (j : Job) (op : Nat) (c : Instr), (op, c) ∈ symmetricRows slot →
    s.running slot.val op = some j → AllAssigned s →
    (symData op j.hdr j.pb ≤ 65536 * (j.chunk + 1) → Ends c s slot.val j (symLen op j) (symResult op j))
    ∧ (65536 * (j.chunk + 1) < symData op j.hdr j.pb → op ≠ 0x0C0A → op ≠ 0x0C0B →
        ∃ r, Ends c s slot.val j (symLen op j) r ∧ r.more = true ∧ r.status = 0x00)

/-- Authenticated decryption (R260, R264): plaintext is released only where the recomputed tag is that of the input; otherwise the job
has no output and ends with TAG_FAIL, or with TAG_FAIL_EXPOSED where plaintext of earlier chunks has left. Verification of a GMAC,
CMAC, digest or MAC (R260): OK or COMPARE_MISMATCH, and no output. GCM_ENC and GMAC_GEN with a DEV_IV key (R262, R263): the
invocation is FIXED and the job's counter value, big-endian, which INFO reports; a job that is owed its value alone takes the
key's next one, and the counter advances by one. -/
def Obligations.AeadAndTags : Prop :=
  (∀ (s : State) (slot : Fin 4096) (j : Job) (op : Nat) (c : Instr),
    (op = 0x0C07 ∧ c = .gcmDec slot ∨ op = 0x0C0B ∧ c = .ccmDec slot ∨ op = 0x0E02 ∧ c = .chachapolyDec slot
      ∨ op = 0x0E04 ∧ c = .asconDec slot) →
    s.running slot.val op = some j → AllAssigned s → j.chunk = 0 → symData op j.hdr j.pb ≤ 65536 →
    let n := symData op j.hdr j.pb
    let m := cipherOut op j.secret j.iv j.aad (j.input.take n)
    let t := tagOut op j.secret j.iv j.aad m (j.input.take n) (tagLen j.pb.body)
    ∃ r, Ends c s slot.val j (symLen op j) r
      ∧ (t = j.input.drop n → r.status = 0x00 ∧ r.out = m)
      ∧ (t ≠ j.input.drop n → r.out = [] ∧ r.status = (if j.release = 2 ∧ 0 < j.written then 0x32 else 0x31)
          ∧ r.bumps = [(0x325102, 1)]))
  ∧ (∀ (s : State) (slot : Fin 4096) (j : Job) (op : Nat) (c : Instr) (value : Bytes),
    let n := symData op j.hdr j.pb
    let data := j.input.take n
    (op = 0x0C09 ∧ c = .gmacVerify slot ∧ value = tagOut op j.secret j.iv j.aad data [] (tagLen j.pb.body)
      ∨ op = 0x0C0F ∧ c = .cmacVerify slot ∧ value = tagOut op j.secret j.iv j.aad data [] (tagLen j.pb.body)
      ∨ op = 0x0D03 ∧ c = .verifyDigest slot ∧ value = fnOut j.hdr.pset (strOf j.pb.body) data (tagLen j.pb.body)
      ∨ op = 0x0D06 ∧ c = .verifyMac slot ∧ value = macOut j.hdr.pset j.secret data (strOf j.pb.body) (tagLen j.pb.body)) →
    s.running slot.val op = some j → AllAssigned s → n ≤ 65536 →
    ∃ r, Ends c s slot.val j (symLen op j) r ∧ Bare r (if value = j.input.drop n then 0x00 else 0x37))
  ∧ (∀ (s : State) (slot : Fin 4096) (j : Job) (c' : Instr), symData j.hdr.opcode j.hdr j.pb ≤ 65536 →
    (s.running slot.val 0x0C06 = some j ∧ c' = .gcmEnc slot ∨ s.running slot.val 0x0C08 = some j ∧ c' = .gmacGen slot) →
    (∀ (k : Key) (v : Nat), AllAssigned s → j.key = some k → j.counter = some v → j.chunk = 0 →
      let iv := k.fixed ++ beBytes 8 v
      let m := j.input.take (symData j.hdr.opcode j.hdr j.pb)
      ∃ r, Ends c' s slot.val j (symLen j.hdr.opcode j) r ∧ r.status = 0x00 ∧ r.info = v
        ∧ (c' = .gmacGen slot → r.out = tagOut 0x0C08 k.secret iv j.aad m [] (tagLen j.pb.body))
        ∧ (c' = .gcmEnc slot → r.out = cipherOut 0x0C06 k.secret iv j.aad m
            ++ tagOut 0x0C06 k.secret iv j.aad m (cipherOut 0x0C06 k.secret iv j.aad m) (tagLen j.pb.body)))
    ∧ (∀ (i : Nat) (c : CounterState), OwedAlone s slot.val j i c →
      ∃ t k r, exec c' s = .next t ∧ t.job? slot.val = some k ∧ k.result = some r ∧ r.status = 0x00 ∧ r.info = c.next
        ∧ k.counter = some c.next ∧ (t.counter? i).map (·.next) = some (c.next + 1)))

/-- Key derivation (R261): no input, the derived bytes as output or as a new entry. GET_RANDOM and GET_RANDOM_PR (R368): 1 or 2 beats
and one for each 64 bytes begun, and OUT_LEN bytes of the draw. -/
def Obligations.DerivationAndRandom : Prop :=
  (∀ (s : State) (slot : Fin 4096) (j : Job) (kdf : Nat) (c : Instr),
    (kdf = 1 ∧ c = .kdfCtr slot ∨ kdf = 2 ∧ c = .hkdf slot ∨ kdf = 3 ∧ c = .kdfOnestep slot) →
    s.running slot.val (0x0D06 + kdf) = some j →
    ∃ r, Ends c s slot.val j (kdfSched kdf j.hdr.pset j.secret.length (kdfLen j.hdr j.pb) j.pb.body) r
      ∧ SecretOut j (kdfOut kdf j.hdr.pset j.secret [] j.pb.body (kdfLen j.hdr j.pb)) [] r)
  ∧ (∀ (s : State) (slot : Fin 4096) (j : Job),
    (s.running slot.val 0x1101 = some j → ∃ r, Ends (.getRandom slot) s slot.val j (1 + ceilDiv j.hdr.outLen 64) r
      ∧ r.status = 0x00 ∧ r.out = j.random j.hdr.outLen)
    ∧ (s.running slot.val 0x1102 = some j → ∃ r, Ends (.getRandomPr slot) s slot.val j (2 + ceilDiv j.hdr.outLen 64) r
      ∧ r.status = 0x00 ∧ r.out = j.random j.hdr.outLen))

/-- Streams (R269, R271, R273): INIT begins the computation of its kind; UPDATE carries the running state on; FINAL ends it, and
a decrypting kind writes its last plaintext only if the tag passes; DISCARD drops the state in a schedule of 0 beats. A job whose name
is no longer bound ends with BAD_CONTEXT, and an INIT whose name is not bound while the domain's quota of contexts is used up ends with
QUOTA, each as the model has it (log 23). -/
def Obligations.StreamOperations : Prop :=
  ∀ (s : State) (slot : Fin 4096) (j : Job), AllAssigned s →
    (s.running slot.val 0x1201 = some j →
      let c := { initStream j.hdr j.pb j.aad with active := true, counter := j.counter }
      ∃ r, Ends (.streamInit slot) s slot.val j (initLen c c.pset j.aad.length) r ∧ r.out = []
        ∧ ((s.stream? j.domain j.hdr.streamId).isSome = true ∨ s.streamsOf j.domain < s.cfg (0x2000 + j.domain) 0x10 →
            r.status = 0x00 ∧ r.stream = some c)
        ∧ (s.stream? j.domain j.hdr.streamId = none → s.cfg (0x2000 + j.domain) 0x10 ≤ s.streamsOf j.domain → Bare r 0x29))
    ∧ (∀ x, s.running slot.val 0x1202 = some j → s.stream? j.domain j.hdr.streamId = some x → j.hdr.inLen ≤ 65536 * (j.chunk + 1) →
      let c := x.restart j.counter
      ∃ r, Ends (.streamUpdate slot) s slot.val j (c.len j false) r ∧ r.status = 0x00 ∧ r.more = false
        ∧ r.info = (c.data ++ j.input.take j.hdr.inLen).length
        ∧ (r.stream.map (·.data)) = some (c.data ++ j.input.take j.hdr.inLen))
    ∧ (∀ x, s.running slot.val 0x1203 = some j → s.stream? j.domain j.hdr.streamId = some x →
        (x.restart j.counter).dataOf true j.hdr.inLen ≤ 65536 * (j.chunk + 1) → isAeadDec x.kind = true → x.written = 0 →
      let c := x.restart j.counter
      let n := c.dataOf true j.hdr.inLen
      let data := c.data ++ j.input.take n
      ∃ r, Ends (.streamFinal slot) s slot.val j (c.len j true) r ∧ r.stream = some c.discarded
        ∧ (c.close j data = j.input.drop n → r.status = 0x00 ∧ r.out = c.yield j data c.data.length)
        ∧ (c.close j data ≠ j.input.drop n → r.out = [] ∧ r.status = 0x31))
    ∧ (s.running slot.val 0x1204 = some j →
      ∃ r, Ends (.streamDiscard slot) s slot.val j 0 r ∧ r.out = []
        ∧ r.stream = (s.stream? j.domain j.hdr.streamId).map Stream.discarded
        ∧ r.status = (if (s.stream? j.domain j.hdr.streamId).isSome then 0x00 else 0x17))
    ∧ (∀ c, s.running slot.val 0x1202 = some j ∧ c = .streamUpdate slot ∨ s.running slot.val 0x1203 = some j ∧ c = .streamFinal slot →
        s.stream? j.domain j.hdr.streamId = none → ∃ r, Ends c s slot.val j 0 r ∧ Bare r 0x17)

/-! ### Operations of the vault -/

/-- GENERATE of a class that takes one schedule (R22, R40, R299): a check that fails gives no entry and names its source; otherwise
the new entry holds the drawn secret (for class 0xA the reduced scalar), and the public key goes out where OUT_PUBLIC is set.
GENERATE of classes 0x8 and 0x9 (R214, R234): an attempt or chunk that passes goes on to another chunk, and the last one, which
verifies its own key, releases the entry; a failed self-verification, or too many attempts, gives no entry and names its source.
GENERATE of a stateful class (R179, R181, R186): while tasks of the tree remain it runs on; with none left the entry holds the
seed, CEIL at the first block, and the range of the whole tree, or none for a HERD_REPLICATE key. -/
def Obligations.KeyGeneration : Prop :=
  (∀ (s : State) (slot : Fin 4096) (j : Job), s.running slot.val 0x1001 = some j → j.pb.cls ≠ 5 → j.pb.cls ≠ 6 → j.pb.cls ≠ 8 →
    j.pb.cls ≠ 9 →
    ∃ r, Ends (.generate slot) s slot.val j (genSched j.pb.cls j.hdr.pset) r
      ∧ (∀ src, genCheck j.pb.cls j.hdr.pset (drawnSecret j) = some src →
          r.fault = some src ∧ r.out = [] ∧ r.entryClass = 0)
      ∧ (genCheck j.pb.cls j.hdr.pset (drawnSecret j) = none →
          r.fault = none ∧ r.status = 0x01 ∧ r.entryClass = j.pb.cls ∧ r.entryPset = j.pb.newPset
          ∧ r.entryBody = secretBody j.pb.cls j.hdr.pset (drawnSecret j)
          ∧ r.out = if j.pb.outPublic = true then (j.newKey (drawnSecret j) []).pk else []))
  ∧ (∀ (s : State) (slot : Fin 4096) (j : Job), s.running slot.val 0x1001 = some j →
    (j.pb.cls = 8 → ∃ t k r, exec (.generate slot) s = .next t ∧ t.job? slot.val = some k ∧ k.result = some r
      ∧ (j.scratch = [] → k.schedLen = expSched 8 j.hdr.pset
          ∧ (Config.primB .checkOk [tag 8 j.hdr.pset, j.random 32] = true →
              r.more = true ∧ k.scratch = (j.random 32).map (·.toNat))
          ∧ (Config.primB .checkOk [tag 8 j.hdr.pset, j.random 32] = false →
              r.more = decide (j.chunk + 1 < j.cfg 0x3230 4) ∧ (r.more = false → r.fault = some 0x70 ∧ r.entryClass = 0)))
      ∧ (j.scratch ≠ [] → k.schedLen = cmFinish j.hdr.pset ∧ r.more = false
          ∧ (if Config.primB .selfVerify [tag 8 j.hdr.pset, j.scratch.map u8] then
              r.fault = none ∧ r.status = 0x01 ∧ r.entryClass = 8 ∧ r.entryBody = secretBody 8 j.hdr.pset (j.scratch.map u8)
            else r.fault = some 0x71 ∧ r.entryClass = 0)))
    ∧ (j.pb.cls = 9 → ∃ t k r, exec (.generate slot) s = .next t ∧ t.job? slot.val = some k ∧ k.result = some r
      ∧ k.schedLen = rsaChunk j.hdr.pset (j.scratch.getD 0 0)
      ∧ (j.scratch.getD 0 0 = 0 → rsaSieve (rsaCandidate j.hdr.pset j.rand) = true →
          r.more = true ∧ k.scratch = [1, j.scratch.getD 1 0 + 1, rsaCandidate j.hdr.pset j.rand, j.scratch.getD 3 0])
      ∧ (2 ≤ j.scratch.getD 0 0 →
          let str := rsaString j.hdr.pset (j.scratch.getD 3 0) (j.scratch.getD 2 0) (rsaExponent j.hdr.pset j.seq)
          r.more = false ∧ (if Config.primB .selfVerify [tag 9 j.hdr.pset, str] then
              r.fault = none ∧ r.status = 0x01 ∧ r.entryClass = 9 ∧ r.entryBody = secretBody 9 j.hdr.pset str
            else r.fault = some 0x74 ∧ r.entryClass = 0))))
  ∧ (∀ (s : State) (slot : Fin 4096) (j : Job), s.running slot.val 0x1001 = some j → (j.pb.cls = 5 ∨ j.pb.cls = 6) →
    (¬(j.tasks = [] ∧ j.suspended = [] ∧ j.slices = []) → NoEffect (.generate slot) s)
    ∧ (j.tasks = [] → j.suspended = [] → j.slices = [] →
      let levels := if j.pb.cls = 5 then bodyLevels j.pb.body else []
      let block := if field j.pb.body 4 4 = 0 then j.cfg 0x3220 7 else field j.pb.body 4 4
      let hi := if bit j.pb.attributes aHerd then 0 else 2 ^ totalHeight (treeLevels j.pb.cls j.pb.newPset levels)
      ∃ r, Ends (.generate slot) s slot.val j (s.beat - j.granted - 2) r ∧ r.status = 0x01 ∧ r.entryClass = j.pb.cls
        ∧ r.entryLevels = levels
        ∧ r.entryBody = j.random 32 ++ leBytes 8 (min block hi) ++ leBytes 8 0 ++ leBytes 8 hi ++ zeros 20 ++ leBytes 4 block))

/-- DESTROY, DERIVE, EXPORT_WRAPPED and QUERY (R20, R299, R301 to R303). The jobs of a vault round (R310 to R312): EXPORT writes the
next records, 4,160 bytes each, and INFO is their number; PREPARE and COMMIT begin the write of a journal slot, and INFO is the
root sequence number. -/
def Obligations.VaultJobsAndRound : Prop :=
  (∀ (s : State) (slot : Fin 4096) (j : Job),
    (s.running slot.val 0x1002 = some j → ∃ r, Ends (.destroy slot) s slot.val j 2 r ∧ Bare r 0x01)
    ∧ (s.running slot.val 0x1003 = some j →
      let kdf := byteAt j.pb.body 0
      let n := secretLen j.pb.cls j.pb.newPset
      let b := j.pb.body.drop 8
      ∃ r, Ends (.derive slot) s slot.val j
          (kdfSched kdf j.hdr.pset (j.secret.length + (if kdf = 3 then j.auxSecret.length else 0)) n b) r
        ∧ r.status = 0x01 ∧ r.out = [] ∧ r.entryClass = j.pb.cls ∧ r.entryPset = j.pb.newPset
        ∧ r.entryBody = secretBody j.pb.cls j.pb.newPset (kdfOut kdf j.hdr.pset j.secret j.auxSecret b n))
    ∧ (∀ k, s.running slot.val 0x1004 = some j → j.key = some k →
      let blob := exportBlob k j.hdr.keyHandle
      let n := ceilDiv (6 * kwSemiblocks blob.length) 8
      let kwp := fun (kek : Bytes) => primOut .kwWrap [kek, [1#8], blob] (8 * ceilDiv blob.length 8 + 8)
      (handleClass j.hdr.auxHandle ≠ 1 →
        ∃ r, Ends (.exportWrapped slot) s slot.val j (2 + n) r ∧ r.status = 0x00 ∧ r.out = kwp j.auxSecret)
      ∧ (handleClass j.hdr.auxHandle = 1 →
        ∃ r, Ends (.exportWrapped slot) s slot.val j (30 + n) r ∧ r.status = 0x00
          ∧ r.out = mlkemCipher 3 j.auxPk (j.random 32) ++ kwp (mlkemSecret 3 j.auxPk (j.random 32))))
    ∧ (∀ i k, s.running slot.val 0x1007 = some j → j.keyIndex = some i → s.key? i = some k → j.key.isSome →
      (k.sealed = [] → ∃ r, Ends (.query slot) s slot.val j 2 r ∧ r.status = 0x00
        ∧ r.out = s.queryBytes j.hdr.keyHandle i k ++ (if bit j.pb.options 8 then k.pk else []))
      ∧ (k.sealed ≠ [] → ∃ t r b, exec (.query slot) s = .next t ∧ t.job? slot.val = some (j.ended 2 r) ∧ r.status = 0x00
        ∧ r.out = s.queryBytes j.hdr.keyHandle i { k with body := b, sealed := [] }
            ++ (if bit j.pb.options 8 then ({ k with body := b, sealed := [] } : Key).pk else [])
        ∧ t.vault = s.vault ∧ ∀ n, n ≠ slot.val → t.job? n = s.job? n)))
  ∧ (∀ (s : State) (slot : Fin 4096) (j : Job),
    (s.running slot.val 0x1301 = some j → s.vault.roundOpen = true → bit j.pb.options 8 = false →
      let n := min (min (j.hdr.outLen / 4160) (s.cfg 0x4001 3)) s.exportLeft
      ∃ r, Ends (.vaultExport slot) s slot.val j (4 + 8 * n) r ∧ r.status = 0x00 ∧ r.info = n
        ∧ r.out = (((roundRecords s.vault.frozen).drop s.vault.exported).take n).flatMap s.exportRecord)
    ∧ (s.running slot.val 0x1302 = some j → s.vault.writing = none → s.mode.pwrFail = false →
      ∃ t k r w, exec (.vaultPrepare slot) s = .next t ∧ t.job? slot.val = some k ∧ k.result = some r ∧ k.schedLen = 40
        ∧ r.status = 0x00 ∧ r.info = s.vault.nextSeq ∧ t.vault.writing = some w ∧ w.content.committed = false
        ∧ w.content.rootSeq = s.vault.nextSeq ∧ w.content.nextSeq = s.vault.nextSeq + 1)
    ∧ (∀ q m, s.running slot.val 0x1303 = some j → s.vault.writing = none → s.mode.pwrFail = false → s.vault.pending = some (q, m) →
      ∃ t k r w, exec (.vaultCommit slot) s = .next t ∧ t.job? slot.val = some k ∧ k.result = some r ∧ k.schedLen = 40
        ∧ r.status = 0x00 ∧ t.vault.writing = some w ∧ w.content.committed = true ∧ r.info = w.content.rootSeq
        ∧ w.content.rootSeq = (if bit j.pb.options 8 then s.vault.rootSeq else q)))

/-- IMPORT_ENVELOPE (R338, R339): the first step that fails gives ENVELOPE_INVALID and no entry; with every step passed the new entry
is of the envelope's class and set. ATTEST (R350): the schedule of a composite signature with PSET 0x14 behind 4 beats, in attempt
blocks; the output is the statement and its signature, with the 88 bytes drawn in staging, and the job of a key that has gone ends
with HANDLE_STALE. -/
def Obligations.EnvelopeAndAttestation : Prop :=
  (∀ (s : State) (slot : Fin 4096) (j : Job), s.running slot.val 0x1005 = some j →
    (∀ n, s.envSteps j = .inl n →
      ∃ t k r, exec (.importEnvelope slot) s = .next t ∧ t.job? slot.val = some k ∧ k.result = some r
        ∧ k.schedLen = envelopeLen j.hdr j.input ∧ k.scratch.head? = some n ∧ Bare r 0x54)
    ∧ (∀ secret, s.envSteps j = .inr secret →
      ∃ t k, exec (.importEnvelope slot) s = .next t ∧ t.job? slot.val = some k ∧ k.result = some (envResult j secret)
        ∧ k.schedLen = envelopeLen j.hdr j.input))
  ∧ (∀ (s : State) (slot : Fin 4096) (j : Job), s.running slot.val 0x1006 = some j →
    (∀ k i, j.key = some k → j.keyIndex = some i →
      let m := fun (n : Nat) => s.statementIn j k i (n / 4 + 1)
      EndsInBlocks (.attest slot) s slot.val j 4 140 28 4 230 2
        (fun n => pairPasses (s.attestKeys j) (attestPk j) (ascii "QATT1".toList) (m n) (j.random 88) n)
        (fun n => m n ++ tlv 0xFF (pairSignature (s.attestKeys j) (attestPk j) (ascii "QATT1".toList) (m n) (j.random 88) n)))
    ∧ (j.key = none → ∃ r, Ends (.attest slot) s slot.val j 0 r ∧ Bare r 0x21))

/-! ### Rings, interrupts, bus errors and queue controls (03) -/

/-- Header fetch of a running queue whose function may read (R61 to R66, R31): what wakes fetch reads below FETCH_LOW and waits above
it; a doorbell that arrives while fetch is not idle is kept; a read gives the intake its owned headers in order and moves SQ_HEAD
behind them; a parameter block joins its header. Bus errors (R78, R79, R80, R83, R479): a failed read is retried 16 beats later up
to DMA_RETRY times and then halts its queue with HALT_CAUSE 1 and the address, and a retry that the function may not issue has its
queue halt with the beat; a completion timeout, once its time since the issue of the read has passed, counts and fails the read
alike; a refused posted write that is due halts its queue with HALT_CAUSE 2, where the released output lay or the first zeros over
exposed plaintext were to lie, a refused completion with 3, and its job is gone; under RESET and a disable a completion is
discarded; a violation bucket loses one unit, and the part of a period that is over stays with it. -/
def Obligations.FetchAndBusErrors : Prop :=
  (∀ (s : State) (q : Fin 1024), (s.queue q.val).state = .running → s.fetches = true → s.canSend (s.qcfg q.val 1) = true →
    let x := s.queue q.val
    let low := s.qcfg q.val 0xB
    let go := (s.setQueue q.val { x with fetch := .active, reading := true, doorbell := false }).issue (.header q)
    let wake := if x.intake.length < low then go else s.setQueue q.val { x with fetch := .paused, doorbell := false }
    (x.fetch = .idle → s.qcfg q.val 0x12 ≠ 0 → x.lastFetch + s.qcfg q.val 0x12 ≤ s.beat → exec (.idleRescan q) s = .next wake)
    ∧ (x.fetch = .paused → x.intake.length < low → exec (.fetchResume q) s = .next go)
    ∧ (∀ (fn k : Fin 256) (v : BitVec 64), s.reachable fn.val = true → s.queueOf fn.val k.val = some q.val → v.toNat < 65536 →
        exec (.doorbellWrite fn k v) s = .next (if x.fetch = .idle then wake else s.setQueue q.val { x with doorbell := true }))
    ∧ (∀ data, x.reading = true → x.intake.any (fun e => e.index == x.sqHead && e.reread) = false →
        let got := ownedPrefix ((splitHeaders 64 data).take
          (min (min (s.ringSize q.val - x.sqHead) (s.qcfg q.val 0xC - x.intake.length)) (s.readEntries q.val)))
        ∃ t, exec (.headerReadReturn q x.sqHead data) s = .next t
          ∧ (t.queue q.val).intake = x.intake ++ intakeOf (s.ringSize q.val) x.sqHead got
          ∧ (t.queue q.val).sqHead = (x.sqHead + got.length) % s.ringSize q.val
          ∧ ∀ m, m ≠ q.val → t.queue m = s.queue m)
    ∧ (∀ (i : Nat) (data : Bytes), ∃ t, exec (.parameterBlockReturn q i data) s = .next t
        ∧ (t.queue q.val).intake = x.intake.map (fun e =>
            if e.index = i && e.hdr.ctxLen ≠ 0 && e.block.isNone then { e with block := some (data.take (min 1024 e.hdr.ctxLen)) } else e)
        ∧ ∀ m, m ≠ q.val → t.queue m = s.queue m))
  ∧ ((∀ (s : State) (r : DmaRead) (addr : BitVec 64) (n : Nat), s.readQueue r = some n → s.outstanding r = true →
    let old := s.rings.retries.find? (fun x => x.read == r)
    let fails := (old.map (·.fails)).getD 0 + 1
    (old.map (·.waiting)).getD false = false →
    (fails ≤ s.qcfg n 0x11 → s.canSend (s.qcfg n 1) = true →
      let l := s.rings.retries.filter (fun x => x.read != r) ++ [{ read := r, fails := fails, failed := s.beat, addr := addr.toNat, waiting := true }]
      let i := s.rings.issued.filter (fun x => x.1 != r)
      exec (.dmaReadFailure r addr) s = .next { s with rings := { s.rings with retries := l, issued := i } }
      ∧ ∀ b, s.issuedAt r = some b → if b + s.readTimeout n ≤ s.beat then exec (.completionTimeoutExpiry r addr) s =
          .next { s with link := { s.link with timeouts := bump 32 s.link.timeouts 1 }, rings := { s.rings with retries := l, issued := i } }
        else NoEffect (.completionTimeoutExpiry r addr) s)
    ∧ (s.qcfg n 0x11 < fails → ((s.queue n).state = .running ∨ (s.queue n).state = .stopped) →
        ∃ t, exec (.dmaReadFailure r addr) s = .next t ∧ (t.queue n).state = .halted
        ∧ (t.queue n).haltCause = 1 ∧ (t.queue n).haltAddr = addr.toNat ∧ (t.queue n).reading = false))
  ∧ (∀ (s : State) (r : DmaRead) (n : Nat) (x : Retry), s.readQueue r = some n →
      s.rings.retries.find? (fun y => y.read == r) = some x → x.waiting = true → x.failed + 16 ≤ s.beat →
      (s.queue n).state ≠ .halted → s.canSend (s.qcfg n 1) = true → ∃ t, exec (.dmaRetry r) s = .next t ∧ t.issuedAt r = some s.beat
        ∧ (t.queue n).retryCount = bump 32 (s.queue n).retryCount 1
        ∧ t.rings.retries = s.rings.retries.map (fun y => if y.read = r then { y with waiting := false } else y))
  ∧ (∀ (s : State) (r : DmaRead) (n : Nat) (x : Retry), s.readQueue r = some n →
      s.rings.retries.find? (fun y => y.read == r) = some x → x.waiting = true → x.failed + 16 ≤ s.beat →
      (s.queue n).state ≠ .halted → s.canSend (s.qcfg n 1) = false → exec (.dmaRetry r) s = .next (s.owe n 1 x.addr))
  ∧ (∀ (s : State) (slot : Fin 4096) (j : Job), s.job? slot.val = some j → s.canSend j.domain = false →
      (s.ready j = true → ∃ t, exec (.postedWriteRefused (.completion slot)) s = .next t ∧ t.job? slot.val = none)
      ∧ (((s.queue j.queue).state = .running ∨ (s.queue j.queue).state = .stopped) →
        (s.ready j = true → (s.queue j.queue).silent = false → (s.queue j.queue).reset = false → (s.queue j.queue).disabling = false →
          s.sec.lcOrder ≠ some slot.val →
          ∃ t, exec (.postedWriteRefused (.completion slot)) s = .next t
            ∧ (t.queue j.queue).state = .halted ∧ (t.queue j.queue).haltCause = 3
            ∧ (t.queue j.queue).lost = (s.queue j.queue).lost + 1)
        ∧ (j.admitBeat = s.beat → ∃ t, exec (.postedWriteRefused (.ownClear slot)) s = .next t
          ∧ (t.queue j.queue).state = .halted ∧ (t.queue j.queue).haltCause = 2
          ∧ (t.queue j.queue).haltAddr = s.qcfg j.queue 4 + 64 * j.ringIndex + 5)
        ∧ (7 ≤ j.phase → j.written ≠ 0 → s.beat ≤ j.endBeat + 2 → ∃ t, exec (.postedWriteRefused (.output slot)) s = .next t
          ∧ (t.queue j.queue).state = .halted ∧ (t.queue j.queue).haltCause = 2
          ∧ (t.queue j.queue).haltAddr = (if (j.status.map success).getD false then spanAddr j.outWalk.spans j.outFrom
              else ((zeroPieces j.outWalk.spans j.written).head?.map (·.1)).getD j.hdr.outAddr))))
  ∧ (∀ (s : State) (d : Fin 256) (level since rest : Nat), tget s.rings.buckets d.val = some (level, since, rest) →
      7812500 ≤ (s.beat - since) * s.violationRate d.val + rest →
      exec (.violationBucketLeak d) s = .next { s with rings := { s.rings with
        buckets := if level ≤ 1 then tdel s.rings.buckets d.val
                   else tput s.rings.buckets d.val (level - 1, s.beat, (s.beat - since) * s.violationRate d.val + rest - 7812500) } }))

/-- Interrupts (R73): INT_DELAY after the first completion counted the message of the queue's vector goes, or stays pending while the
vector is masked; unmasking a vector sends its pending message. Queue controls (R50, R77, R78): an abort and a reset stop the
queue, drop its unadmitted headers and end its live jobs with ABORTED; a restart of a stopped queue fetches; once the jobs are
gone the bit clears, with QUEUE_DONE as a cause, and a reset then runs from indices 0; the bit of a restart clears once fetch
runs; an enable whose checks pass runs the queue, a disable stops it as an abort does. -/
def Obligations.InterruptsAndControls : Prop :=
  ((∀ (s : State) (q : Fin 1024), (s.queue q.val).intrCount ≠ 0 →
    (s.queue q.val).intrFirst + s.qcfg q.val 0xA ≤ s.beat →
    let f := s.qcfg q.val 1
    let v := s.qcfg q.val 8
    ∃ t, exec (.intDelayExpiry q) s = .next t ∧ (t.queue q.val).intrCount = 0
      ∧ (bit (s.func f).vecMask v = false → t.rings.sent = s.rings.sent ++ [.message f v])
      ∧ (bit (s.func f).vecMask v = true → bit (t.func f).vecPending v = true ∧ t.rings.sent = s.rings.sent))
  ∧ (∀ (s : State) (fn : Fin 256) (vec : Fin 8), ∃ t, exec (.msixUnmask fn vec) s = .next t
      ∧ bit (t.func fn.val).vecMask vec.val = false ∧ bit (t.func fn.val).vecPending vec.val = false
      ∧ (∀ k, k ≠ vec.val → bit (t.func fn.val).vecMask k = bit (s.func fn.val).vecMask k)
      ∧ t.rings.sent = s.rings.sent ++ (if bit (s.func fn.val).vecPending vec.val then [.message fn.val vec.val] else [])))
  ∧ (∀ (s : State) (q : Fin 1024), let x := s.queue q.val
    (∀ fn k : Fin 256, s.reachable fn.val = true → s.queueOf fn.val k.val = some q.val → s.mode.mode ≠ mIdle →
      (∀ (c : Instr) (re : Bool), (c = .queueAbort fn k ∧ re = false ∧ (x.state = .running ∨ x.state = .stopped)
            ∨ c = .queueReset fn k ∧ re = true ∧ x.state ≠ .disabled) →
          ∃ t, exec c s = .next t ∧ (t.queue q.val).state = .stopped ∧ (t.queue q.val).intake = [] ∧ (t.queue q.val).reading = false
            ∧ (t.queue q.val).sqHead = (x.intake.head?.map (·.index)).getD x.sqHead
            ∧ (if re then (t.queue q.val).reset = true else (t.queue q.val).abort = true)
            ∧ ∀ (n : Nat) (j : Job), n < 4096 → s.job? n = some j → j.queue = q.val → j.live = true →
                ∃ k, t.job? n = some k ∧ k.status = some 0x41)
      ∧ (x.state = .stopped → x.reset = false → s.canSend (s.qcfg q.val 1) = true →
          exec (.queueRestart fn k) s = .next ((s.setQueue q.val { x with state := .running, restart := true, fetch := .active,
                                                                          reading := true, doorbell := false }).issue (.header q))))
    ∧ (x.abort = true ∨ x.reset = true ∨ x.disabling = true → s.aborted q.val = 0 → ∃ t, exec (.queueDone q) s = .next t
        ∧ (t.queue q.val).abort = false ∧ (t.queue q.val).reset = false ∧ (t.queue q.val).disabling = false
        ∧ (s.qcfg q.val 1 < 256 → bit (t.func (s.qcfg q.val 1)).status 3 = true)
        ∧ (x.reset = true → x.state = .stopped → s.canSend (s.qcfg q.val 1) = true →
            (t.queue q.val).state = .running ∧ (t.queue q.val).sqHead = 0 ∧ (t.queue q.val).cqTail = 0
              ∧ (t.queue q.val).cqHead = 0 ∧ (t.queue q.val).cqPhase = true))
    ∧ (x.restart = true → x.abort = false → x.reset = false → x.disabling = false → ∃ t, exec (.queueDone q) s = .next t
        ∧ t.queue q.val = { x with restart := false } ∧ (s.qcfg q.val 1 < 256 → bit (t.func (s.qcfg q.val 1)).status 3 = true))
    ∧ (∀ d : Fin 256, s.mayConfigure d.val q.val = true → s.mode.mode ≠ mLockdown →
        (x.state = .disabled → x.disabling = false → s.enableOk q.val = true →
          exec (.qEnable d q true) s = .next ((s.setCfg (0x2400 + q.val) 7 1).setQueue q.val { state := .running, lastFetch := s.beat }))
        ∧ (x.state ≠ .disabled → ∃ t, exec (.qEnable d q false) s = .next t
            ∧ (t.queue q.val).state = .disabled ∧ (t.queue q.val).disabling = true ∧ (t.queue q.val).intake = [])))

/-! ### The phases of a job (01, 02) -/

/-- Admission and fetch (R14, R16, R36, R60, R68): at most four headers a beat; a header that fails its checks is completed at
once with its status, one that passes enters the fetch phase, and either way its OWN bit is cleared in the ring; list entries,
input and windows follow, with the reads that they call for issued, or the queue halting with the beat where its function may issue
none, and the fetch phase ends once all is there. -/
def Obligations.AdmissionAndFetch : Prop :=
  (∀ (s : State) (n slot : Nat) (e : IntakeHeader) (l : List IntakeHeader), s.jobs.admitted < 4 → s.nextQueue = some n →
    s.freeSlot = some slot → (s.queue n).intake = e :: l → s.canSend (s.qcfg n 1) = true → slot < 4096 →
    (∀ st, s.admissionFailure n e.hdr (e.block.getD []) = some st → st ≠ stHdrCheck → st ≠ stTagCollision →
      ∃ t j, exec .admission s = .next t ∧ t.job? slot = some j ∧ j.phase = 9 ∧ j.status = some st ∧ j.endBeat = s.beat
        ∧ j.hdr = e.hdr ∧ j.queue = n ∧ (t.queue n).intake = l ∧ t.jobs.admitted = s.jobs.admitted + 1
        ∧ t.rings.sent = s.rings.sent ++ [.ownClear n e.index (e.hdr.flags / 256 % 128)])
    ∧ (s.admissionFailure n e.hdr (e.block.getD []) = none →
      ∃ t j, exec .admission s = .next t ∧ t.job? slot = some j ∧ j.phase = (if e.hdr.opcode = 0x1504 then 1 else 2)
        ∧ j.hdr = e.hdr ∧ j.queue = n ∧ j.domain = s.qcfg n 1 ∧ j.seq = s.jobs.nextSeq ∧ j.admitBeat = s.beat
        ∧ (t.queue n).intake = l ∧ t.jobs.admitted = s.jobs.admitted + 1 ∧ t.jobs.nextSeq = s.jobs.nextSeq + 1
        ∧ t.rings.sent = s.rings.sent ++ [.ownClear n e.index (e.hdr.flags / 256 % 128)]))
  ∧ (∀ s : State, 4 ≤ s.jobs.admitted → NoEffect .admission s)
  ∧ ∀ (s : State) (slot : Fin 4096) (j : Job), s.job? slot.val = some j → j.phase = 2 →
    (∀ (output : Bool) (entry : Bytes), (if output then j.outWalk else j.inWalk).done = false →
      exec (.sgEntryReturn slot output entry) s = .next (((s.closeRetry (.entry slot output)).setJob slot.val
        (if output then { j with outWalk := j.outWalk.hop true j.domain (parseSg entry) }
         else { j with inWalk := j.inWalk.hop false j.domain (parseSg entry) })).askReads slot.val))
    ∧ (∀ (aad : Bool) (data : Bytes), j.windowKiB ≠ 0 →
      exec (.inputDataReturn slot aad data) s = .next (((s.closeRetry (.data slot aad)).setJob slot.val
        (if aad then { j with aad := (j.aad ++ data).take (aadLen j.hdr j.pb) }
         else if s.reads j = true then { j with input := j.feed (s.readLimit j) data,
                                                reading := decide ((j.feed (s.readLimit j) data).length < s.readLimit j) }
         else j)).askReads slot.val))
    ∧ (∀ want, s.wantedReads slot j = want → (want.filter (fun x => (s.issuedAt x.1).isNone && !s.waitsRetry x.1) = [] → s.askReads slot.val = s)
        ∧ (s.canSend (s.qcfg j.queue 1) = true → ∀ r, (r ∈ want.map (·.1)) → s.waitsRetry r = false →
            (s.askReads slot.val).issuedAt r ≠ none)
        ∧ (s.canSend (s.qcfg j.queue 1) = false → ∀ x l, want.filter (fun x => (s.issuedAt x.1).isNone && !s.waitsRetry x.1) = x :: l →
            s.askReads slot.val = s.owe j.queue 1 x.2))
    ∧ (j.windowKiB = 0 → s.windowsOf (s.wheel.groupOf j.domain) + s.qcfg j.queue 0xE ≤ s.wheel.dataShare (s.wheel.groupOf j.domain) →
      ∃ t k, exec (.stagingSpaceFreed slot) s = .next t ∧ t.job? slot.val = some k ∧ k.windowKiB = s.qcfg j.queue 0xE
        ∧ k.phase = 2 ∧ ∀ m, m ≠ slot.val → t.job? m = s.job? m)
    ∧ (j.windowKiB ≠ 0 → s.stagingWant j = 0 →
      (s.setJob slot.val (s.takeInput j [])).fetched (s.takeInput j []) = true →
      ∃ t k, exec (.fetchEnd slot) s = .next t ∧ t.job? slot.val = some k ∧ k.phase = 3 ∧ k.fetchEnd = s.beat
        ∧ k.input = (s.takeInput j []).input)

/-- Waiting jobs (R17, R39, R48, R49, R86, R274, R367): NOP, FENCE and ECHO begin their staging without a start right, a recovery job
on the Muntjac core; ABORT ends its target with ABORTED and reports the phase that it was in, or 0xFF; START_WAIT and ENTROPY_WAIT
end a job with TIMEOUT, ENTROPY_NOT_READY or ENTROPY_STARVED. Start rights (R19, R90, R91, R104): the live cell of the present
position gives its right to the job that R90 selects, which begins staging on the cell's unit with what it shares reserved, and
counts as the owner's or as borrowed; with no such job the right goes unused, and counts so. -/
def Obligations.WaitingAndStartRights : Prop :=
  (∀ (s : State) (slot : Fin 4096) (j : Job), s.job? slot.val = some j →
    (∀ c op, (c, op) ∈ [(Instr.nop slot, 0x1501), (.fence slot, 0x1502), (.echo slot, 0x1503)] → j.phase = 3 → j.hdr.opcode = op →
      j.eligible = true → s.eligible slot.val j = true → s.serves = true →
      exec c s = .next (s.setJob slot.val { j with phase := 4, granted := s.beat, eligible := false }))
    ∧ (j.cls = 8 → j.phase = 3 → j.eligible = true → s.eligible slot.val j = true → s.serves = true → (s.unit 6 0x80).busy = false →
      s.earlier j (fun k => k.cls == 8 && decide (k.phase ≤ 3)) = false →
      ∃ t k, exec (.muntjacRecoveryJob slot) s = .next t ∧ t.job? slot.val = some k ∧ k.phase = 4 ∧ k.unit = some (6, 0x80)
        ∧ k.granted = s.beat ∧ (t.unit 6 0x80).busy = true ∧ (t.unit 6 0x80).holder = slot.val
        ∧ ∀ m, m ≠ slot.val → t.job? m = s.job? m)
    ∧ (j.phase = 1 → j.hdr.opcode = 0x1504 →
      ∃ t k, exec (.abort slot) s = .next t ∧ t.job? slot.val = some k ∧ k.phase = 9 ∧ k.status = some 0x00
        ∧ k.info = (((s.abortTarget j.hdr).bind s.job?).map (·.phase)).getD 0xFF
        ∧ ∀ m x, s.abortTarget j.hdr = some m → m < 4096 → m ≠ slot.val → s.job? m = some x → x.live = true →
            ∃ y, t.job? m = some y ∧ y.status = some 0x41)
    ∧ (j.phase = 3 → j.chunk = 0 → s.qcfg j.queue 0x13 ≠ 0 → j.fetchEnd + s.qcfg j.queue 0x13 ≤ s.beat →
      ∃ t k, exec (.startWaitTimeout slot) s = .next t ∧ t.job? slot.val = some k ∧ k.status = some 0x48 ∧ k.info = 0)
    ∧ (∀ b, j.phase = 3 → b + msBeats (s.cfg 0x5000 4) ≤ s.beat →
        (s.entropy.state < 2 ∧ j.heldStart = some b ∧ s.heldByEntropy slot.val j = true
          ∨ 2 ≤ s.entropy.state ∧ j.heldFrom = some b ∧ s.heldByInstance j = true
          ∨ 2 ≤ s.entropy.state ∧ j.heldMasks = some b ∧ s.heldByMasks slot.val j = true) →
      ∃ t k, exec (.entropyWaitExpiry slot) s = .next t ∧ t.job? slot.val = some k ∧ k.info = 0
        ∧ k.status = some (if s.entropy.state < 2 then 0x44 else 0x45)
        ∧ t.entropy.starved = (if s.entropy.state < 2 then s.entropy.starved else bump 32 s.entropy.starved 1)))
  ∧ (∀ (s : State) (col : Fin 16), let c := columnClass col.val
    let cell := s.wheel.cell s.position col.val
    s.wheel.running = true → s.serves = true → s.jobs.offered.all (fun x => decide (x < col.val)) = true → cell.valid = true →
    s.wheel.kept s.wheel.tier s.position col.val = true → (s.unit c cell.unit).live s.beat = true → s.unitBusy c cell.unit = false →
    (∀ n j r, s.select cell c = some (n, j) → s.reserved n j c cell.unit = some r →
      ∃ t k, exec (.startRightGrant (col, false)) s = .next t ∧ t.job? n = some k ∧ k.unit = some (c, cell.unit) ∧ k.eligible = false
        ∧ (j.sliced = false → k.phase = 4 ∧ k.granted = s.beat)
        ∧ (j.laneJob = false → (t.unit c cell.unit).busy = true ∧ (t.unit c cell.unit).holder = n)
        ∧ t.jobs.holds = s.jobs.holds ++ r.holds ∧ t.jobs.offered = col.val :: s.jobs.offered
        ∧ t.wheel.grantedCount = (if j.domain = cell.owner then countAdd s.wheel.grantedCount (8 * cell.group + c) 1 64 else s.wheel.grantedCount)
        ∧ t.wheel.borrowedCount = (if j.domain = cell.owner then s.wheel.borrowedCount else countAdd s.wheel.borrowedCount (8 * cell.group + c) 1 64))
    ∧ (s.select cell c = none → exec (.startRightGrant (col, false)) s = .next { s with
        jobs := { s.jobs with offered := col.val :: s.jobs.offered },
        wheel := { s.wheel with unusedCount := countAdd s.wheel.unusedCount (8 * cell.group + c) 1 64 } }))

/-- The end of staging (R20, R40, R42): the first failure in the order of R42 is the status of the job, at the boundary after two
staging beats; a job that passes every check holds copies of its keys and the run reserved for its new entry, and its schedule
begins; where the generator cannot serve its draw, it waits again (the model's choice, log 73). An internal job begins its schedule with
its shares, and an expansion run leaves its material in the cache. -/
def Obligations.StagingEnds : Prop :=
  (∀ (s : State) (slot : Fin 4096) (j : Job), s.job? slot.val = some j → j.phase = 4 → j.granted + 1 ≤ s.beat →
    s.destroyWaits slot.val j = false → j.chunk = 0 →
    let u := (s.lookupHandles j).openHandles j
    (∀ key aux run, j.walkFailure = none → u.stageHandle j (u.spec j) false = .inr key →
      key.bind (fun x => u.limitFailure j (u.spec j) x.1 x.2) = none → u.stageHandle j (u.spec j) true = .inr aux →
      j.noRoom = false → u.outOfTurn j.hdr.opcode = false → u.placeNew j (u.spec j) = .inr run →
      ∃ t k, exec (.stagingEnd slot.val none) s = .next t ∧ t.job? slot.val = some k
        ∧ (j.drawsNext = true → u.canServe j.instanceOf = false → k.phase = 3 ∧ k.unit = none)
        ∧ (j.drawsNext = false ∨ u.canServe j.instanceOf = true → k.phase = 5 ∧ k.key = key.map (·.2)
          ∧ k.aux = aux.map (·.2) ∧ k.keyIndex = key.map (·.1) ∧ k.newIndex = run.map (·.1)))
    ∧ (∀ st info, j.walkFailure = some (st, info) → st ≠ stSgDomain → st ≠ stReservePending →
      ∃ t k, exec (.stagingEnd slot.val none) s = .next t ∧ t.job? slot.val = some k ∧ k.status = some st ∧ k.info = info
        ∧ k.endBeat = j.granted + 2)
    ∧ (∀ st, j.walkFailure = none → u.stageHandle j (u.spec j) false = .inl (st, none) → st ≠ stSgDomain →
      st ≠ stReservePending →
      ∃ t k, exec (.stagingEnd slot.val none) s = .next t ∧ t.job? slot.val = some k ∧ k.status = some st
        ∧ k.endBeat = j.granted + 2))
  ∧ (∀ (s : State) (n : Nat) (j : Job), 4096 ≤ n → s.job? n = some j → j.phase = 4 → j.granted + 1 ≤ s.beat →
      s.destroyWaits n j = false → exec (.stagingEnd n none) s = .next ((s.setJob n { j with phase := 5 }).splitKey n j.masked))
  ∧ (∀ (s : State) (slot : Fin 4096) (e j : Job) (k : Key) (i : Nat), s.job? (4096 + slot.val) = some e → e.key = some k →
      e.keyIndex = some i → e.phase = 5 → e.granted + 2 + e.runLen k ≤ s.beat → expansionFault k = none → s.job? slot.val = some j →
      j.phase = 3 → k.units ≠ 0 → (k.attr aPin || stateful k.cls || s.expRoom k.domain k.units) = true →
      ∃ t q x, exec (.expansionRun (slot, none)) s = .next t ∧ t.job? slot.val = some q ∧ q.expanded = true ∧ q.phase = 3
        ∧ t.expansion? i = some x ∧ x.units = k.units ∧ x.waiting = some slot.val)

/-- Release, chunks, slices, wipe and completion (R20, R23, R43, R71, R181, R267): a released job has its status and its output is in
the host's buffer or its entry; a chunk waits for its next start right with its age, and so does the task of a slice on its lane
group; a unit is free after its wipe; the completion record leaves for the entry at CQ_TAIL and the slot is free. -/
def Obligations.JobEnds : Prop :=
  (∀ (s : State) (slot : Fin 4096) (j : Job) (r : Result), s.job? slot.val = some j → j.result = some r → j.phase = 5 →
    s.scheduleOver slot.val j = true → j.dmaErr = none → (r.out = [] ∨ s.canSend j.domain = true) →
    (r.more = false → r.fault = none → j.hdr.opcode ≠ 0x1401 → j.hdr.opcode ≠ 0x1005 →
      ∃ t k, exec (.release slot none) s = .next t ∧ t.job? slot.val = some k ∧ k.status = some r.status
        ∧ k.phase = (if j.unit.isNone then 9 else 8) ∧ k.endBeat = s.releaseBeat j ∧ k.written = j.written + r.out.length
        ∧ (r.entryClass = 0 → k.info = j.infoOf r (s.releaseBeat j)))
    ∧ (r.more = true → s.serves = true →
      ∃ t k, exec (.chunkRelease slot) s = .next t ∧ t.job? slot.val = some k ∧ k.phase = 3 ∧ k.chunk = j.chunk + 1
        ∧ k.age = s.releaseBeat j ∧ k.result = none ∧ k.written = j.written + r.out.length))
  ∧ (∀ (s : State) (n : Nat) (unit : Fin 12) (j : Job) (x : Nat × Nat × Nat), s.job? n = some j → j.phase = 5 →
      j.slices.find? (fun y => y.1 == unit.val) = some x → x.2.1 + x.2.2 ≤ s.beat → s.serves = true → j.dmaErr = none →
      ∃ t k, exec (.hbsSliceEnd n (unit, none)) s = .next t ∧ t.job? n = some k ∧ k.slices = j.slices.erase x
        ∧ tget k.sliceAges unit.val = some (x.2.1 + x.2.2)
        ∧ k.phase = (if j.slices.erase x = [] ∧ (j.tasks ≠ [] ∨ j.suspended ≠ []) then 3 else 5)
        ∧ k.blocks = min (j.blocks + 1) 0x7FF)
  ∧ (∀ (s : State) (cls : Fin 8) (unit : Fin 16), let w := wipedUnit cls.val unit.val
      (s.unit w.1 w.2).busy = true → (s.unit w.1 w.2).wipeEnd ≠ 0 → (s.unit w.1 w.2).wipeEnd ≤ s.beat →
      (s.jobs.holds.any (fun h => h.kind == hkUnit)) = false →
      ∃ t, exec (.wipeEnd cls unit) s = .next t ∧ (t.unit w.1 w.2).busy = false ∧ (t.unit w.1 w.2).state = (s.unit w.1 w.2).state)
  ∧ (∀ (s : State) (slot : Fin 4096) (j : Job), s.job? slot.val = some j → j.hdr.opcode = 0x1002 → j.phase = 9 →
      s.completionWaits j = false → exec (.destroyCompletion slot) s = .next (s.setJob slot.val { j with waitFor := [] }))
  ∧ (∀ (s : State) (slot : Fin 4096) (j : Job), s.job? slot.val = some j → s.ready j = true →
      s.jobs.slots.any (fun x => x.2.queue == j.queue && s.ready x.2 && older (s.ageOf x.2) (s.ageOf j)) = false →
      (s.queue j.queue).silent = false → s.canSend j.domain = true → s.sec.lcOrder ≠ some slot.val →
      let q := s.queue j.queue
      let next := (q.cqTail + 1) % s.ringSize j.queue
      ∃ t rest, exec (.completionWrite slot) s = .next t ∧ t.job? slot.val = none
        ∧ t.rings.sent = s.rings.sent ++ .completion j.queue q.cqTail (j.record q.cqPhase) :: rest
        ∧ (t.queue j.queue).cqTail = next ∧ (t.queue j.queue).cqPhase = (if next = 0 then !q.cqPhase else q.cqPhase)
        ∧ (t.queue j.queue).unread = q.unread + 1)

/-! ### Orders and sweeps (12) -/

/-- Orders (R329, R330, R332): at the last beat of its schedule an order that fails a check ends with that check's status and
leaves its domain's counter; one that passes steps 1 to 6 and whose action fails ends with INPUT_RANGE; otherwise the action acts
and the order ends with its status, its domain's counter advanced and reported. -/
def Obligations.OrderRows : Prop :=
  ∀ (s : State) (slot : Fin 4096) (j : Job) (a : Nat) (c : Instr) (act : Action), (a, c, act) ∈ orderRows slot →
    s.job? slot.val = some j → j.phase = 5 → j.dmaErr = none → j.hdr.opcode = 0x1401 → j.hdr.pset = a → j.granted + 2 + j.orderLen ≤ s.beat →
    (∀ st info, s.orderFailure j = some (st, info) → ∃ t k, exec c s = .next t ∧ t.job? slot.val = some k ∧ k.status = some st
      ∧ k.info = info ∧ (t.dom j.domain).orderCounter = (s.dom j.domain).orderCounter)
    ∧ (s.orderFailure j = none → act s slot.val j (orderPayload j.input) = none →
      ∃ t k, exec c s = .next t ∧ t.job? slot.val = some k ∧ k.status = some 0x33 ∧ k.info = 0
        ∧ (t.dom j.domain).orderCounter = (s.dom j.domain).orderCounter)
    ∧ (∀ st u, s.orderFailure j = none → act s slot.val j (orderPayload j.input) = some (st, u) →
      exec c s = .next ((u.countOrder j.domain (orderDigest j.input)).closeOrder slot.val st ((s.dom j.domain).orderCounter + 1)))

/-- What the actions of orders do (R100, R333, R334, R346, R390, R428, R470): OWNERSHIP installs the roster and the life cycle
becomes OWNED; ROSTER_SET installs it; DOMAIN_CREATE makes the domain active; DOMAIN_RETIRE and EPOCH_ADVANCE advance the epoch
and sweep; WHEEL_LOAD asks for the swap; FUSE_DISABLE ends the monitoring of its sources; PATCH_MIN raises PATCH_MIN_VERSION;
CALENDAR_SET makes the calendar valid with its time; ENTROPY_STUDY notes what to capture, and the device passes to Quiesce. -/
def Obligations.OrderActions : Prop :=
  (∀ (s : State) (n : Nat) (j : Job) (p : Bytes), byteAt p 0 = 0 → rosterOk p = true →
    (∃ u, actOwnership s n j p = some (0x00, u) ∧ u.lcState = 3 ∧ (u.dom 0).officers = rosterSlots p ∧ (u.dom 0).quorumM = byteAt p 1)
    ∧ ∃ u, actRosterSet s n j p = some (0x00, u) ∧ (u.dom j.domain).officers = rosterSlots p
      ∧ (u.dom j.domain).quorumM = byteAt p 1 ∧ (u.dom j.domain).orderCounter = (s.dom j.domain).orderCounter)
  ∧ (∀ (s : State) (n : Nat) (j : Job) (p : Bytes), 1 ≤ byteAt p 0 →
    ((s.dom (byteAt p 0)).dstate = 0 → rosterOk p = true → ∃ u, actDomainCreate s n j p = some (0x00, u)
      ∧ (u.dom (byteAt p 0)).dstate = 1 ∧ (u.dom (byteAt p 0)).officers = rosterSlots p ∧ (u.drbg (byteAt p 0)).up = true)
    ∧ ((s.dom (byteAt p 0)).dstate ≠ 0 → allZero (p.drop 1) = true → ∃ u, actDomainRetire s n j p = some (0x01, u)
      ∧ (u.dom (byteAt p 0)).dstate = 2 ∧ (u.dom (byteAt p 0)).retire = true
      ∧ (u.dom (byteAt p 0)).epoch = bump 32 (s.dom (byteAt p 0)).epoch 1))
  ∧ (∀ (s : State) (n : Nat) (j : Job) (p : Bytes), ∃ u, actEpochAdvance s n j p = some (0x01, u) ∧ (u.dom j.domain).dstate = 2
      ∧ (u.dom j.domain).epoch = bump 32 (s.dom j.domain).epoch 1)
  ∧ (∀ (s : State) (n : Nat) (j : Job) (p : Bytes), s.wheel.stageCheck = 2 → p = s.wheel.stageDigest → s.mode.mode ≠ mIdle →
      s.maintPending maSwap 0 = false → actWheelLoad s n j p = some (0x00, { s with
        wheel := { s.wheel with swapState := 2 },
        maint := { s.maint with queue := queueRequest s.maint.queue { act := maSwap, beat := s.beat, who := 0 } } }))
  ∧ (∀ (s : State) (n : Nat) (j : Job) (p : Bytes), field p 0 2 ≠ 0 → field p 0 2 < 512 → field p 2 2 = 0 →
      field p 0 2 &&& s.ao.fused = 0 → ∃ u, actFuseDisable s n j p = some (0x00, u)
        ∧ u.ao.unmonitored = s.ao.unmonitored ||| field p 0 2 ∧ u.ao.fused = s.ao.fused)
  ∧ (∀ (s : State) (n : Nat) (j : Job) (p : Bytes),
      (s.patch.minVersion < field p 0 4 → s.patch.status = 2 → field p 0 4 ≤ s.patch.version →
        actPatchMin s n j p = some (0x00, { s with patch := { s.patch with minVersion := field p 0 4 } }))
      ∧ (field p 0 4 ≤ s.patch.minVersion → actPatchMin s n j p = none))
  ∧ (∀ (s : State) (n : Nat) (j : Job) (p : Bytes), -2000 ≤ calTrimOf p → calTrimOf p ≤ 2000 → byteAt p 8 = 0 →
      allZero (slice p 9 3) = true → ∃ u, actCalendarSet s n j p = some (0x00, u) ∧ u.dict.calValid = true
        ∧ u.dict.calSeconds = field p 0 6 ∧ u.dict.calTrim = calTrimOf p)
  ∧ (∀ (s : State) (slot : Fin 4096) (j : Job), OrderPasses s slot.val 0x0A j → studyOk (orderPayload j.input) = true →
      s.mode.mode = mCeremony → ∃ t, exec (.entropyStudy slot) s = .next t ∧ t.mode.mode = mQuiesce ∧ t.mode.quiesceKind = 1
        ∧ t.mode.studyPending = true ∧ t.entropy.studyMask = byteAt (orderPayload j.input) 0
        ∧ (t.dom j.domain).orderCounter = (s.dom j.domain).orderCounter + 1)

/-- Sweeps (R334, R335, R180): a beat of a sweep frees entries of the domain, and with none left the domain is active again; no sweep
runs before a vault image is accepted; the
Assembly sweep frees what is older than its domain's EPOCH_SEQ; a traversal rebuild begins as an internal job of the key's
domain, and once its tasks have run the key is ready. -/
def Obligations.Sweeps : Prop :=
  (∀ (s : State) (d : Fin 256), s.vault.loaded = false → NoEffect (.epochSweep d) s)
  ∧ (∀ (s : State) (d : Fin 256), (s.dom d.val).dstate = 2 → s.vault.loaded = true →
    ((s.toSweep d.val) = [] → (s.dom d.val).retire = false →
      exec (.epochSweep d) s = .next (s.writeDom d.val { s.dom d.val with dstate := 1 }))
    ∧ ((s.toSweep d.val) = [] → (s.dom d.val).retire = true → ∃ t, exec (.epochSweep d) s = .next t
        ∧ (t.dom d.val).dstate = 0 ∧ (t.dom d.val).officers = [] ∧ (t.dom d.val).retire = false
        ∧ (t.dom d.val).orderCounter = (s.dom d.val).orderCounter)
    ∧ (∀ i k l, s.toSweep d.val = (i, k.span) :: l → s.key? i = some k → k.span ≤ 32 →
        (∀ n x, s.key? n = some x → x.gen < 0xFFFF) →
        ∃ t, exec (.epochSweep d) s = .next t ∧ t.key? i = none))
  ∧ (∀ (s : State) (i : Nat) (k : Key) (l : List Nat), s.vault.sweepKeys = i :: l → s.vault.loaded = true → s.key? i = some k →
      k.span ≤ 32 → (∀ n x, s.key? n = some x → x.gen < 0xFFFF) → ∃ t, exec .assemblySweep s = .next t ∧ t.key? i = none
        ∧ t.vault.sweepKeys.length < s.vault.sweepKeys.length)
  ∧ (∀ (s : State) (i : Nat) (k : Key) (c : CounterState), s.key? i = some k → s.counter? i = some c → c.ready = false →
      s.serves = true →
      (s.job? (rebuildSlot i) = none → ∃ t j, exec (.statefulRebuild i) s = .next t ∧ t.job? (rebuildSlot i) = some j
        ∧ j.domain = k.domain ∧ j.phase = 3 ∧ j = s.rebuildJob i k ∧ t.jobs.nextSeq = s.jobs.nextSeq + 1)
      ∧ (∀ j, s.job? (rebuildSlot i) = some j → j.tasks = [] → j.suspended = [] → j.slices = [] →
          ∃ t, exec (.statefulRebuild i) s = .next t ∧ t.counter? i = some { c with ready := true }
            ∧ t.job? (rebuildSlot i) = none))

/-! ### The slot wheel (04) and the vault (11) -/

/-- The wheel (R87, R89, R96, R98, R101, R104, R105): at position 0 a pending tier or a granted swap takes effect, an offset step
skips or holds a position; a power cap within its range is written at the end of its beat and sets the tier that takes effect
next; staged bytes are appended with their
check, and cleared, a reset in the beat of a granted swap waiting for the end of that beat; COUNT_CLEAR clears the counters of its
index. -/
def Obligations.WheelRows : Prop :=
  (∀ s : State, s.wheel.running = true → s.position = 0 → s.wheel.align = 0 →
    (s.wheel.swapState = 3 → ∃ t, exec .wheelBoundary s = .next t ∧ t.wheel.image = some s.wheel.staged ∧ t.wheel.source = 1
      ∧ t.wheel.swapState = 0 ∧ t.wheel.swapCount = bump 32 s.wheel.swapCount 1 ∧ t.wheel.bootDigest = s.wheel.stageDigest
      ∧ t.wheel.swapBeat = s.beat ∧ t.wheel.borrower = [])
    ∧ (s.wheel.swapState ≠ 3 → s.wheel.tierNext ≠ 0xFF → ∃ t, exec .wheelBoundary s = .next t ∧ t.wheel.tier = s.wheel.tierNext
      ∧ t.wheel.tierNext = 0xFF ∧ t.wheel.tierChanges = bump 32 s.wheel.tierChanges 1 ∧ t.wheel.image = s.wheel.image))
  ∧ (∀ s : State, s.wheel.running = true →
      (s.position = 4095 → 0 < s.wheel.align → ∃ t, exec .wheelBoundary s = .next t ∧ t.wheel.offset = s.wheel.offset + 1
        ∧ t.wheel.align = 0 ∧ t.position = 0)
      ∧ (s.position = 0 → s.wheel.align < 0 → s.wheel.holding = false → ∃ t, exec .wheelBoundary s = .next t
        ∧ t.wheel.offset = s.wheel.offset - 1 ∧ t.wheel.align = 0 ∧ t.wheel.holding = true ∧ t.position = 4095
        ∧ t.wheel.tier = s.wheel.tier ∧ t.wheel.swapState = s.wheel.swapState))
  ∧ ∀ s : State, s.writable = true →
    (∀ v : BitVec 16, 80 ≤ v.toNat → v.toNat ≤ 320 → s.dict.locked.contains (entryKey 0x1201 1) = false →
      exec (.powerCap v) s = .next (s.writeLate 0 { idx := 0x1201, sub := 1, value := leBytes 2 v.toNat })
      ∧ (s.landWrite (0, { idx := 0x1201, sub := 1, value := leBytes 2 v.toNat })).cfg 0x1201 1 = v.toNat
      ∧ (s.landWrite (0, { idx := 0x1201, sub := 1, value := leBytes 2 v.toNat })).wheel.tier = s.wheel.tier
      ∧ (s.landWrite (0, { idx := 0x1201, sub := 1, value := leBytes 2 v.toNat })).wheel.tierNext
          = (if s.tierFor v.toNat = s.wheel.tier then 0xFF else s.tierFor v.toNat))
    ∧ (∀ v : BitVec 16, (v.toNat < 80 ∨ 320 < v.toNat) → NoEffect (.powerCap v) s)
    ∧ (s.wheel.swapState = 3 → exec .stageReset s = .next (s.writeLate 0 { idx := 0x3001, sub := 1, value := [1#8] }))
    ∧ (s.wheel.swapState ≠ 3 → ∃ t, exec .stageReset s = .next t ∧ t.wheel.staged = [] ∧ t.wheel.stageCheck = 0 ∧ t.wheel.swapState = 0
        ∧ t.wheel.image = s.wheel.image)
    ∧ (∀ data : Bytes, 1 ≤ data.length → data.length ≤ 1024 → s.wheel.stageCheck ≠ 3 → s.mode.mode ≠ mAssembly →
        s.wheel.swapState ≠ 3 → s.wheel.staged.length + data.length < 64 → ∃ t, exec (.stageData data) s = .next t
          ∧ t.wheel.staged = s.wheel.staged ++ data ∧ t.wheel.stageCheck = 1
          ∧ t.wheel.stageDigest = sha3_384 (s.wheel.staged ++ data) ∧ t.wheel.image = s.wheel.image)
    ∧ (∃ t, exec (.countClear 0x4005) s = .next t ∧ t.vault.hcHits = 0 ∧ t.vault.hcMisses = 0 ∧ t.vault.expHits = 0
        ∧ t.vault.expMisses = 0)
    ∧ (∃ t, exec (.countClear 0x3201) s = .next t ∧ (∀ k, k ≤ 5 ∨ 0x51 ≤ k ∧ k ≤ 0x58 → countOf t.counts (entryKey 0x3201 k) = 0)
        ∧ ∀ k, countOf t.counts (entryKey 0x3211 k) = countOf s.counts (entryKey 0x3211 k))

/-- Loading (R102, R315, R316, R320, R443): a load can begin in Assembly, once, and chooses the wheel; the empty vault is accepted
under root 0; a list that does not give the whole image and a bus error are refused with their cause and page; a checked image is
accepted under its root. -/
def Obligations.VaultLoad : Prop :=
  (∀ s : State, s.mode.mode = mAssembly → s.vault.loadStatus ≠ 1 → s.vault.loaded = false → s.mode.wheelPhase = false →
    s.mode.bootPhase = false →
    exec .vloadImage s = .next { s with vault := { s.vault with loadStatus := 1, loadCause := 0, loadPage := 0, loadSeq := 0 } }
    ∧ (s.acceptable.any (fun r => r.1 == 0) = true → ∃ t, exec .vloadEmpty s = .next t ∧ t.vault.loaded = true
        ∧ t.vault.loadStatus = 3 ∧ t.vault.rootSeq = 0 ∧ t.vault.rootMac = zeros 24 ∧ t.vault.keys = [] ∧ t.vault.pending = none))
  ∧ (∀ s : State, s.vault.loaded = true → NoEffect .vloadImage s ∧ NoEffect .vloadEmpty s)
  ∧ ∀ (s : State) (list : List (Bytes × Bytes)), s.vault.loadStatus = 1 → s.mode.mode = mAssembly →
    (∀ p, ∃ t, exec (.vloadDone list (some p)) s = .next t ∧ t.vault.loadStatus = 0x2A ∧ t.vault.loadCause = 7
      ∧ t.vault.loadPage = p ∧ t.vault.loaded = s.vault.loaded)
    ∧ (∀ cause page, walkImage (s.cfg 0x4002 2) list 0 [] = .inr (cause, page) → ∃ t, exec (.vloadDone list none) s = .next t
        ∧ t.vault.loadStatus = 0x2A ∧ t.vault.loadCause = cause ∧ t.vault.loadPage = page)
    ∧ (∀ img, walkImage (s.cfg 0x4002 2) list 0 [] = .inl img → ∃ t, exec (.vloadDone list none) s = .next t
        ∧ t.vault.loadSeq = field (imagePage img 0) 8 8
        ∧ (∀ cause page, s.checkImage img = some (cause, page) → t.vault.loadCause = cause ∧ t.vault.loadPage = page
          ∧ t.vault.loadStatus = (if cause = 3 ∧ field (imagePage img 0) 8 8 < s.vault.rootSeq then 0x55 else 0x2A)
          ∧ t.vault.loaded = s.vault.loaded)
        ∧ (s.checkImage img = none → t.vault.loaded = true ∧ t.vault.loadStatus = 2
          ∧ t.vault.rootSeq = field (imagePage img 0) 8 8 ∧ t.vault.tree = imageTree img ∧ t.vault.loadPage = 1057315))

/-- The root journal and rounds (R308, R309, R311 to R313): a slot that reads back makes its content current: a PENDING root, or the
commit that ends the round; a first failure is written again in the next slot, but after PWR_FAIL_N that write does not start, a
second ends the job with ENGINE_FAULT; a granted rotation copies the current slot into the next region; the commit request, the commit
interval and the copy area follow their rules. -/
def Obligations.JournalRows : Prop :=
  (∀ (s : State) (w : SlotWrite) (n : Nat), s.vault.writing = some w → w.started = true → w.region = s.vault.region → w.job = some n →
    ((s.job? n).map Job.live).getD false = true →
    (w.content.committed = false → ∃ t, exec (.journalSlotWritten true) s = .next t
      ∧ t.vault.pending = some (w.content.rootSeq, w.content.mac) ∧ t.vault.nextSeq = w.content.nextSeq
      ∧ t.vault.lastPending = some s.beat ∧ t.vault.wseq = w.content.wseq ∧ t.vault.writing = none
      ∧ tget t.vault.journal (64 * w.region + w.slot) = some w.content)
    ∧ (w.content.committed = true → s.vault.pending = some (w.content.rootSeq, w.content.mac) →
      ∃ t, exec (.journalSlotWritten true) s = .next t ∧ t.vault.pending = none ∧ t.vault.rootSeq = w.content.rootSeq
        ∧ t.vault.rootMac = w.content.mac ∧ t.vault.tree = s.vault.roundTree ∧ t.vault.roundOpen = false ∧ t.vault.frozen = []
        ∧ t.vault.commits = s.vault.commits + 1 ∧ t.vault.lastCommit = s.beat)
    ∧ (w.content.committed = true → s.vault.pending ≠ some (w.content.rootSeq, w.content.mac) →
      ∃ t, exec (.journalSlotWritten true) s = .next t ∧ t.vault.pending = none ∧ t.vault.rootSeq = s.vault.rootSeq
        ∧ t.vault.roundOpen = false ∧ ∀ p, p ∈ s.vault.frozen → p ∈ t.vault.dirty)
    ∧ (w.fails = 0 → ∃ t, exec (.journalSlotWritten false) s = .next t
      ∧ t.vault.writing = some { w with slot := (w.slot + 1) % 64, fails := 1, started := !s.mode.pwrFail }
      ∧ tget t.vault.journal (64 * w.region + w.slot) = some (w.content.torn s.fresh) ∧ (w.content.torn s.fresh).valid = false
      ∧ t.vault.pending = s.vault.pending)
    ∧ (w.fails ≠ 0 → n < 4096 → s.classOf 0x92 ≤ 3 → (s.job? n).map (·.phase) = some 5 → ∃ t k, exec (.journalSlotWritten false) s = .next t
      ∧ t.vault.writing = none ∧ t.vault.slot = w.slot ∧ t.vault.pending = s.vault.pending ∧ t.job? n = some k
      ∧ k.status = some 0x43))
  ∧ (∀ (s : State) (g : Nat × Nat) (c : Nat × JournalSlot), s.grantOf maRotate = some g →
      currentSlot s.vault.journal (fun _ => true) = some c → s.canWriteSlot = true → s.cfg 0x4001 4 ≤ s.vault.commits →
      exec .journalRotation s = .next { s with vault := { s.vault with
        writing := some { region := (s.vault.region + 1) % 16, slot := 0, content := { c.2 with wseq := s.vault.wseq + 1 }.sealed } } })
  ∧ (∀ s : State, s.vault.loaded = true → s.vault.dirty ≠ [] → s.vault.roundOpen = false → s.vault.pending = none →
      s.vault.lastCommit + msBeats (s.cfg 0x4001 1) ≤ s.beat → ∃ t, exec .commitRequest s = .next t ∧ t.vault.commitReq = true)
  ∧ (∀ (s : State) (b : Nat), s.vault.lastPending = some b → b + 78125 ≤ s.beat →
      exec .commitIntervalExpiry s = .next { s with vault := { s.vault with lastPending := none } })
  ∧ (∀ (s : State) (page : Nat), (s.vault.frozen.drop s.vault.exported).contains page = false →
      exec (.copyAreaFreed page) s = .next { s with vault := { s.vault with copies := tdel s.vault.copies page } })

/-- Maintenance (R293, R298, R429 to R431): an activity with work is queued once with its beat, behind those of earlier beats and in
bit order among those of its own; a grant takes every queued request compatible with those that run and those queued before it; an
overdue request is marked and goes on waiting; a scrub slice, a retraining window and a purge slice end after their beats. -/
def Obligations.MaintenanceRows : Prop :=
  (∀ (s : State) (act : Fin 9) (who : Nat), s.hasWork act.val who = true → s.mode.mode ≠ mLockdown → s.mode.mode ≠ mDormant →
    (s.maintPending act.val who = false → ∃ t, exec (.maintRequest act who) s = .next t
      ∧ t.maint.queue = queueRequest s.maint.queue { act := act.val, beat := s.beat, who := who } ∧ t.maint.running = s.maint.running)
    ∧ (s.maintPending act.val who = true → NoEffect (.maintRequest act who) s))
  ∧ (∀ (l : List MaintReq) (x : MaintReq), ((∀ y ∈ l, y.beat < x.beat) → queueRequest l x = l ++ [x])
      ∧ ∀ y : MaintReq, y.beat = x.beat → x.act < y.act → queueRequest (l ++ [y]) x = queueRequest l x ++ [y])
  ∧ (∀ s : State, s.mode.mode ≠ mQuiesce → s.mode.mode ≠ mLockdown → s.mode.mode ≠ mDormant → s.mode.mode ≠ mReset →
      ∃ t, exec .maintGrant s = .next t ∧ t.maint.queue = (grantScan s.maint.queue (s.maint.running.map (·.1))).2
        ∧ (∀ a l, s.maint.queue = a :: l → s.maint.running.any (fun r => exclusive r.1 a.act) = false →
            (a.act = maRolling → s.partitionUnusable a.who = false) → (tget t.maint.running a.act).isSome = true))
  ∧ (∀ (s : State) (act : Fin 9) (r : MaintReq), r ∈ s.maint.queue → r.act = act.val → r.overdue = false →
      r.beat + msBeats (s.cfg 0x6902 3) ≤ s.beat → s.mode.mode ≠ mLockdown → ∃ t, exec (.maintOverdue act) s = .next t
        ∧ (s.classOf 0xB6 ≤ 2 → { r with overdue := true } ∈ t.maint.queue ∧ t.maint.queue.length = s.maint.queue.length))
  ∧ (∀ (s : State) (who since : Nat), s.grantOf maScrub = some (who, since) → since + 512 ≤ s.beat →
      s.vault.scrubSince + secBeats (s.cfg 0x4004 1) ≤ s.beat → ∃ t, exec (.patrolScrubSlice []) s = .next t
        ∧ t.vault.scrubPasses = bump 32 s.vault.scrubPasses 1 ∧ t.vault.scrubSince = s.beat
        ∧ t.maint.running = tdel s.maint.running maScrub)
  ∧ (∀ (s : State) (since : Nat), s.mode.mode ≠ mSelfTest → s.vault.retrainOpen = some since → since + 480 ≤ s.beat →
      exec (.dramRetrain true) s = .next { s with
        maint := { s.maint with running := tdel s.maint.running maRetrain },
        vault := { s.vault with retrainFrom := none, retrainOpen := none, trainedTemp := s.dieTemp, retrains := bump 32 s.vault.retrains 1 } })
  ∧ (∀ (s : State) (d since : Nat), s.grantOf maPurge = some (d, since) → since + 512 ≤ s.beat →
      ∃ t, exec .expansionPurgeSlice s = .next t ∧ t.maint.running = tdel s.maint.running maPurge
        ∧ (∀ e ∈ t.vault.expansions, e.domain = d → e.pinned = true ∨ e.waiting.isSome = true)
        ∧ (∀ e ∈ s.vault.expansions, e.domain ≠ d → e ∈ t.vault.expansions) ∧ d ∉ t.vault.purging)

/-! ### Entropy (13) -/

/-- Noise sources (R357 to R360): a window that passes both tests is released as 512 bits while entropy is ready; a run at the cutoff
suspends its source, counts, and asks for requalification; an attempt that passes qualifies the source, one that fails counts and
waits REQUAL_PERIOD, or retires the source at REQUAL_MAX; a due attempt is requested. Conditioner, root and masks (R361 to R363,
R369, R370): 768 debiased bits are hashed into one block, or none if it equals the block before it; the root reseeds from a block
when due, after a low state from the first block issued since; past ROOT_AGE_MAX it stops; a mask unit reseeds from its internal
instance when 7,813 beats have passed, and while the instance cannot serve its request is held, and the generator is not ready
once ENTROPY_WAIT is over, nor after a failed comparison of the DRBG engine. -/
def Obligations.NoiseAndGenerators : Prop :=
  (∀ (s : State) (i : Fin 4), let x := s.source i.val
    (∀ raw : Bytes, raw.length = 128 → s.qualified i.val = true → s.entropy.state = 2 →
      (rctScan (rctCutoff i.val) (rawBits raw) x.lastBit x.run).1 = false → aptFails (aptCutoff i.val) (rawBits raw) = false →
      ∃ t, exec (.noiseWindow i raw) s = .next t ∧ t.entropy.bits = s.entropy.bits ++ debias raw ∧ t.qualified i.val = true
        ∧ (t.source i.val).run = (rctScan (rctCutoff i.val) (rawBits raw) x.lastBit x.run).2.2)
    ∧ (∀ raw : Bytes, raw.length = 128 → s.qualified i.val = true → 2 ≤ s.entropy.state →
      (rctScan (rctCutoff i.val) (rawBits raw) x.lastBit x.run).1 = true →
      exec (.noiseWindow i raw) s = exec (.rctFailure i) s)
    ∧ (s.qualified i.val = true → 1 ≤ s.entropy.state → s.entropy.state ≠ 4 → (s.entropy.state = 1 → 3 ≤ s.entropy.step) →
        ∃ t, exec (.rctFailure i) s = .next t
        ∧ (t.source i.val).state = 3 ∧ (t.source i.val).rctFails = bump 32 x.rctFails 1 ∧ (t.source i.val).lastFail = s.beat
        ∧ t.qualified i.val = false)
    ∧ (s.qualified i.val = true → s.entropy.state = 4 → s.mode.mode ≠ mDormant → ∃ t, exec (.rctFailure i) s = .next t
        ∧ (t.source i.val).state = 2 ∧ (t.source i.val).rctFails = bump 32 x.rctFails 1
        ∧ countOf t.fault.counts 0x80 = bump 32 (countOf s.fault.counts 0x80) 1)
    ∧ (∀ since, s.grantOf maRequal = some (i.val, since) → x.state = 4 →
        (since + 500 ≤ s.beat → ∃ t, exec (.requalificationAttempt i true) s = .next t ∧ (t.source i.val).state = 2
          ∧ (t.source i.val).failedInRow = 0)
        ∧ (x.failedInRow + 1 < s.cfg 0x5000 6 → ∃ t, exec (.requalificationAttempt i false) s = .next t
          ∧ (t.source i.val).state = 3 ∧ (t.source i.val).failedInRow = x.failedInRow + 1
          ∧ (t.source i.val).nextAttempt = some (s.beat + msBeats (s.cfg 0x5000 7)) ∧ t.grantOf maRequal = none)
        ∧ (s.cfg 0x5000 6 ≤ x.failedInRow + 1 → ∃ t, exec (.requalificationAttempt i false) s = .next t
          ∧ (t.source i.val).state = 5))
    ∧ (∀ b, x.nextAttempt = some b → b ≤ s.beat → x.state = 3 → s.maintPending maRequal i.val = false →
        ∃ t, exec (.requalPeriodExpiry i) s = .next t
          ∧ t.maint.queue = queueRequest s.maint.queue { act := maRequal, beat := s.beat, who := i.val }))
  ∧ ((∀ s : State, s.entropy.state = 2 → 96 ≤ s.entropy.bits.length → s.entropy.fifo.length < 16 →
    s.entropy.condStart + 125 * (s.entropy.condCount + 1) / 2 ≤ s.beat → s.entropy.condLast + 62 ≤ s.beat →
    let b := sha3_384 (s.entropy.bits.take 96)
    ∃ t, exec .conditionedBlock s = .next t ∧ t.entropy.condCount = s.entropy.condCount + 1
      ∧ t.entropy.lastBlock = some b ∧ t.entropy.condLast = s.beat
      ∧ (s.entropy.lastBlock ≠ some b → t.entropy.fifo = s.entropy.fifo ++ [b] ∧ t.entropy.bits = s.entropy.bits.drop 96)
      ∧ (s.entropy.lastBlock = some b → t.entropy.fifo = s.entropy.fifo))
  ∧ (∀ (s : State) (n : Nat), s.entropy.rootUp = true → s.entropy.state = 2 →
      let e := { s.entropy with fifo := s.entropy.fifo.eraseIdx n, root := drbgUpdate s.entropy.root (s.entropy.fifo.getD n []),
                                rootLast := s.beat, rootDue := none, rootStopped := false,
                                rootReseeds := bump 64 s.entropy.rootReseeds 1 }
      (s.entropy.rootDue = some n → n < s.entropy.fifo.length → exec .rootReseed s = .next { s with entropy := e })
      ∧ (s.entropy.rootDue = some n → s.entropy.fifo.length ≤ n → NoEffect .rootReseed s)
      ∧ (s.entropy.rootDue = none → n = 0 → s.entropy.fifo ≠ [] →
        (s.entropy.rootStopped = true ∨ s.entropy.rootLast + 7813 ≤ s.beat) → exec .rootReseed s = .next { s with entropy := e }))
  ∧ (∀ s : State, s.entropy.rootUp = true → s.entropy.rootLast + 15625 < s.beat → ∃ t, exec .rootAgeExpiry s = .next t
      ∧ t.rootCan = false)
  ∧ (∀ (s : State) (u : Fin 2), s.entropy.state = 2 → ((s.maskUnit u.val).seeded = false ∨ (s.maskUnit u.val).last + 7813 ≤ s.beat) →
      s.masksRepeat (s.maskUnit u.val) = false →
      (s.canServe (256 + u.val) = true → ∃ t, exec (.maskUnitReseed (u, false)) s = .next t ∧ (t.maskUnit u.val).seeded = true
        ∧ (t.maskUnit u.val).last = s.beat ∧ (t.maskUnit u.val).heldFrom = none
        ∧ (t.maskUnit u.val).sponge = (s.absorbed (s.maskUnit u.val) (s.serve (256 + u.val) 48).1).sponge
        ∧ ((s.maskUnit (1 - u.val)).seeded = true → t.entropy.maskReady = true))
      ∧ (s.canServe (256 + u.val) = true → ∃ t, exec (.maskUnitReseed (u, true)) s = .next t ∧ t.entropy.maskReady = false
        ∧ (t.maskUnit 0).seeded = false ∧ (t.maskUnit 1).seeded = false)
      ∧ (s.canServe (256 + u.val) = false → ∃ t, exec (.maskUnitReseed (u, false)) s = .next t
        ∧ (t.maskUnit u.val).heldFrom = some ((s.maskUnit u.val).heldFrom.getD s.beat)
        ∧ t.entropy.maskReady = s.entropy.maskReady))
  ∧ (∀ (s : State) (u : Fin 2) (b : Nat), (s.maskUnit u.val).heldFrom = some b → b + msBeats (s.cfg 0x5000 4) ≤ s.beat →
      ∃ t, exec (.maskGeneratorNotReady u) s = .next t ∧ t.entropy.maskReady = false ∧ (t.maskUnit 0).seeded = false
        ∧ (t.maskUnit 1).seeded = false ∧ (t.maskUnit u.val).heldFrom = none))

/-- Entropy start-up and study (R371 to R376, R441, R447): each step ends after its beats; step 2 qualifies the sources that pass,
step 3 needs the minimum of sources and 4,096 conditioned samples and repeats where they fail their tests, step 4 takes a new root seed
from a conditioned block, step 5 brings up the root from one, step 6 every instance, step 7 ends the sequence with ENTROPY_STATE 2, or 3
without the minimum; the limit is raised once; a study keeps what it captured, a selection restarts the read, a read advances by 1,024
bytes, and its exit erases the capture and repeats the sequence. -/
def Obligations.EntropySequences : Prop :=
  (∀ (s : State) (failed : Fin 16 × Fin 16), s.entropy.state = 1 → s.mode.stopped = false →
    s.entropy.stepBeat + s.stepBeats s.entropy.step ≤ s.beat →
    (s.entropy.step = 1 → exec (.entropyStartupStep failed) s =
      .next { s with entropy := { s.entropy with step := 2, stepBeat := s.beat } })
    ∧ (s.entropy.step = 2 → failed = (0, 0) → (∀ i, i < 4 → (s.source i).state = 1) →
        ∃ t, exec (.entropyStartupStep failed) s = .next t ∧ t.entropy.step = 3 ∧ ∀ i, i < 4 → (t.source i).state = 2)
    ∧ (s.entropy.step = 3 → s.entropy.stepBeat ≠ 0 → s.entropyMin = true → 4096 ≤ s.entropy.samples.length →
        (samplesFail s.entropy.samples = false → exec (.entropyStartupStep failed) s = .next { s with entropy := { s.entropy with
          step := if !s.entropy.afterStudy && (s.sec.seedDue || s.sec.keysDue) then 4 else 5, stepBeat := s.beat, samples := [] } })
        ∧ (samplesFail s.entropy.samples = true → (s.entropy.stepFails + 1) % 3 ≠ 0 →
          exec (.entropyStartupStep failed) s = .next { s with entropy := { s.entropy with
            stepFails := s.entropy.stepFails + 1, stepBeat := s.beat, samples := [] } }))
    ∧ (s.entropy.step = 4 → s.sec.seedDue = true → s.seedBlocks ≤ s.entropy.fifo.length →
        ∃ t, exec (.entropyStartupStep failed) s = .next t ∧ t.entropy.step = 5
        ∧ t.sec.seedDue = false ∧ t.ao.rootGen = bump 32 s.ao.rootGen 1 ∧ t.seedGen = t.ao.rootGen ∧ t.ao.nextGen = 0
        ∧ t.lcSeq = s.lcSeq + 1 ∧ t.lcState = s.lcState ∧ t.ao.rootSeed = s.entropy.fifo.headD [])
    ∧ (s.entropy.step = 5 → s.entropy.fifo ≠ [] →
        ∃ t, exec (.entropyStartupStep failed) s = .next t ∧ t.entropy.step = 6 ∧ t.entropy.rootUp = true
        ∧ t.entropy.rootLast = s.beat ∧ t.entropy.fifo = s.entropy.fifo.tail)
    ∧ (s.entropy.step = 6 → ∃ t, exec (.entropyStartupStep failed) s = .next t ∧ t.entropy.step = 7
        ∧ ∀ i, i < 264 → (t.drbg i).up = true)
    ∧ (s.entropy.step = 7 → ∃ t, exec (.entropyStartupStep failed) s = .next t ∧ t.entropy.state = (if s.entropyMin then 2 else 3)
        ∧ t.entropy.maskReady = true
        ∧ (s.entropy.afterStudy = true → s.mode.mode = mStudy → s.entropyMin = true → (∀ x ∈ s.rings.queues, x.2.doorbell = false) →
            t.mode.mode = mCeremony)
        ∧ (s.entropyMin = true → s.mode.mode = mSelfTest → s.mode.step = 4 → t.mode.step = 5)))
  ∧ (∀ s : State, s.entropy.state = 1 → s.entropy.step < 7 → s.entropy.limitOver = false →
      s.entropy.startBeat + msBeats (s.cfg 0x5000 8) ≤ s.beat →
      (∃ t, exec .startupLimitExpiry s = .next t ∧ t.entropy.limitOver = true)
      ∧ NoEffect .startupLimitExpiry { s with entropy := { s.entropy with limitOver := true } })
  ∧ (∀ (s : State) (captured : List (Nat × Bytes)), s.mode.mode = mStudy → s.entropy.studyState = 1 →
      s.mode.modeBeat + captureBeats s.entropy.studyKind s.entropy.studySamples ≤ s.beat →
      let kept := (bitList 4 s.entropy.studyMask).map (fun i =>
        (i, fit ((s.entropy.studySamples + 7) / 8) ((tget captured i).getD [])))
      exec (.studyCaptureEnd captured) s =
        .next { s with entropy := { s.entropy with studyState := 2, studyBits := kept } })
  ∧ (∀ (s : State) (i : Fin 4), s.writable = true → ∃ t, exec (.studySelect i) s = .next t ∧ t.cfg 0x5030 2 = i.val
      ∧ t.entropy.studyPos = 0)
  ∧ (∀ s : State, let b := (tget s.entropy.studyBits (s.cfg 0x5030 2)).getD []
      (s.entropy.studyPos < b.length → exec .studyData s =
        .next { s with entropy := { s.entropy with studyPos := s.entropy.studyPos + 1024 } })
      ∧ (b.length ≤ s.entropy.studyPos → NoEffect .studyData s))
  ∧ (∀ s : State, s.mode.mode = mStudy → s.entropy.state = 4 → ∃ t, exec .studyExit s = .next t ∧ t.entropy.state = 1
      ∧ t.entropy.step = 1 ∧ t.entropy.afterStudy = true ∧ t.entropy.studyBits = [] ∧ t.entropy.studyState = 0
      ∧ t.entropy.rootUp = false)

/-! ### The always-on domain, self-test and start-up (14 to 16) -/

/-- Meshes, sense inputs and ZEROISE_IN (R384 to R388, R394, R395): each step counts mismatches in a row per mesh, patterns whose two
computations differ alarm (log 74), an input's run and transitions grow, bins roll, and a source at its limit alarms; while the
main die is off the AO domain acts alone. Detectors, supplies, fuses and forced events (R379, R383, R390 to R392, R402, R409,
R411, R421, R440): a reading beyond its limit alarms once, VBAT_LOW once for each fall; supply and calendar follow their events; a
burn that ends fuses its source and the erase map is written; a forced source of class S3 or below is raised; a shadow mismatch
counts, and one of the severity table acts at S4; a corrected operand-memory error is remembered per word; an error of a grave
class erases the root seed. -/
def Obligations.TamperAndAlwaysOn : Prop :=
  ((∀ (s : State) (samples : List (Bool × Bool)) (m : Nat), m < 5 →
    let bad := (List.range 12).any (fun l => lineMesh l == m && lineBad (s.lineStates.getD l 0) (samples.getD l (false, false)))
    ∃ t, exec (.meshStep (samples, false)) s = .next t ∧ (t.mesh m).consecutive = (if bad then (s.mesh m).consecutive + 1 else 0)
      ∧ (t.mesh m).mismatches = (if bad then bump 32 (s.mesh m).mismatches 1 else (s.mesh m).mismatches)
      ∧ (t.mesh m).history = (2 * (s.mesh m).history + flag bad) % 2 ^ 64
      ∧ t.ao.lineStep = (if 65534 ≤ s.ao.lineStep then 0 else s.ao.lineStep + 1))
  ∧ (∀ (s : State) (samples : List (Bool × Bool)), s.ao.lines.length ≠ 12 →
      ∃ t, exec (.meshStep (samples, true)) s = .next t ∧ 0x13 ∈ t.ao.alarmed)
  ∧ (∀ (s : State) (i : Fin 4) (level : Bool), let x := s.sense i.val
      let active := level == (s.aoCfg (0x6020 + i.val) 1 == 1)
      ∃ t, exec (.senseSample ⟨i.val, by omega⟩ level) s = .next t ∧ (t.sense i.val).level = active
        ∧ (t.sense i.val).transitions = (if active = x.level then x.transitions else bump 32 x.transitions 1)
        ∧ (t.sense i.val).runTime = (if active then some (match x.runTime with | some n => n + s.samplePeriod | none => 0) else none))
  ∧ (∀ (s : State) (level : Bool), exec (.senseSample 4 level) s =
      .next { s with ao := { s.ao with zeroRun := if level then 0 else s.ao.zeroRun + 1 } })
  ∧ (∀ s : State, ∃ t, exec .chatterBinRoll s = .next t ∧
      ∀ i, i < 4 → (t.sense i).bins = (0 :: (s.sense i).bins).take 8 ∧ (t.sense i).level = (s.sense i).level)
  ∧ (∀ (s : State) (c : Instr) (src : Nat), (∃ m : Fin 5, c = .meshAlarm m ∧ src = m.val ∧ s.aoCfg 0x6000 10 ≤ (s.mesh m.val).consecutive)
        ∨ (∃ (i : Fin 4) (n : Nat), c = .senseAlarm i ∧ src = 5 + i.val ∧ (s.sense i.val).runTime = some n
            ∧ 32768 * s.aoCfg (0x6020 + i.val) 2 ≤ 1000 * n)
        ∨ (c = .zeroiseRequest ∧ src = 0x0A ∧ 3 ≤ s.ao.zeroRun) →
      s.monitored src = true → src ∉ s.ao.alarmed →
      (∃ t, exec c s = .next t ∧ src ∈ t.ao.alarmed ∧ t.ao.logSeq = bump 32 s.ao.logSeq 1)
      ∧ (s.mode.mode = mDormant → bit s.ao.eraseMap src = true → ∃ t, exec c s = .next t ∧ t.ao.rootSeed = zeros 48
          ∧ t.ao.nextSeed = zeros 48 ∧ t.ao.intruded = true ∧ t.ao.erasedOff = true)
      ∧ (s.mode.mode = mDormant → bit s.ao.eraseMap src = false → ∃ t, exec c s = .next t ∧ t.ao.rootSeed = s.ao.rootSeed)))
  ∧ ((∀ (s : State) (c : Instr) (src : Nat), src ∉ s.ao.alarmed →
    (∃ (d : Fin 16) (r : Int), c = .detectorAlarm d r ∧ src = 0x20 + d.val ∧ s.mode.mode ≠ mDormant ∧ s.detectorFires d.val r = true)
      ∨ (∃ temp : Int, c = .aoTempAlarm temp ∧ (src = 0x0B ∧ temp < s.aoCfg 0x6000 9
          ∨ src = 0x0C ∧ s.aoCfg 0x6000 9 ≤ temp ∧ 1250 < temp))
      ∨ (∃ mv : BitVec 16, c = .vbatFail mv ∧ src = 0x0E ∧ mv.toNat < 2500 ∧ s.mode.mode = mDormant)
      ∨ (c = .aoClock ∧ src = 0x0F) →
    ∃ t, exec c s = .next t ∧ src ∈ t.ao.alarmed)
  ∧ (∀ (s : State) (mv : BitVec 16), (mv.toNat : Int) < s.aoCfg 0x6000 7 → ∃ t, exec (.vbatLow mv) s = .next t ∧ t.ao.vbatLow = true
      ∧ t.ao.logSeq = (if s.ao.vbatLow then s.ao.logSeq else bump 32 s.ao.logSeq 1))
  ∧ (∀ (s : State) (mv : BitVec 16), s.aoCfg 0x6000 7 ≤ (mv.toNat : Int) → exec (.vbatLow mv) s =
      .next { s with ao := { s.ao with vbatMv := mv.toNat, vbatLow := false } })
  ∧ (∀ s : State, (∃ t, exec .aoClock s = .next t ∧ t.dict.calValid = false ∧ t.dict.calSeconds = 0)
      ∧ exec .aoSupplySwitch s = .next { s with ao := { s.ao with supplyVbat := true } }
      ∧ exec .aoSupplyReturn s = .next { s with ao := { s.ao with supplyVbat := false } }
      ∧ (s.mode.mode = mDormant → exec .lockdownHoldClear s = .next { s with mode := { s.mode with lockdownHold := false } })
      ∧ (s.mode.mode ≠ mDormant → NoEffect .lockdownHoldClear s))
  ∧ (∀ (s : State) (b : Nat) (l : List Nat), s.ao.burning = b :: l → s.ao.burnAt + 782 ≤ s.beat →
      (∃ t, exec (.fuseBurnStep true) s = .next t ∧ t.ao.fused = setBit s.ao.fused b ∧ t.ao.burning = l ∧ t.ao.burnAt = s.beat)
      ∧ ∃ t, exec (.fuseBurnStep false) s = .next t ∧ t.ao.fused = s.ao.fused ∧ t.ao.burning = l)
  ∧ (∀ (s : State) (src : Fin 192), s.writable = true → s.forceable src.val = true →
      (s.classOf src.val ≤ 3 → (alarmSource src.val = true → src.val ∉ s.ao.alarmed) →
        ∃ t, exec (.force src) s = .next t ∧ t.fault.flogSeq = bump 32 s.fault.flogSeq 1
        ∧ countOf t.fault.counts src.val = bump 32 (countOf s.fault.counts src.val) 1)
      ∧ (3 < s.classOf src.val → NoEffect (.force src) s))
  ∧ (∀ (s : State) (item : Fin 5) (srcs : List (Fin 192)) (copies : List (Fin 6)), s.mode.mode ≠ mDormant →
      ∃ t, exec (.shadowMismatch item srcs copies) s = .next t
        ∧ t.fault.shadowMismatches = bump 32 s.fault.shadowMismatches 1
        ∧ (∀ src copy, item.val = 3 → srcs = [src] → copies = [copy] → countOf t.fault.shadowClasses src.val = copy.val)
        ∧ (item.val = 3 → s.mode.mode ≠ mLockdown → t.mode.mode = mLockdown)
        ∧ countOf t.fault.counts 0xB0 = bump 32 (countOf s.fault.counts 0xB0) 1)
  ∧ (∀ (s : State) (cls : Fin 8) (unit : Fin 16) (word k : Nat), s.jobOn cls.val unit.val = some k → s.mode.mode ≠ mDormant →
      (s.selfTest.scrubs.contains (s.scrubMark k word) = false → ∃ t, exec (.microTrapScrub cls unit word) s = .next t
        ∧ t.selfTest.scrubs = s.scrubMark k word :: s.selfTest.scrubs ∧ countOf t.fault.counts 0x40 = bump 32 (countOf s.fault.counts 0x40) 1)
      ∧ (s.selfTest.scrubs.contains (s.scrubMark k word) = true → ∃ t, exec (.microTrapScrub cls unit word) s = .next t
        ∧ countOf t.fault.counts 0x41 = bump 32 (countOf s.fault.counts 0x41) 1))
  ∧ (∀ (s : State) (d : Fin 16) (r : Int), s.mode.mode ≠ mDormant → s.mode.mode ≠ mLockdown → s.mode.pwrFail = false →
      s.detectorFires d.val r = true → (0x20 + d.val) ∉ s.ao.alarmed → s.classOf (0x20 + d.val) = 5 →
      ∃ t, exec (.detectorAlarm d r) s = .next t ∧ t.ao.rootSeed = zeros 48 ∧ t.ao.intruded = true ∧ t.mode.mode = mLockdown
        ∧ t.mode.lockdownHold = true ∧ t.ao.clamped = true))

/-- Rolling self-test (R99, R414, R418, R419): every ROLLING_PERIOD / 42 the next usable partition is requested; an idle unit that is
asked for isolates; a test that passes returns the partition's units to use, but an unusable one after a retest only, one that fails
counts, and so does a detector whose injection path fails; a retest is taken for a partition with an unusable unit only. -/
def Obligations.RollingTest : Prop :=
  (∀ (s : State) (p : Nat), s.cfg 0x6900 1 ≠ 0 → s.serves = true →
    secBeats (s.cfg 0x6900 1) ≤ 42 * (s.beat - s.selfTest.lastRolling) → s.nextPartition s.selfTest.rollingNext = some p →
    s.maintPending maRolling p = false → ∃ t, exec .rollingBistStart s = .next t
      ∧ t.maint.queue = queueRequest s.maint.queue { act := maRolling, beat := s.beat, who := p }
      ∧ t.selfTest.rollingNext = (p + 1) % 42 ∧ t.selfTest.lastRolling = s.beat)
  ∧ (∀ (s : State) (cls : Fin 8) (unit : Fin 16) (bad : Bool), (s.unit cls.val unit.val).state = 1 → s.idleUnit cls.val unit.val = true →
      ∃ t, exec (.unitIsolated cls (unit, bad)) s = .next t ∧ (t.unit cls.val unit.val).state = 2)
  ∧ (∀ (s : State) (p began : Nat) (retest : Bool), s.selfTest.testing = some (p, began, retest) → s.selfTest.testBegun = true →
      began + 15625 ≤ s.beat →
      ∀ n : Fin 17, (∃ t, exec (.rollingBistEnd (true, n, false)) s = .next t ∧ t.selfTest.testing = none
        ∧ t.selfTest.rollingPasses = bump 32 s.selfTest.rollingPasses 1
        ∧ t.selfTest.retestState = (if retest then 3 else s.selfTest.retestState)
        ∧ t.ao.detectorTests = bump 32 s.ao.detectorTests n.val
        ∧ ∀ u ∈ partitionUnits p, retest = true ∨ (s.unit u.1 u.2).state ≠ 3 →
            (t.unit u.1 u.2).state = 0 ∧ (t.unit u.1 u.2).lastTest = s.beat)
      ∧ (∃ t, exec (.rollingBistEnd (false, n, false)) s = .next t ∧ t.selfTest.testing = none
        ∧ t.selfTest.rollingFails = bump 32 s.selfTest.rollingFails 1
        ∧ t.selfTest.retestState = (if retest then 4 else s.selfTest.retestState))
      ∧ ∀ passed, s.mode.mode ≠ mDormant → ∃ t, exec (.rollingBistEnd (passed, n, true)) s = .next t
        ∧ countOf t.fault.counts 0x30 = bump 32 (countOf s.fault.counts 0x30) 1)
  ∧ (∀ (s : State) (v : BitVec 16), let p := partitionOf (v.toNat / 256) (v.toNat % 256)
      (p < 42 → (partitionUnits p).any (fun x => (s.unit x.1 x.2).state == 3) = true →
        s.maint.queue.any (fun r => r.act == maRolling && r.who == p) = false →
          ∃ t, exec (.unitRetest v) s = .next t ∧ t.selfTest.retestState = 1 ∧ t.selfTest.retestPartition = p
          ∧ t.maint.queue = queueRequest s.maint.queue { act := maRolling, beat := s.beat, who := p })
      ∧ ((42 ≤ p ∨ (partitionUnits p).any (fun x => (s.unit x.1 x.2).state == 3) = false) → NoEffect (.unitRetest v) s))

/-- Start-up (R400, R414 to R417, R437, R440, R441): power brings Dormant to Reset; each step ends after its beats and the next
begins, Self-test after step 1, the Patch window after step 6; while PWR_FAIL_N has stopped the sequence no step ends. -/
def Obligations.StartUp : Prop :=
  (∀ s : State, s.mode.mode = mDormant → s.mode.lockdownHold = false → s.mode.pwrFail = false → s.sec.lcOrder = none →
    ∃ t, exec .powerUp s = .next t ∧ t.mode.mode = mReset ∧ t.mode.step = 1 ∧ t.mode.resetCause = 0 ∧ t.mode.vsel = 10 ∧ t.beat = 0
      ∧ t.jobs.slots = [] ∧ t.rings.queues = [] ∧ t.entropy = {} ∧ t.domains = s.domains ∧ t.vault.journal = s.vault.journal
      ∧ t.lcState = s.lcState ∧ t.ao.rootSeed = s.ao.rootSeed)
  ∧ (∀ s : State, s.stepDue mReset 1 7813 = true → s.ramValid = true → s.ao.nextGen = 0 →
      ∃ t, exec (.resetRecordsRead false [] ((false, false), 0)) s = .next t ∧ t.mode.mode = mSelfTest ∧ t.mode.step = 2
        ∧ t.mode.vsel = Config.vselCode.val
        ∧ t.ao.rootSeed = s.ao.rootSeed)
  ∧ (∀ s : State, s.stepDue mReset 1 7813 = true → ∃ t, exec (.resetRecordsRead true [] ((false, false), 0)) s = .next t
      ∧ (s.ao.nextGen = 0 → t.ao.rootSeed = zeros 48 ∧ t.ao.log = [] ∧ t.sec.ramLost = true ∧ t.dict.calValid = false))
  ∧ (∀ s : State, s.stepDue mSelfTest 2 117188 = true →
      (∃ t, exec (.memoryBistEnd []) s = .next t ∧ t.mode.step = 3 ∧ t.mode.mode = mSelfTest))
  ∧ (∀ s : State, s.stepDue mSelfTest 3 312500 = true → ∃ t, exec (.logicBistEnd []) s = .next t ∧ t.mode.step = 4
      ∧ t.entropy.state = 1 ∧ t.entropy.step = 1 ∧ t.entropy.stepBeat = s.beat)
  ∧ (∀ (s : State) (p : Fin 52), s.stepDue mSelfTest 2 117188 = true → ∃ t, exec (.memoryBistEnd [p]) s = .next t
      ∧ t.selfTest.startupFails = setBit s.selfTest.startupFails p.val)
  ∧ (∀ s : State, s.stepDue mSelfTest 5 s.step5Beats = true → s.ao.intruded = false → s.sec.ramLost = false → s.chainHolds = true →
      ∃ t, exec .aoRecordsStepEnd s = .next t ∧ t.mode.step = 6 ∧ t.ao.logChain = true ∧ t.ao.logCopied = s.ao.logSeq
        ∧ t.lcState = s.lcState)
  ∧ (∀ s : State, s.stepDue mSelfTest 5 s.step5Beats = true → s.ao.intruded = true → s.lcState ≠ 5 →
      s.chainHolds = true → ∃ t, exec .aoRecordsStepEnd s = .next t ∧ t.lcState = 6 ∧ t.ao.intruded = false ∧ t.vault.keys = [])
  ∧ (∀ s : State, s.stepDue mSelfTest 6 15625 = true → ∃ t, exec (.knownAnswerTestsEnd [] []) s = .next t
      ∧ t.mode.mode = mPatch ∧ t.mode.step = 7 ∧ t.mode.windowBeat = s.beat
      ∧ t.ao.detectorTests = bump 32 s.ao.detectorTests 16)
  ∧ (∀ (s : State) (l : List (Fin 52)), s.mode.stopped = true → NoEffect (.memoryBistEnd l) s ∧ NoEffect (.logicBistEnd l) s
      ∧ NoEffect .aoRecordsStepEnd s ∧ NoEffect (.knownAnswerTestsEnd l []) s)

/-- Patches and the boot image (R424 to R428, R442, R443, R465): while the Patch window is open bytes are staged and cleared; a bundle
is applied only if every check passes, and then the window closes and Assembly begins; a refusal leaves its status; the window closes
by command only while PATCH_MIN_VERSION is 0, and at its time-out PATCH_TIMEOUT is raised otherwise; the boot image is staged in its
phase; Assembly ends once a vault is loaded, with the next beat. -/
def Obligations.PatchAndBoot : Prop :=
  (∀ s : State, s.patchOpen = true →
    exec .patchStageReset s = .next { s with patch := { s.patch with staged := [], status := 0 } }
    ∧ (∀ data : Bytes, 1 ≤ data.length → data.length ≤ 1024 → s.patch.staged.length + data.length ≤ 184043 →
        exec (.patchData data) s = .next { s with patch := { s.patch with staged := s.patch.staged ++ data } })
    ∧ (∃ t, exec .patchApply s = .next t ∧ t.patch.status = s.patchCheck
        ∧ (s.patchCheck = 2 → t.patch.applied = s.patch.staged ∧ t.patch.version = field s.patch.staged 8 4
          ∧ t.patch.body = patchBody s.patch.staged ∧ t.mode.step = 8)
        ∧ (s.patchCheck ≠ 2 → t.patch.applied = s.patch.applied ∧ t.patch.body = s.patch.body))
    ∧ (s.mode.windowBeat + msBeats (s.cfg 0x6901 9) ≤ s.beat → s.patch.minVersion = 0 →
        ∃ t, exec .patchWindowTimeout s = .next t ∧ t.mode.step = 8 ∧ t.patch.status = (if s.patch.status = 2 then 2 else 8))
    ∧ (s.mode.windowBeat + msBeats (s.cfg 0x6901 9) ≤ s.beat → 0 < s.patch.minVersion →
        ∃ t, exec .patchWindowTimeout s = .next t ∧ t.patch.status = (if s.patch.status = 2 then 2 else 8)
          ∧ countOf t.fault.counts 0xB5 = bump 32 (countOf s.fault.counts 0xB5) 1)
    ∧ (s.patch.minVersion = 0 → ∃ t, exec .windowClose s = .next t ∧ t.mode.step = 8 ∧ t.mode.lastCtrl = 5
        ∧ t.mode.refused = false)
    ∧ (s.patch.minVersion ≠ 0 → exec .windowClose s = .next { s with mode := { s.mode with lastCtrl := 5, refused := true } }))
  ∧ (∀ s : State, s.patchOpen = false → (∀ data : Bytes, NoEffect (.patchData data) s) ∧ NoEffect .patchStageReset s
      ∧ NoEffect .patchApply s ∧ NoEffect .patchWindowTimeout s)
  ∧ (∀ s : State, s.mode.mode = mAssembly → s.mode.bootPhase = true →
      exec .bootReset s = .next { s with dict := { s.dict with bootStaged := [], bootStatus := 0 } }
      ∧ ∀ data : Bytes, 1 ≤ data.length → data.length ≤ 1024 → s.dict.bootStaged.length + data.length ≤ 65536 →
          exec (.bootData data) s = .next { s with dict := { s.dict with bootStaged := s.dict.bootStaged ++ data, bootStatus := 1 } })
  ∧ (∀ s : State, s.mode.mode = mAssembly → s.mode.stopped = false →
      ((s.vault.loadStatus = 2 ∨ s.vault.loadStatus = 3) → s.vault.counters = [] →
        exec .assemblyDone s = .next { s with mode := { s.mode with nextMode := mService, lastCtrl := 6, refused := false } }
        ∧ ∀ u : State, u.mode.nextMode = mService → u.mode.mode = mAssembly → u.mode.stopped = false → u.vault.counters = [] →
          u.enterNext.mode.mode = u.serviceMode ∧ u.enterNext.mode.step = 9 ∧ u.enterNext.mode.nextMode = 0)
      ∧ (s.vault.loadStatus ≠ 2 → s.vault.loadStatus ≠ 3 →
          exec .assemblyDone s = .next { s with mode := { s.mode with lastCtrl := 6, refused := true } }))

/-! ### Modes and power (16) -/

/-- Modes (R437 to R439, R444 to R449): QUIESCE drains from Service, Degraded service and Ceremony; RESUME returns to the mode that it
was entered from; Idle is entered when its conditions hold, in the beat after a command or after IDLE_DELAY, and left 125 beats after
a wake; Ceremony is entered, left and timed out; SOFT_RESET is a device reset from a drained Quiesce; in Lockdown and where a bit is
refused LAST_CTRL and REFUSED say so. -/
def Obligations.ModeRows : Prop :=
  (∀ s : State, s.serves = true → ∃ t, exec .quiesce s = .next t ∧ t.mode.mode = mQuiesce ∧ t.mode.quiesceKind = 1
    ∧ t.mode.cameFrom = s.mode.mode ∧ t.mode.drained = false ∧ t.mode.lastCtrl = 0 ∧ t.mode.refused = false)
  ∧ (∀ (s : State) (j : Job) (n : Nat), s.serves = true → s.job? n = some j → n < 4096 → j.phase ≤ 4 →
      ∃ t k, exec .quiesce s = .next t ∧ t.job? n = some k ∧ k.status = some 0x47)
  ∧ (∀ s : State, s.mode.mode = mQuiesce → s.mode.drained = true → s.mode.quiesceKind = 1 → s.mode.pwrFail = false →
      s.mode.studyPending = false → s.classOf 0xA0 ≤ 2 → ∃ t, exec .resume s = .next t ∧ t.mode.quiesceKind = 0 ∧ t.mode.lastCtrl = 1
        ∧ t.mode.mode = (if s.mode.cameFrom = mCeremony ∧ s.mode.ceremonyOver = false then mCeremony else s.serviceMode))
  ∧ (∀ s : State, s.mode.mode = mQuiesce → s.mode.drained = false → s.jobs.slots = [] → s.mode.studyPending = false →
      exec .drained s = .next { s with mode := { s.mode with drained := true } })
  ∧ (∀ s : State, s.mode.mode = mQuiesce → s.mode.drained = false → s.jobs.slots = [] → s.mode.studyPending = true →
      s.mode.quiesceKind = 1 → ∃ t, exec .drained s = .next t ∧ t.mode.mode = mStudy ∧ t.mode.studyPending = false
        ∧ t.entropy.state = 4 ∧ t.entropy.studyState = 1 ∧ t.entropy.rootUp = false)
  ∧ (∀ s : State, s.mode.mode = mQuiesce → s.mode.drained = true → s.sec.lcOrder = none → ∃ t, exec .softReset s = .next t ∧ t.mode.mode = mReset
      ∧ t.mode.resetCause = 2 ∧ t.beat = 0 ∧ t.jobs.slots = [] ∧ t.vault.keys = [] ∧ t.domains = s.domains ∧ t.ao.log = s.ao.log)
  ∧ (∀ s : State, s.idleReady = true →
      exec .idle s = .next { s with mode := { s.mode with nextMode := mIdle, lastCtrl := 2, refused := false } }
      ∧ (∀ b, s.mode.idleFrom = some b → b + msBeats (s.cfg 0x1102 2) ≤ s.beat → ∃ t, exec .idleDelayExpiry s = .next t
        ∧ t.mode.mode = mIdle ∧ t.mode.cameFrom = s.mode.mode))
  ∧ (∀ s : State, s.mode.nextMode = mIdle → (s.mode.mode = mService ∨ s.mode.mode = mDegraded) → s.enterNext.mode.mode = mIdle
      ∧ s.enterNext.mode.cameFrom = s.mode.mode ∧ s.enterNext.mode.idleEntries = bump 32 s.mode.idleEntries 1)
  ∧ (∀ s : State, s.mode.mode = mIdle → s.mode.wakeBeat = none →
      exec .wake s = .next { s with mode := { s.mode with wakeBeat := some s.beat } })
  ∧ (∀ (s : State) (b : Nat), s.mode.mode = mIdle → s.mode.wakeBeat = some b → b + 125 ≤ s.beat → s.mode.held = [] →
      s.mode.cameFrom ≠ mIdle → s.classOf 0xA0 ≤ 2 → ∃ t, exec .modeRevert s = .next t ∧ t.mode.mode = s.mode.cameFrom ∧ t.mode.wakeBeat = none)
  ∧ (∀ s : State, s.mode.mode = mService ∨ s.mode.mode = mDegraded → ∃ t, exec .ceremony s = .next t ∧ t.mode.mode = mCeremony
      ∧ t.mode.ceremonyBeat = s.beat ∧ t.mode.lastCtrl = 3 ∧ t.mode.refused = false)
  ∧ (∀ s : State, s.mode.mode = mCeremony → (∃ t, exec .ceremonyExit s = .next t ∧ t.mode.mode = s.serviceMode ∧ t.mode.lastCtrl = 4)
      ∧ (s.mode.ceremonyBeat + secBeats (s.cfg 0x1102 5) ≤ s.beat → ∃ t, exec .ceremonyTimeout s = .next t
        ∧ t.mode.mode = s.serviceMode))
  ∧ (∀ (s : State) (c : Instr) (b : Nat), (c, b) ∈ [(Instr.quiesce, 0), (.resume, 1), (.idle, 2), (.ceremony, 3), (.ceremonyExit, 4),
        (.windowClose, 5), (.assemblyDone, 6), (.softReset, 7)] →
      (s.mode.mode = mLockdown → exec c s = .next { s with mode := { s.mode with lastCtrl := b, refused := true } })
      ∧ (s.mode.mode = mDormant → NoEffect c s)
      ∧ (s.mode.mode = mIdle → ∃ t, exec c s = .next t ∧ t.mode.held = insertNat s.mode.held b ∧ t.mode.mode = mIdle
        ∧ t.mode.wakeBeat = some (s.mode.wakeBeat.getD s.beat)))

/-- Power (R317, R436, R437, R448, R481): PWR_FAIL_N drains a serving device, in which waiting jobs of the round stay in phase 3, and
stops a start-up; when it is released a held slot write starts; the removal of the core rails enters Dormant with the erase map
written and ALARM_OUT and WAKE# released; PERST# is a device reset, and in Lockdown only retrains the link. -/
def Obligations.PowerRows : Prop :=
  (∀ s : State, (s.serves = true ∨ s.mode.mode = mIdle) → ∃ t, exec .pwrFailAssert s = .next t ∧ t.mode.mode = mQuiesce
    ∧ t.mode.quiesceKind = 3 ∧ t.mode.pwrFail = true
    ∧ ∀ (n : Nat) (j : Job), n < 4096 → s.job? n = some j → j.phase = 3 → (j.hdr.opcode = 0x1302 ∨ j.hdr.opcode = 0x1303) →
        t.job? n = some j)
  ∧ (∀ s : State, ((1 ≤ s.mode.mode ∧ s.mode.mode ≤ 4) ∨ s.mode.mode = mStudy) →
      exec .pwrFailAssert s = .next { s with mode := { s.mode with pwrFail := true, stopped := true } })
  ∧ (∀ s : State, exec .pwrFailDeassert s = .next
      { s with mode := { s.mode with pwrFail := false },
               vault := { s.vault with writing := s.vault.writing.map (fun w => { w with started := true }) } })
  ∧ (∀ s : State, s.mode.mode ≠ mDormant → ∃ t, exec .coreRailsRemoved s = .next t ∧ t.mode.mode = mDormant ∧ t.jobs.slots = []
      ∧ t.ao.eraseMap = s.eraseMapNow ∧ t.link.up = false ∧ t.ao.rootSeed = s.ao.rootSeed
      ∧ t.fault.alarmOut = false ∧ t.port.wakeOut = false ∧ ∀ w, s.vault.writing = some w → w.started = true → t.vault.writing = none)
  ∧ (∀ s : State, s.mode.mode ≠ mDormant → s.mode.mode ≠ mLockdown → s.sec.lcOrder = none →
      ∃ t, exec .perstAssert s = .next t ∧ t.mode.mode = mReset
      ∧ t.mode.resetCause = 1 ∧ t.link.perst = true ∧ t.link.up = false ∧ t.jobs.slots = [] ∧ t.domains = s.domains
      ∧ t.link.perstCount = bump 32 s.link.perstCount 1)
  ∧ (∀ s : State, s.mode.mode = mLockdown → ∃ t, exec .perstAssert s = .next t ∧ t.mode = s.mode ∧ t.link.up = false
      ∧ t.link.perst = true ∧ t.jobs = s.jobs)

/-! ### Links (18) -/

/-- The PCI Express link and its functions (R474, R476, R477, R480 to R482): the link comes up with its speed and width; a hot reset
disables every queue and clears configuration space; a function-level reset disables the function's queues and clears its registers;
virtual functions that disappear are reset; bus mastering, power state, the largest read and the
completion timeout follow configuration, which is not taken before step 6 of the start has ended (R441), and error counts follow their
events. -/
def Obligations.PcieFunctions : Prop :=
  (∀ (s : State) (speed : Fin 5) (width : Fin 4), s.mode.mode ≠ mDormant → exec (.pcieLinkUp speed width) s = .next { s with
    link := { s.link with up := true, perst := false, speed := speed.val + 1, width := 2 ^ width.val } })
  ∧ (∀ (s : State) (q : Nat), s.link.up = true → (s.queue q).state ≠ .disabled → ∃ t, exec (.hotReset false) s = .next t
      ∧ t.link.up = false ∧ t.link.downs = s.link.downs ∧ (t.queue q).state = .disabled ∧ t.port.vfEnable = false
      ∧ (∀ f, (t.func f).bme = false ∧ (t.func f).vecMask = 0xFF) ∧ t.mode = s.mode)
  ∧ (∀ s : State, s.link.up = true → ∃ t, exec (.hotReset true) s = .next t ∧ t.link.up = false
      ∧ t.link.downs = bump 32 s.link.downs 1)
  ∧ (∀ (s : State) (fn : Fin 256) (q : Nat), s.takesConfig = true → (s.queue q).state ≠ .disabled → s.qcfg q 1 = fn.val →
      ∃ t, exec (.functionLevelReset fn) s = .next t ∧ (t.queue q).state = .disabled ∧ (t.queue q).silent = true
        ∧ t.func fn.val = {} ∧ t.box fn.val = {} ∧ t.link = s.link)
  ∧ (∀ (s : State) (enable : Bool) (num : Fin 256), s.takesConfig = true →
      ∃ t, exec (.vfEnableChange enable num) s = .next t ∧ t.port.vfEnable = enable
        ∧ t.port.numVfs = (if s.port.vfEnable = true ∧ enable = true then s.port.numVfs else num.val)
        ∧ ∀ f, 1 ≤ f → f ≤ s.port.visible → enable = false → t.func f = {} ∧ t.box f = {})
  ∧ (∀ (s : State) (fn : Fin 256) (d3hot bme : Bool), s.takesConfig = true → ∃ t, exec (.powerStateChange fn d3hot bme) s = .next t
      ∧ (t.func fn.val).d3hot = d3hot ∧ (t.func fn.val).bme = bme ∧ (t.func fn.val).vecMask = (s.func fn.val).vecMask
      ∧ t.port.wakeOut = (if fn.val = 0 ∧ d3hot = false then false else s.port.wakeOut))
  ∧ (∀ (s : State) (fn : Fin 256), s.takesConfig = false → NoEffect (.functionLevelReset fn) s
      ∧ (∀ e n, NoEffect (.vfEnableChange e n) s) ∧ (∀ d b, NoEffect (.powerStateChange fn d b) s)
      ∧ ∀ o b, NoEffect (.registerWrite fn .control o b) s)
  ∧ (∀ s : State, s.takesConfig = (s.link.up && (decide (6 < s.mode.step) || s.mode.mode == mLockdown)))
  ∧ (∀ (s : State) (fn : Fin 256) (v : Nat), s.takesConfig = true → v < 65536 →
      (∃ t, exec (.registerWrite fn .control 8 (leBytes 2 v)) s = .next t ∧ (t.func fn.val).maxRead = 128 * 2 ^ min 5 (v / 4096 % 8)
        ∧ ∀ g, g ≠ fn.val → t.func g = s.func g)
      ∧ ∃ t, exec (.registerWrite fn .control 0x28 (leBytes 2 v)) s = .next t ∧ (t.func fn.val).timeoutCode = v % 16
        ∧ (t.func fn.val).maxRead = (s.func fn.val).maxRead)
  ∧ (∀ (s : State) (fn : Fin 256), s.link.up = true → exec (.barAccessUnmapped fn) s = .next (s.send (.pcie 1 [u8 fn.val])))
  ∧ (∀ (s : State) (kind : Fin 3), s.link.up = true → ∃ t, exec (.aerErrorReceived kind) s = .next t
      ∧ countOf t.port.aer kind.val = bump 32 (countOf s.port.aer kind.val) 1
      ∧ (kind.val = 2 → t.fault = s.fault)
      ∧ (kind.val < 2 → s.mode.mode ≠ mDormant → countOf t.fault.counts 0xA4 = bump 32 (countOf s.fault.counts 0xA4) 1))

/-- PTM, DOE, SPDM and IDE (R484 to R488): a PTM dialogue is opened when due and closed with a new pair or a failure; a discovery
object is answered and an SPDM object waits; a request in order is answered and moves the negotiation, one out of order counts as
an SPDM violation; an established session without heartbeat ends; IDE streams are programmed, secured and stopped, and a TLP that
fails its check makes its stream insecure. -/
def Obligations.SecureLinks : Prop :=
  (∀ s : State, s.link.up = true → s.port.ptmEnable = true → s.port.ptmAsked = none →
    s.port.ptmLastAsk + msBeats (s.cfg 0x9001 4) ≤ s.beat → ∃ t, exec .ptmRequest s = .next t ∧ t.port.ptmAsked = some s.beat
      ∧ t.port.ptmLastAsk = s.beat ∧ t.rings.sent = s.rings.sent ++ [.pcie 2 []])
  ∧ (∀ (s : State) (b : Nat) (time : BitVec 64), s.port.ptmAsked = some b →
      (∃ t, exec (.ptmResponse time) s = .next t ∧ t.port.ptmAsked = none ∧ t.port.ptmPrev = s.port.ptmLast
        ∧ t.port.ptmLast = leBytes 8 time.toNat ++ leBytes 8 s.beat ∧ t.port.ptmUpdates = bump 32 s.port.ptmUpdates 1)
      ∧ exec .ptmDialogueTimeout s =
        .next { s with port := { s.port with ptmAsked := none, ptmFails := bump 32 s.port.ptmFails 1 } })
  ∧ (∀ (s : State) (o : Bytes), s.takesConfig = true → 8 ≤ o.length → o.length ≤ 65536 → field o 0 2 = 1 →
      (doeType o = 0 → exec (.doeObject o) s = .next (s.send (.doe 0 (doeDiscovery o))))
      ∧ ((doeType o = 1 ∨ doeType o = 2) → s.port.doe = [] →
          exec (.doeObject o) s = .next { s with port := { s.port with doe := o } }))
  ∧ (∀ s : State, 3 ≤ s.mode.mode → s.mode.mode ≠ mLockdown → s.port.doe ≠ [] → doeType s.port.doe = 1 →
      s.classOf 0xA2 ≤ 3 → s.classOf 0xA3 ≤ 3 → s.classOf 0xA6 ≤ 3 →
      let msg := s.port.doe.drop 8
      ((s.spdm 0).inOrder none msg = true → byteAt msg 1 = 0x84 → ∃ t, exec (.spdmRequest (0, false)) s = .next t ∧ t.port.doe = []
        ∧ (Config.primB .spdm [[0#8, u8 (s.spdm 0).version], msg] = true → t.spdm 0 = { stage := 1 }
          ∧ t.rings.sent.length = s.rings.sent.length + 1 ∧ t.port.spdmErrors = s.port.spdmErrors)
        ∧ (Config.primB .spdm [[0#8, u8 (s.spdm 0).version], msg] = false → t.spdm 0 = s.spdm 0
          ∧ t.port.spdmErrors = bump 32 s.port.spdmErrors 1))
      ∧ ((s.spdm 0).inOrder none msg = false → s.spdmHeld 0 false msg = false → ∃ t, exec (.spdmRequest (0, false)) s = .next t ∧ t.port.doe = []
          ∧ t.port.spdmErrors = bump 32 s.port.spdmErrors 1 ∧ t.spdm 0 = s.spdm 0))
  ∧ (∀ (s : State) (tr : Fin 2) (k : BitVec 16) (y : SpdmSession), tget (s.spdm tr.val).sessions k.toNat = some y → y.formed = true →
      y.lastBeat + secBeats Config.heartbeat ≤ s.beat → ∃ t, exec (.spdmHeartbeatTimeout tr k) s = .next t
        ∧ (0 < Config.heartbeat → tget (t.spdm tr.val).sessions k.toNat = none) ∧ (t.spdm tr.val).stage = (s.spdm tr.val).stage)
  ∧ (∀ (s : State) (n : Fin 9) (first last : Fin 256), s.link.up = true → (s.spdm 0).sessions.any (fun x => x.2.formed) = true →
      (tget s.port.ide n.val = none → ∃ t x, exec (.ideKm n 0 first last) s = .next t ∧ tget t.port.ide n.val = some x
        ∧ x.state = 1 ∧ (n.val ≠ 0 → x.first = first.val ∧ x.last = last.val))
      ∧ (∀ x, tget s.port.ide n.val = some x →
          (∃ t, exec (.ideKm n 1 first last) s = .next t ∧ tget t.port.ide n.val = some { x with state := 2 })
          ∧ ∃ t, exec (.ideKm n 2 first last) s = .next t ∧ tget t.port.ide n.val = some { x with state := 1 }))
  ∧ (∀ (s : State) (n : Fin 9) (x : IdeStream), tget s.port.ide n.val = some x → x.state = 2 → s.link.up = true →
      ∃ t, exec (.ideTlpCheck n) s = .next t ∧ tget t.port.ide n.val = some { x with state := 1 }
        ∧ t.port.ideFails = bump 32 s.port.ideFails 1)

/-! ### The management port and the dictionary (17, 18) -/

/-- I3C (R489): the common command codes that set what the port holds, and those that return it; without a dynamic address a directed
code has no effect; ENTDAA gives an address to a port that has none. MCTP (R490 to R492): a packet that ends a message delivers it
by its type; one whose PEC or form fails is discarded as a violation; the bus owner takes the packets that wait in their order
with their PEC; each control command answers the oldest control message that carries it. -/
def Obligations.ManagementPort : Prop :=
  ((∀ (s : State) (a : Fin 128), 2 ≤ s.mode.mode → s.port.i3cAddr = 0 → ∃ t, exec (.entdaa a) s = .next t ∧ t.port.i3cAddr = a.val
    ∧ t.rings.sent = s.rings.sent ++ [.ccc (beBytes 6 i3cPid ++ [0x06#8, 0x00#8])])
  ∧ (∀ s : State, 2 ≤ s.mode.mode → exec .rstdaa s = .next { s with port := { s.port with i3cAddr := 0 } })
  ∧ (∀ s : State, 2 ≤ s.mode.mode → s.port.i3cAddr ≠ 0 →
      (∀ a : Fin 128, exec (.setnewda a) s = .next { s with port := { s.port with i3cAddr := a.val } })
      ∧ (∀ c b, (c, b) ∈ [(Instr.getpid, beBytes 6 i3cPid), (.getbcr, [0x06#8]), (.getdcr, [0x00#8]),
            (.getstatus, beBytes 2 (Config.i3cStatus (!s.port.mctpOut.isEmpty)).toNat), (.getmwl, beBytes 2 s.port.mwl),
            (.getmrl, beBytes 2 s.port.mrl)] → exec c s = .next (s.send (.ccc b)))
      ∧ (∀ v : BitVec 16, exec (.setmwl v) s = .next { s with port := { s.port with mwl := min v.toNat 68 } }
          ∧ exec (.setmrl v) s = .next { s with port := { s.port with mrl := min v.toNat 68 } })
      ∧ (∀ e : BitVec 8, (∃ t, exec (.enec e) s = .next t ∧ ∀ n, bit t.port.i3cEvents n = (bit s.port.i3cEvents n || e.getLsbD n))
          ∧ ∃ t, exec (.disec e) s = .next t ∧ ∀ n, bit t.port.i3cEvents n = (bit s.port.i3cEvents n && !e.getLsbD n)))
  ∧ (∀ (s : State) (c : Instr), c ∈ [Instr.getpid, .getbcr, .getdcr, .getstatus, .getmwl, .getmrl] → s.port.i3cAddr = 0 → NoEffect c s))
  ∧ ((∀ (s : State) (p : Bytes), s.addressed = true → s.mode.mode ≠ mIdle →
    (s.packetOk p = true → s.port.mctp = none → byteAt p 3 / 64 = 3 → byteAt p 4 = 5 → exec (.mctpPacket p true) s =
      .next { s with port := { s.port with mctp := none, spdmIn := s.port.spdmIn ++ [(byteAt p 2, byteAt p 3 % 8, p.drop 4)] } })
    ∧ (s.packetOk p = true → s.port.mctp = none → byteAt p 3 / 64 = 2 → exec (.mctpPacket p true) s = .next { s with
        port := { s.port with mctp := some (byteAt p 2, byteAt p 3 % 16, (bits (byteAt p 3) 5 4 + 1) % 4, p.drop 4) } })
    ∧ (∀ ok, (ok = false ∨ s.packetOk p = false) → ∃ t, exec (.mctpPacket p ok) s = .next t
        ∧ t.port.mctpErrors = bump 32 s.port.mctpErrors 1 ∧ t.port.mctp = s.port.mctp ∧ t.port.spdmIn = s.port.spdmIn))
  ∧ (∀ (s : State) (p : Bytes) (l : List Bytes), s.addressed = true → s.port.mctpOut = p :: l →
      ∃ t rest, exec .ibiPrivateRead s = .next t ∧ t.port.mctpOut = l
        ∧ t.rings.sent = s.rings.sent ++ .mctp (p ++ primOut .pec [p] 1) :: rest)
  ∧ ∀ (s : State) (src tag : Nat) (b : Bytes) (l : List (Nat × Nat × Bytes)), s.port.control = (src, tag, b) :: l → 2 ≤ s.mode.mode →
    s.mode.mode ≠ mIdle →
    let head := fun (code : Nat) => [0#8, u8 (byteAt b 1 % 128), u8 code]
    let left := { s with port := { s.port with control := l } }
    (byteAt b 2 = 1 → 5 ≤ b.length → byteAt b 3 ≤ 1 → 8 ≤ byteAt b 4 → byteAt b 4 ≤ 254 →
      ∃ t, exec .setEndpointId s = .next t ∧ t.port.eid = byteAt b 4 ∧ t.port.control = l)
    ∧ (byteAt b 2 = 1 → 5 ≤ b.length → (1 < byteAt b 3 ∨ byteAt b 4 < 8 ∨ 254 < byteAt b 4) →
        exec .setEndpointId s = .next (left.sendMctp src tag (head 1 ++ [2#8, 0#8, u8 s.port.eid, 0#8])))
    ∧ (byteAt b 2 = 2 → exec .getEndpointId s = .next (left.sendMctp src tag (head 2 ++ [0#8, u8 s.port.eid, 0#8, 0#8])))
    ∧ (byteAt b 2 = 4 → ∃ data, exec .getMctpVersionSupport s = .next (left.sendMctp src tag (head 4 ++ 0#8 :: data)))
    ∧ (byteAt b 2 = 5 →
        exec .getMessageTypeSupport s = .next (left.sendMctp src tag (head 5 ++ [0#8, 4#8, 0x00#8, 0x05#8, 0x06#8, 0x7E#8])))
    ∧ (byteAt b 2 = 6 → 4 ≤ b.length → byteAt b 3 = 0 → ∃ data, exec .getVendorDefinedMessageSupport s =
        .next (left.sendMctp src tag (head 6 ++ [0#8, 0xFF#8, 0#8, 0x1F#8, 0x4C#8] ++ data))))

/-- Registers of the window (R61, R74 to R76, R449, R461, R463, R473, R484): ones written to the interrupt status clear its causes; a
byte of the mailbox lands in its buffer; GO captures the request; the MSI-X table holds what is written; PTM Enable follows its bit; a
write that no function's window reaches has no effect. -/
def Obligations.RegisterWrites : Prop :=
  (∀ (s : State) (fn : Fin 256), s.mainOn = true → s.mode.mode ≠ mReset → s.mode.mode ≠ mIdle → s.reachable fn.val = true →
    (∀ v : Byte, ∃ t, exec (.registerWrite fn .window (if fn.val = 0 then 0x8000 else 0x3000) [v]) s = .next t
      ∧ (t.func fn.val).status = clearBits (s.func fn.val).status (v.toNat % 16) ∧ (t.func fn.val).haltMap = (s.func fn.val).haltMap
      ∧ t.rings.queues = s.rings.queues)
    ∧ (∀ (o : Nat) (v : Byte), o < 0x400 → ∃ t, exec (.registerWrite fn .window ((if fn.val = 0 then 0x1000 else 0) + o) [v]) s = .next t
      ∧ (t.box fn.val).reqData = (s.box fn.val).reqData.set o v ∧ (t.box fn.val).go = (s.box fn.val).go)
    ∧ ((s.box fn.val).go = false →
      ∃ t, exec (.registerWrite fn .window ((if fn.val = 0 then 0x1000 else 0) + 0x820) [1#8]) s = .next t ∧ (t.box fn.val).go = true
        ∧ (t.box fn.val).rspValid = false ∧ (t.box fn.val).captured = (s.box fn.val).reqHdr ++ (s.box fn.val).reqData)
    ∧ (∀ (i : Nat) (data : Bytes), i < 32 → i % 4 ≠ 3 → data.length = 4 → ∃ t, exec (.registerWrite fn .msix (4 * i) data) s = .next t
      ∧ countOf (t.func fn.val).msix i = leNat data ∧ (t.func fn.val).vecMask = (s.func fn.val).vecMask))
  ∧ (∀ (s : State) (o : Nat) (data : Bytes), s.takesConfig = true → exec (.registerWrite 0 .ptm o data) s =
      .next { s with port := { s.port with ptmEnable := bit (leNat data) 0 } })
  ∧ (∀ (s : State) (fn : Fin 256) (o : Nat) (data : Bytes), s.reachable fn.val = false → NoEffect (.registerWrite fn .window o data) s)

/-- Dictionary requests (R454, R457 to R463, R471): a request in order on a path that is served is answered and counted, an error is kept
as the last; a read gives the value, a write of an entry whose checks pass sets it at
the end of the beat, a lock makes it unwritable until reset, a
description has 48 bytes; a malformed request is answered MALFORMED. -/
def Obligations.DictionaryRequests : Prop :=
  ∀ (s : State) (fn : Fin 256) (b : Bytes), let p := DictPath.mailbox fn
    let r := parseRequest b
    s.waiting p = some b → s.pathServed p = true → s.inTurn p = true → s.classOf 0xA2 = 0 → s.bucket fn.val < s.violationRate fn.val →
    (∀ c op, (c, op) ∈ [(Instr.write p, 2), (.lock p, 3), (.describe p, 4), (.read (p, false), 1)] → r.op = op →
      (r.malformed = true ∨ s.targetOk p r.target = false → ∃ t, exec c s = .next t ∧ (t.box fn.val).go = false
        ∧ (t.box fn.val).rspValid = true ∧ (t.box fn.val).rspHdr = r.response 9 0 []
        ∧ t.dict.requests = bump 64 s.dict.requests 1 ∧ t.dict.errors = bump 32 s.dict.errors 1 ∧ t.settings = s.settings)
      ∧ (r.malformed = false → r.target = 0xFF → entryAt r.index r.sub = none → ¬(0xF000 ≤ r.index ∧ r.index ≤ 0xF009) →
        ∃ t, exec c s = .next t ∧ (t.box fn.val).rspHdr = r.response 1 0 [] ∧ (t.box fn.val).go = false
          ∧ t.dict.errors = bump 32 s.dict.errors 1))
    ∧ (∀ e, r.malformed = false → r.target = 0xFF → entryAt r.index r.sub = some e →
      (r.op = 1 → s.mayRead fn.val r.index r.sub e = true → r.index ≠ 0x5030 →
        r.offset < (s.value fn.val r.index r.sub e).length → ∃ t, exec (.read (p, false)) s = .next t
          ∧ (t.box fn.val).rspHdr ++ (t.box fn.val).rspData.take
              (slice (s.value fn.val r.index r.sub e) r.offset (if r.len = 0 then 1024 else r.len)).length
            = r.response 0 (s.value fn.val r.index r.sub e).length
                (slice (s.value fn.val r.index r.sub e) r.offset (if r.len = 0 then 1024 else r.len))
          ∧ t.settings = s.settings ∧ t.dict.errors = s.dict.errors ∧ t.dict.requests = bump 64 s.dict.requests 1)
      ∧ (r.op = 4 → ∃ t, exec (.describe p) s = .next t ∧ t.settings = s.settings
          ∧ (t.box fn.val).rspData.take (s.descriptor fn.val r.index r.sub e).length = s.descriptor fn.val r.index r.sub e)
      ∧ (r.op = 3 → s.mayWrite fn.val r.index e = true → e.acc = .rwl → ∃ t, exec (.lock p) s = .next t
          ∧ entryKey r.index r.sub ∈ t.dict.locked ∧ t.settings = s.settings)
      ∧ (r.op = 2 → s.mayWrite fn.val r.index e = true → e.acc = .rw ∨ e.acc = .rwl →
          (e.acc = .rwl → s.dict.locked.contains (entryKey r.index r.sub) = false) →
          let w : EntryWrite := { idx := r.index, sub := r.sub, value := r.data.take r.len }
          let u := s.landWrites
          (writeResult u (u.putAll fn.val [w]) w = 0 → ∃ t, exec (.write p) s = .next t
            ∧ t.dict.late = s.dict.late ++ [(fn.val, w)] ∧ t.settings = s.settings ∧ (t.box fn.val).rspValid = true)
          ∧ (r.index = 0x5000 → ∀ x : State, (x.landWrite (fn.val, w)).cfgI r.index r.sub = e.ty.decode w.value)
          ∧ (writeResult u (u.putAll fn.val [w]) w ≠ 0 → ∃ t, exec (.write p) s = .next t ∧ t.settings = s.settings
            ∧ (t.box fn.val).rspHdr = r.response (writeResult u (u.putAll fn.val [w]) w) 0 [])))

/-- Monitors, measurements, life records and the calendar (R344, R354, R466 to R472): a clear empties the monitors it names at the
start of its beat, so that a sample of the beat stays; MEAS_EXTEND extends slots 2 to 7; a sample is counted with its extremes; the older copy of the life records is written, but
not after PWR_FAIL_N (R317);
a second of a valid calendar counts. -/
def Obligations.MonitorsAndCalendar : Prop :=
  (∀ (s : State) (v : BitVec 32) (l : List (Nat × Nat)), s.writable = true → monitorsNamed v.toNat = some l →
    ∃ t, exec (.monClear 0 v) s = .next t
      ∧ ∀ m ∈ l, t.monitor (entryKey m.1 m.2)
          = { clearBeat := s.beat, beat := s.beat, today := s.samplesNow (entryKey m.1 m.2) })
  ∧ (∀ (s : State) (v : Bytes), v.length = 49 → 2 ≤ s.mode.mode → s.mode.mode ≠ mLockdown →
      (2 ≤ byteAt v 0 → byteAt v 0 ≤ 7 →
        let m := sha3_384 ((tget s.measure (byteAt v 0)).getD (zeros 48) ++ v.drop 1)
        exec (.measExtend v) s = .next { s with measure := tput s.measure (byteAt v 0) m })
      ∧ ((byteAt v 0 < 2 ∨ 7 < byteAt v 0) → NoEffect (.measExtend v) s))
  ∧ (∀ (s : State) (which : Fin 5) (a b : Int), s.mode.mode ≠ mDormant →
      let key := entryKey 0x7030 (which.val + 1)
      let v := if which.val = 0 then max a b else a
      let old := (s.monitor key).settled
      ∃ t, exec (.monitorSample which a b) s = .next t ∧ (t.monitor key).settled.samples = old.samples + 1
        ∧ (t.monitor key).settled.min = (if old.samples = 0 then v else min old.min v)
        ∧ (t.monitor key).settled.max = (if old.samples = 0 then v else max old.max v))
  ∧ (∀ s : State, s.mode.pwrFail = true → NoEffect .lifeRecordWrite s)
  ∧ (∀ s : State, s.mode.mode ≠ mDormant → s.mode.pwrFail = false → ∃ t, exec .lifeRecordWrite s = .next t
      ∧ t.dict.life.lifeWrites = s.dict.life.lifeWrites + 1
      ∧ (s.dict.copyA.2.1 = true → s.dict.copyB.2.1 = true → s.dict.copyB.1 < s.dict.copyA.1 →
          t.dict.copyA = s.dict.copyA ∧ t.dict.copyB = (s.dict.copyA.1 + 1, true, t.dict.life)))
  ∧ (∀ s : State, ∃ t, exec .calendarSecond s = .next t
      ∧ t.dict.calSeconds = (if s.dict.calValid then bump 48 s.dict.calSeconds 1 else s.dict.calSeconds)
      ∧ t.dict.calValid = s.dict.calValid
      ∧ t.dict.life.seconds = (if s.mode.mode = mDormant then s.dict.life.seconds else bump 64 s.dict.life.seconds 1))

/-! ### The Herd link (18) -/

/-- Herd ports (R493, R494): a trained port is up and sends NEIGHBOUR with DEVICE_ID and position; loss of lock takes it down; a port
is used only where its neighbour is the member that the table puts there, and otherwise raises HERD_AUTH_FAIL once per training.
Herd frames (R496 to R498, R501), every type but NEIGHBOUR: a malformed frame, and one for another member without hops left, raise
HERD_FRAME_FAULT and, short of a Lockdown, change nothing of the link; one for another member is forwarded unopened with HOPS
reduced by one; in a mode that does not serve the link no frame is answered; a sealed frame that fails is counted, and the
sixteenth in a row closes the session. -/
def Obligations.HerdPortsAndFrames : Prop :=
  ((∀ (s : State) (port : Fin 2), s.mode.mode ≠ mDormant → (s.herdPort port.val).up = false →
    ∃ t, exec (.portTrained port) s = .next t
      ∧ t.herdPort port.val = { up := true, trainings := bump 32 (s.herdPort port.val).trainings 1 }
      ∧ ∀ me, s.herdPos = some me → t.rings.sent = s.rings.sent ++
          [.herd port.val 1 (frameHeader 1 me 0xFF 7 2 33 s.herd.epoch 0 0 1 0 ++ deviceIdBytes ++ [u8 me])])
  ∧ (∀ (s : State) (port : Fin 2), (s.herdPort port.val).up = true →
      exec (.portLockLoss port) s = .next (s.setHerdPort port.val { trainings := (s.herdPort port.val).trainings }))
  ∧ (∀ (s : State) (port : Fin 2) (b : Bytes) (me : Nat), s.herdPos = some me → (s.herdPort port.val).up = true → byteAt b 1 = 1 →
      s.herdDead = false → frameOk b = true → field b 6 2 = 33 →
      let placed := 2 ≤ s.herd.members.length ∧ byteAt b 64 = s.expectedAt me port.val
        ∧ s.herd.members[byteAt b 64]? = some (slice b 32 32)
      (placed → exec (.neighbour port b) s =
        .next (s.wake.setHerdPort port.val { s.herdPort port.val with neighbour := byteAt b 64, usable := true }))
      ∧ (¬placed → ∃ t, exec (.neighbour port b) s = .next t ∧ (t.herdPort port.val).usable = false
          ∧ (t.herdPort port.val).barred = true
          ∧ countOf t.fault.counts 0xA8 = (if (s.herdPort port.val).barred then countOf s.fault.counts 0xA8
              else bump 32 (countOf s.fault.counts 0xA8) 1))))
  ∧ (∀ (s : State) (port : Fin 2) (b : Bytes) (typ : Nat) (c : Instr) (me : Nat), BringsFrame port b typ c → s.herdPos = some me →
    (s.herdPort port.val).up = true → (s.herdPort port.val).usable = true → byteAt b 1 = typ → s.herdDead = false →
    let mild := s.classOf 0xA9 ≤ 3 ∧ s.classOf 0xA2 ≤ 3 ∧ s.classOf 0xA3 ≤ 3
    let faulted := fun (t : State) => countOf t.fault.counts 0xA9 = bump 32 (countOf s.fault.counts 0xA9) 1
    ((frameOk b = false ∨ (byteAt b 3 ≠ me ∧ byteAt b 4 = 0)) → ∃ t, exec c s = .next t ∧ faulted t
      ∧ (mild → t.herd = s.herd))
    ∧ (frameOk b = true → byteAt b 3 ≠ me → byteAt b 4 ≠ 0 → (s.herdPort (1 - port.val)).up = true →
        (s.herdPort (1 - port.val)).usable = true →
        exec c s = .next (s.wake.send (.herd (1 - port.val) typ (b.set 4 (u8 (byteAt b 4 - 1))))))
    ∧ (frameOk b = true → byteAt b 3 = me → byteAt b 2 ≠ me → byteAt b 2 < s.herd.members.length → s.herdServes = false → NoEffect c s)
    ∧ (∀ p, FrameFor s port.val typ p b → 0x10 ≤ typ →
        ((s.peer p).up = false → exec c s = .next s.wake)
        ∧ ((s.peer p).up = true → ∃ t, exec c s = .next t ∧ (s.frameAccepted (s.peer p) b = false →
            faulted t ∧ (t.peer p).faults = bump 32 (s.peer p).faults 1
            ∧ (t.peer p).up = decide ((s.peer p).failRun + 1 < 16)
            ∧ ((s.peer p).failRun + 1 < 16 → (t.peer p).failRun = (s.peer p).failRun + 1
              ∧ (mild → (t.peer p).keyRx = (s.peer p).keyRx))
            ∧ (16 ≤ (s.peer p).failRun + 1 → (t.peer p).keyRx = [] ∧ (t.peer p).keyTx = [])))))

/-- Herd sessions (R497, R499, R500): a HELLO that passes is answered, and its session keys are KMAC256 of both shared secrets over TH2
and the positions; HELLO_REPLY and FINISH that pass form the session on each side; any failed check raises HERD_AUTH_FAIL; CLOSE
closes. -/
def Obligations.HerdSessions : Prop :=
  ∀ (s : State) (port : Fin 2) (b : Bytes) (p me : Nat), s.herdPos = some me →
    let x := s.peer p
    let okm := fun (ssPq ssCl th2 : Bytes) => kmac256 (ssPq ++ ssCl) (th2 ++ [u8 (min me p), u8 (max me p)]) 72 "QHRD1".toList
    let lowKeys := fun (k : Bytes) => (slice k 0 32, slice k 32 32, slice k 64 4, slice k 68 4)
    let highKeys := fun (k : Bytes) => (slice k 32 32, slice k 0 32, slice k 68 4, slice k 64 4)
    TakesStep (.hello (port, false) b) s port.val 2 p b (fun t m => p < me → s.canShake = true →
      let fine := m.length = 4345 ∧ s.isMember p m = true ∧ ekOk (slice m 32 1568) = true
      let n := (s.serve 260 120).1
      let ek := slice m 32 1568
      let seed := slice n 32 32
      let ssCl := xAgree 4 (hsX n 32) (slice m 1600 56)
      let body := n.take 32 ++ mlkemCipher 3 ek seed ++ xPublic 4 (hsX n 32) ++ idPkPq ++ idPkCl
      let th1 := sha3_512 (s.herd.digest ++ m ++ body)
      (¬fine ∨ allZero ssCl = true → AuthFailed s t p)
      ∧ (fine → allZero ssCl = false → ∀ sig, ((s.serve 260 120).2.hsSign th1).1 = some sig →
          (t.peer p).state = 1 ∧ (t.peer p).hello = m ∧ (t.peer p).th1 = sha3_512 (th1 ++ sig) ∧ (t.peer p).hsBeat = some s.beat
          ∧ (t.peer p).up = x.up
          ∧ (t.peer p).newKeys = some (highKeys (okm (mlkemSecret 3 ek seed) ssCl (sha3_512 (th1 ++ sig))))))
    ∧ TakesStep (.helloReply port b) s port.val 3 p b (fun t m => me < p → s.canShake = true → x.state = 1 → x.hello ≠ [] →
      let sig := m.drop 4345
      let th1 := sha3_512 (s.herd.digest ++ x.hello ++ m.take 4345)
      let th2 := sha3_512 (th1 ++ sig)
      let ssCl := xAgree 4 (hsX x.draw 64) (slice m 1600 56)
      let fine := 4345 ≤ m.length ∧ s.isMember p m = true ∧ hsVerify m th1 sig = true ∧ allZero ssCl = false
      (¬fine → AuthFailed s t p)
      ∧ (fine → ∀ mine, (s.hsSign th2).1 = some mine →
          SessionFormed s t p (lowKeys (okm (mlkemRecover 3 (hsSeed x.draw) (slice m 32 1568)) ssCl th2))))
    ∧ TakesStep (.finish port b) s port.val 4 p b (fun t m => p < me → s.herdFull = true → ∀ keys, x.newKeys = some keys →
      (hsVerify x.hello x.th1 m = true → SessionFormed s t p keys) ∧ (hsVerify x.hello x.th1 m = false → AuthFailed s t p))
    ∧ TakesMessage (.close port b) s port.val 0x40 p b (fun t _ => (t.peer p).up = false ∧ (t.peer p).keyTx = []
      ∧ (t.peer p).keyRx = [] ∧ (me < p → (t.peer p).retryAt = some (s.beat + msBeats (s.cfg 0x8000 10))))

/-- Sessions over time (R500): a handshake or renewal that is due starts with HELLO; a step not answered in time fails the handshake;
a peer that has been silent for 3 × HERD_KEEPALIVE is lost, and only this loss raises HERD_PEER_LOST, which, short of a Lockdown,
leaves the other sessions alone; each member announces itself to every peer in session. -/
def Obligations.HerdTimers : Prop :=
  (∀ s : State, let due := fun (p : Nat) => s.initiates p = true ∧ (s.peer p).up = false
        ∧ ((s.peer p).state = 0 ∨ (s.peer p).state = 3) ∧ (s.peer p).retryAt.getD 0 ≤ s.beat ∧ (s.route p).isSome = true
      ∃ t, exec .herdRetry s = .next t ∧ (∀ p, p ∉ s.peerList ∨ ¬due p → t.peer p = s.peer p)
        ∧ ∀ p ∈ s.peerList, due p → (∀ m ∈ s.peerList, due m → p ≤ m) → s.canShake = true →
          (t.peer p).state = 1 ∧ (t.peer p).hsBeat = some s.beat ∧ (t.peer p).hello = helloPayload (s.serve 260 152).1
          ∧ ∃ port f rest, s.route p = some port ∧ t.rings.sent = s.rings.sent ++ .herd port 2 f :: rest)
  ∧ (∀ s : State, let due := fun (p : Nat) => s.initiates p = true ∧ (s.peer p).up = true ∧ (s.peer p).state = 2
        ∧ (s.cfg 0x8000 12 ≤ (s.peer p).ctrTx ∨ s.cfg 0x8000 12 ≤ (s.peer p).ctrRx
          ∨ (s.peer p).formedBeat + msBeats (1000 * s.cfg 0x8000 13) ≤ s.beat)
        ∧ (s.peer p).retryAt.getD 0 ≤ s.beat ∧ (s.route p).isSome = true
      ∃ t, exec .herdRekey s = .next t ∧ (∀ p, p ∉ s.peerList ∨ ¬due p → t.peer p = s.peer p)
        ∧ ∀ p ∈ s.peerList, due p → (∀ m ∈ s.peerList, due m → p ≤ m) → s.canShake = true →
          (t.peer p).state = 1 ∧ (t.peer p).up = true ∧ (t.peer p).keyTx = (s.peer p).keyTx
          ∧ (t.peer p).hello = helloPayload (s.serve 260 152).1)
  ∧ (∀ s : State, ∃ t, exec .herdHelloTimeout s = .next t ∧ ∀ p ∈ s.peerList,
      ((∃ since, (s.peer p).hsBeat = some since ∧ since + msBeats (s.cfg 0x8000 11) ≤ s.beat) →
        (t.peer p).hsBeat = none ∧ (t.peer p).newKeys = none ∧ (t.peer p).up = (s.peer p).up
        ∧ (s.initiates p = true → (t.peer p).retryAt = some (s.beat + msBeats (s.nextWait (s.peer p)))))
      ∧ ((∀ since, (s.peer p).hsBeat = some since → s.beat < since + msBeats (s.cfg 0x8000 11)) → t.peer p = s.peer p))
  ∧ (∀ s : State, s.mode.mode ≠ mDormant →
      let silent := fun (p : Nat) => (s.peer p).up && decide ((s.peer p).lastRx + msBeats (3 * s.cfg 0x8000 9) ≤ s.beat)
      ∃ t, exec .herdPeerLost s = .next t
        ∧ countOf t.fault.counts 0xAA = (s.peerList.filter silent).foldl (fun n _ => bump 32 n 1) (countOf s.fault.counts 0xAA)
        ∧ ∀ p ∈ s.peerList, (silent p = true → (t.peer p).up = false ∧ (t.peer p).keyTx = [])
          ∧ (s.classOf 0xAA ≤ 3 → silent p = false → t.peer p = s.peer p))
  ∧ (∀ s : State, s.herdServes = true → ∃ t l, exec .herdKeepaliveSend s = .next t ∧ t.rings.sent = s.rings.sent ++ l
      ∧ (∀ x ∈ l, ∃ q f, x = .herd q 0x10 f)
      ∧ ∀ p, (p ∉ s.inSession → t.peer p = s.peer p)
        ∧ (p ∈ s.inSession → (t.peer p).msgId = bump 16 (s.peer p).msgId 1
          ∧ ((s.route p).isSome = true → (s.peer p).ctrTx < (t.peer p).ctrTx)))

/-- Herd replication (R195, R501 to R505): ANNOUNCE gives the peer's link map; REPLICATE creates, destroys or refuses as the table of
R503 says, and is refused with BUSY in Quiesce and Entropy study; a BUSY acknowledgement calls for resync; a partition state with
another digest latches its key; one resync grant compares one page. -/
def Obligations.HerdReplication : Prop :=
  (∀ (s : State) (port : Fin 2) (b : Bytes) (p : Nat),
    TakesMessage (.announce port b) s port.val 0x10 p b (fun t m => (t.peer p).linkMap = field m 0 2 / 4 ^ p % 4
      ∧ (t.peer p).lastRx = s.beat ∧ (t.peer p).resyncAsked = false ∧ ∀ q, q ≠ p → t.peer q = s.peer q)
    ∧ TakesMessage (.replicate port b) s port.val 0x11 p b (fun t m =>
      let i := field m 4 4
      let d := byteAt m 0
      let refused := t.vault = s.vault ∧ (t.peer p).refused = bump 32 (s.peer p).refused 1
      let applied := (t.peer p).applied = bump 32 (s.peer p).applied 1
      let n := keySpan (byteAt m 10) (byteAt m 11)
      let stale := runFree s.occupied i n = false ∨ field m 8 2 < s.genOf i n
      let full := 32 < i % 32 + n ∨ 2 ^ 25 ≤ i ∨ (∃ o, s.pageOwner (i / 32) = some o ∧ o ≠ d)
        ∨ s.cfg (0x2000 + d) 0x0D < s.entriesUsed d + n
      (s.herdFull = false ∨ s.active d = false → refused)
      ∧ (s.herdFull = true → s.active d = true →
        (byteAt m 1 = 1 → (stale ∨ full → refused)
          ∧ (¬stale → ¬full → applied ∧ ∃ k, t.key? i = some k ∧ k.domain = d ∧ k.gen = field m 8 2 ∧ k.cls = byteAt m 10
              ∧ k.pset = byteAt m 11 ∧ k.attrs = field m 16 8 ∧ k.state = 1))
        ∧ (byteAt m 1 = 2 →
          let live := ∃ k, s.key? i = some k ∧ k.state = 1 ∧ k.gen = field m 8 2 ∧ k.domain = d
          (live → applied ∧ ∀ k, t.key? i = some k → k.state = 3) ∧ (¬live → refused))))
    ∧ TakesMessage (.replicateAck port b) s port.val 0x12 p b (fun t m => t.vault = s.vault
      ∧ (t.peer p).resyncAsked = ((s.peer p).resyncAsked || byteAt m 7 == Config.resultBusy.toNat))
    ∧ TakesMessage (.partitionState port b) s port.val 0x13 p b (fun t m => s.herdFull = true → m.length = 52 →
      let found := s.vault.keys.find? (fun x => x.2.state == 1 && stateful x.2.cls && x.2.partEpoch != 0 && x.2.pkHash == m.take 32)
      (∀ i k c, found = some (i, k) → k.partEpoch = field m 32 4 → k.partDigest ≠ slice m 36 16 → s.counter? i = some c →
        t.counter? i = some { c with ceilC := c.next, ceilRound := c.next })
      ∧ ((found = none ∨ ∃ i k, found = some (i, k) ∧ (k.partEpoch ≠ field m 32 4 ∨ k.partDigest = slice m 36 16)) →
        t.vault = s.vault)))
  ∧ (∀ (s : State) (p a k : Nat) (digest : Bytes) (r : List (Nat × Bytes)), s.grantOf maResync = some (p, a) →
      (s.peer p).resync = (k, digest) :: r → ∃ t l, exec .herdResyncSlice s = .next t ∧ t.grantOf maResync = none
        ∧ (t.peer p).resync = r ∧ t.rings.sent = s.rings.sent ++ l ∧ (∀ x ∈ l, ∃ q f, x = .herd q 0x11 f)
        ∧ (s.replDigest (k / 2 ^ 20) (k % 2 ^ 20) = digest → l = [])
        ∧ (s.replDigest (k / 2 ^ 20) (k % 2 ^ 20) ≠ digest → (s.peer p).up = true → s.herdFull = true → s.active (k / 2 ^ 20) = true →
          (s.route p).isSome = true → (s.replicatedIn (k / 2 ^ 20) (k % 2 ^ 20)).length ≤ l.length))

/-- Herd relays and alignment (R506, R507): a relayed request waits to be served, and fails at once in Quiesce and Entropy study; a
response goes to the path that asked, and RELAY_FAILED to it when none arrives within RELAY_TIMEOUT; the leader answers BEAT_SYNC with
its wheel beat at receipt and reply; the asker takes the offset, rounded towards zero, and steps its wheel by at most one position. -/
def Obligations.HerdRelaysAndBeat : Prop :=
  ∀ (s : State) (port : Fin 2) (b : Bytes) (p : Nat),
    TakesMessage (.relayReq port b) s port.val 0x20 p b (fun t m =>
      t.herd.asked = s.herd.asked ++ (if s.herdFull then [(p, m)] else []) ∧ t.settings = s.settings)
    ∧ TakesMessage (.relayRsp port b) s port.val 0x21 p b (fun t m =>
      (∀ x, s.herd.relays.find? (fun x => relayMatches p m x.2) = some (0, x) → (t.box 0).go = false ∧ (t.box 0).rspValid = true
        ∧ (t.box 0).rspHdr = m.take 16 ∧ tget t.herd.relays 0 = none)
      ∧ (s.herd.relays.find? (fun x => relayMatches p m x.2) = none → t.dict = s.dict ∧ t.herd.relays = s.herd.relays))
    ∧ (∀ (target since : Nat) (h : Bytes), tget s.herd.relays 0 = some (target, h, since) → since + msBeats (s.cfg 0x8000 14) ≤ s.beat →
      ∃ t, exec .relayTimeout s = .next t ∧ (t.box 0).rspHdr = (parseRequest h).response 0xA 0 [] ∧ (t.box 0).go = false
        ∧ tget t.herd.relays 0 = none)
    ∧ ((∀ k x, tget s.herd.relays k = some x → s.beat < x.2.2 + msBeats (s.cfg 0x8000 14)) → NoEffect .relayTimeout s)
    ∧ TakesMessage (.beatSync port b) s port.val 0x30 p b (fun t _ =>
      (s.leader ≠ s.herdPos → t.rings.sent = s.rings.sent)
      ∧ (s.leader = s.herdPos → ∀ me q, s.herdPos = some me → s.route p = some q →
        let x := s.peer p
        let h := frameHeader 0x31 me p 7 3 16 s.herd.epoch (bump 16 x.msgId 1) 0 1 (x.ctrTx + 1)
        let w := leBytes 8 s.wheelBeat
        t.rings.sent = s.rings.sent ++ [.herd q 0x31 (h ++ gcmSeal x.keyTx (frameIv x.saltTx (x.ctrTx + 1)) (frameAad h) (w ++ w))]
        ∧ (t.peer p).ctrTx = x.ctrTx + 1))
    ∧ TakesMessage (.beatSyncReply port b) s port.val 0x31 p b (fun t m =>
      (∀ w1, s.herd.syncW1 = some w1 → s.leader = some p →
        let o := Int.tdiv (((field m 0 8 : Int) - w1) + ((field m 8 8 : Int) - s.wheelBeat)) 2
        t.herd.align = o ∧ t.herd.syncW1 = none ∧ t.wheel.align = (if 0 < o then 1 else if o < 0 then -1 else 0) ∧ t.beat = s.beat)
      ∧ (s.herd.syncW1 = none ∨ s.leader ≠ some p → t.herd.align = s.herd.align ∧ t.wheel = s.wheel))

/-! ### The whole machine -/

/-- R426: each refusal of a bundle raises PATCH_REJECTED with the status in DETAIL. -/
def Obligations.PatchRefusalRaises : Prop :=
  ∀ s : State, s.patchOpen = true → s.patchCheck ≠ 2 → ∃ t, exec .patchApply s = .next t ∧ t.patch.status = s.patchCheck
    ∧ countOf t.fault.counts 0xB4 = bump 32 (countOf s.fault.counts 0xB4) 1
    ∧ (t.fault.flog.head?).map (fun r => (r.source, r.detail)) = some (0xB4, s.patchCheck)

/-- R463: each MALFORMED answer on a mailbox, and each GO written while GO reads 1, counts one partner violation of the function's
domain. -/
def Obligations.MailboxViolations : Prop :=
  ∀ (s : State) (fn : Fin 256),
    let counted := fun (t : State) => countOf t.fault.counts 0xA2 = bump 32 (countOf s.fault.counts 0xA2) 1
      ∧ (s.bucket fn.val < s.violationRate fn.val → t.bucket fn.val = s.bucket fn.val + 1)
      ∧ (s.bucket fn.val = s.violationRate fn.val → t.bucket fn.val = 0)
    (∀ b c, let r := parseRequest b
      s.waiting (.mailbox fn) = some b → s.pathServed (.mailbox fn) = true → s.inTurn (.mailbox fn) = true →
      (r.malformed = true ∨ s.targetOk (.mailbox fn) r.target = false) →
      (c = .write (.mailbox fn) ∧ r.op = 2 ∨ c = .lock (.mailbox fn) ∧ r.op = 3 ∨ c = .describe (.mailbox fn) ∧ r.op = 4
        ∨ c = .read (.mailbox fn, false) ∧ r.op ≠ 2 ∧ r.op ≠ 3 ∧ r.op ≠ 4) →
      ∃ t, exec c s = .next t ∧ (t.box fn.val).rspHdr = r.response 9 0 [] ∧ counted t)
    ∧ (s.mode.mode ≠ mDormant → s.mode.mode ≠ mReset → s.reachable fn.val = true → (s.box fn.val).go = true →
      ∃ t, exec (.registerWrite fn .window ((if fn.val = 0 then 0x1000 else 0) + 0x820) [1#8]) s = .next t ∧ counted t
        ∧ t.box fn.val = s.box fn.val)

/-- A step takes the command at the front of the queue: it is exec of that command on the state with the queue's rest. -/
def Obligations.StepTakesFront : Prop :=
  ∀ (c : Instr) (l : List Instr) (s : State), s.pending = c :: l → step s = exec c { s with pending := l }

/-- On an empty queue the block idles (the model's choice, log 1); no row of the table gives bits, so no word spells a command. -/
def Obligations.EmptyQueueAndWords : Prop :=
  (∀ s : State, s.pending = [] → step s = .next s)
  ∧ ∀ (s : State) (nbits w : Nat), decodeTableWord nbits w = none ∧ s.withFetchWord nbits w = s

/-- What reset leaves (R8, R71, R77, R83, R85, R344, R412, R424, R436, R441, R454, R467): Reset at step 1, the beat counter zero, no
job, every queue DISABLED, every bucket, log, monitor and measurement slot empty, the vault empty and every entry at its default. -/
def Obligations.ResetState : Prop :=
  State.reset.mode.mode = mReset ∧ State.reset.mode.step = 1 ∧ State.reset.beat = 0 ∧ State.reset.jobs = {}
    ∧ (∀ n, (State.reset.queue n).state = .disabled) ∧ (∀ d, State.reset.bucket d = 0) ∧ State.reset.fault.flog = []
    ∧ State.reset.fault.flogSeq = 0 ∧ State.reset.fault.alarmOut = false ∧ State.reset.dict.monitors = []
    ∧ State.reset.dict.locked = [] ∧ (∀ n, (tget State.reset.measure n).getD (zeros 48) = zeros 48) ∧ State.reset.vault.keys = []
    ∧ State.reset.patch.staged = [] ∧ State.reset.patch.status = 0 ∧ (∀ idx sub, State.reset.cfgI idx sub = dfltOf idx sub)
    ∧ State.reset.pending = [] ∧ State.reset.Good

/-- Every step keeps the widths of the beat counter, the mode and the life-cycle state (R8, R345, R435), from every state that has
them. -/
def Obligations.GoodKept : Prop :=
  ∀ s t : State, s.Good → step s = .next t → t.Good

/-- Every command completes in every state, but a boundary after the last value of the 64-bit beat counter, for which R8 gives no
successor; a boundary advances the counter, and changes no entry where no write of its beat waits to take effect (R454); and no
command touches the queue of those that wait. -/
def Obligations.CommandsComplete : Prop :=
  (∀ (c : Instr) (s : State), c ≠ .beatBoundary → ∃ t, exec c s = .next t)
  ∧ (∀ s : State, s.beat + 1 < 2 ^ 64 → ∃ t, exec .beatBoundary s = .next t ∧ t.beat = s.beat + 1 ∧ t.jobs.admitted = 0
      ∧ t.jobs.offered = [] ∧ (s.dict.late = [] → s.rings.owed = [] → t.settings = s.settings
        ∧ (s.jobs.slots = [] → s.mode.nextMode = 0 → s.vault.retrainFrom = none → s.vault.counters = [] →
          t.mode.mode = s.mode.mode ∧ t.rings = s.rings ∧ t.vault = s.vault)))
  ∧ (∀ s : State, 2 ^ 64 ≤ s.beat + 1 → exec .beatBoundary s = .fault .beatCounterEnd)
  ∧ ∀ (c : Instr) (s t : State), exec c s = .next t → t.pending = s.pending

/-- The beat counter is advanced by one at a boundary, is cleared by a device reset, which empties the vault, and is otherwise never
written (R8, R11, R436). -/
def Obligations.BeatOnlyAdvances : Prop :=
  ∀ (c : Instr) (s t : State), exec c s = .next t →
    t.beat = s.beat ∨ (c = .beatBoundary ∧ t.beat = s.beat + 1) ∨ (t.beat = 0 ∧ t.vault.keys = [])

/-- Lockdown is left only as the core rails are removed, and Dormant only by power, which leads to Reset (R437, R440). -/
def Obligations.LockdownHolds : Prop :=
  ∀ (c : Instr) (s t : State), exec c s = .next t →
    (s.mode.mode = mLockdown → t.mode.mode = mLockdown ∨ (c = .coreRailsRemoved ∧ t.mode.mode = mDormant))
    ∧ (s.mode.mode = mDormant → t.mode.mode = mDormant
        ∨ (c = .powerUp ∧ t.mode.mode = mReset ∧ s.mode.lockdownHold = false ∧ s.mode.pwrFail = false))

/-- Measurement slots change only by extension, but for a device reset (R344); when the Patch window closes, MEAS_0 is extended once,
with the digest of the applied bundle or of the text that stands for none (R427). -/
def Obligations.MeasurementsExtend : Prop :=
  ∀ (c : Instr) (s t : State), exec c s = .next t →
    let slot := fun (u : State) (n : Nat) => (tget u.measure n).getD (zeros 48)
    (∀ n, ∃ l : List Bytes, slot t n = l.foldl (fun m d => sha3_384 (m ++ d)) (slot s n)
      ∨ (t.beat = 0 ∧ slot t n = l.foldl (fun m d => sha3_384 (m ++ d)) (zeros 48)))
    ∧ (s.mode.mode = mPatch → t.mode.mode = mAssembly → slot t 0 =
        sha3_384 (slot s 0 ++ sha3_384 (if t.patch.status = 2 then t.patch.applied else ascii "Quarus-no-patch".toList)))

/-- The life cycle changes only as R346 lists: OWNERSHIP, LC_SET, an intrusion erase reported at a start, never from SCRAPPED, and the
writes of vendor entries, which take effect at a boundary, from BLANK and VENDOR_TEST; at a start whose read finds the current copy of the
record bad, the other copy serves (R345). -/
def Obligations.LifeCycleChanges : Prop :=
  ∀ (c : Instr) (s t : State), exec c s = .next t → t.lcState = s.lcState
    ∨ (∃ slot, c = .ownership slot ∧ (s.lcState = 2 ∨ s.lcState = 4 ∨ s.lcState = 6) ∧ t.lcState = 3)
    ∨ (∃ slot, c = .lcSet slot ∧ ((s.lcState = 3 ∧ t.lcState = 4) ∨ ((s.lcState = 4 ∨ s.lcState = 6) ∧ t.lcState = 5)))
    ∨ (c = .aoRecordsStepEnd ∧ s.lcState ≠ 5 ∧ t.lcState = 6)
    ∨ (c = .beatBoundary ∧ ((s.lcState = 0 ∧ (t.lcState = 1 ∨ t.lcState = 2)) ∨ (s.lcState = 1 ∧ t.lcState = 2)))
    ∨ (∃ l b k m e, c = .resetRecordsRead l b ((k, m), e) ∧ k ≠ m ∧ t.lcState = s.sec.lcCopies.other.1)

/-- The root seed is erased to zeros, is replaced by the seed step of the entropy start-up or by the seed that waits at a start, and
is otherwise kept by every command (R380, R381, R392, R395). -/
def Obligations.RootSeedKept : Prop :=
  ∀ (c : Instr) (s t : State), exec c s = .next t → t.ao.rootSeed = s.ao.rootSeed ∨ t.ao.rootSeed = zeros 48
    ∨ (∃ f, c = .entropyStartupStep f ∧ s.entropy.step = 4) ∨ (∃ l b k, c = .resetRecordsRead l b k ∧ t.ao.rootSeed = s.ao.nextSeed)

/-- Which commands write which state, and with it the frame of every other command: dictionary entries (R454), the wheel (R89, R100),
the self-test and patch registers (R415, R424), the domain records (R324), the link (R481), the Herd's table (R495), the fuses of the
tamper sources (R390), the keys of the AO log (R381), the calendar (R469), the sealed identity seeds (R348) and the journal (R308) are
left alone by every command that is not named for them. A command that may be a device reset is named for all that the reset clears. -/
def Obligations.WhoWrites : Prop :=
  ∀ (c : Instr) (s t : State), exec c s = .next t →
    (match c with
      | .completionWrite .. | .postedWriteRefused .. | .queueDone .. | .qEnable .. | .registerWrite .. | .dictWrite ..
      | .epochSweep .. | .assemblySweep .. | .stageData .. | .vloadImage .. | .vloadEmpty .. | .vloadDone ..
      | .studySelect .. | .powerUp .. | .resetRecordsRead .. | .softReset .. | .modeRevert .. | .perstAssert ..
      | .hotReset .. | .functionLevelReset .. | .vfEnableChange .. | .beatBoundary .. => True
      | _ => t.settings = s.settings)
    ∧ (match c with
      | .startRightGrant .. | .completionWrite .. | .postedWriteRefused .. | .registerWrite .. | .dictWrite ..
      | .wheelLoad .. | .wheelBoundary .. | .stageReset .. | .stageData .. | .countClear .. | .vloadImage .. | .vloadEmpty ..
      | .maintGrant .. | .powerUp .. | .softReset .. | .modeRevert .. | .perstAssert .. | .beatSyncReply ..
      | .beatBoundary .. => True
      | _ => t.wheel = s.wheel)
    ∧ (match c with
      | .completionWrite .. | .postedWriteRefused .. | .registerWrite .. | .microTrapScrub .. | .rollingBistStart ..
      | .unitIsolated .. | .rollingBistEnd .. | .unitRetest .. | .maintGrant .. | .powerUp .. | .memoryBistEnd ..
      | .logicBistEnd .. | .knownAnswerTestsEnd .. | .softReset .. | .modeRevert .. | .perstAssert .. | .beatBoundary .. => True
      | _ => t.selfTest = s.selfTest)
    ∧ (match c with
      | .completionWrite .. | .postedWriteRefused .. | .registerWrite .. | .patchMin .. | .patchStageReset .. | .patchData ..
      | .patchApply .. | .patchWindowTimeout .. | .windowClose .. | .powerUp .. | .softReset .. | .modeRevert ..
      | .perstAssert .. | .beatBoundary .. => True
      | _ => t.patch = s.patch)
    ∧ (match c with
      | .expansionRun .. | .release .. | .completionWrite .. | .postedWriteRefused .. | .registerWrite .. | .ownership ..
      | .lcSet .. | .domainCreate .. | .domainRetire .. | .dictWrite .. | .wheelLoad .. | .fuseDisable .. | .forceSource ..
      | .patchMin .. | .entropyStudy .. | .herdMembership .. | .calendarSet .. | .attestKey .. | .rosterSet ..
      | .importAuthority .. | .importKey .. | .hbsPartition .. | .epochAdvance .. | .epochSweep .. | .assemblySweep ..
      | .entropyStartupStep .. | .powerUp .. | .resetRecordsRead .. | .aoRecordsStepEnd .. | .softReset .. | .modeRevert ..
      | .perstAssert .. | .beatBoundary .. => True
      | _ => t.domains = s.domains)
    ∧ (match c with
      | .completionWrite .. | .completionTimeoutExpiry .. | .postedWriteRefused .. | .registerWrite .. | .powerUp ..
      | .softReset .. | .modeRevert .. | .coreRailsRemoved .. | .perstAssert .. | .hotReset .. | .pcieLinkUp .. => True
      | _ => t.link = s.link)
    ∧ (match c with
      | .herdMembership .. => True
      | _ => t.herd.members = s.herd.members ∧ t.herd.epoch = s.herd.epoch ∧ t.herd.digest = s.herd.digest)
    ∧ (match c with
      | .fuseBurnStep .. => True
      | _ => t.ao.fused = s.ao.fused)
    ∧ (match c with
      | .entropyStartupStep .. | .resetRecordsRead .. => True
      | _ => t.ao.logKey = s.ao.logKey ∧ t.ao.patternKey = s.ao.patternKey)
    ∧ (match c with
      | .calendarSet .. | .aoClock .. | .resetRecordsRead .. | .calendarSecond .. => True
      | _ => t.dict.calSeconds = s.dict.calSeconds ∧ t.dict.calValid = s.dict.calValid ∧ t.dict.calTrim = s.dict.calTrim)
    ∧ (match c with
      | .lcSet .. | .beatBoundary .. => True
      | _ => t.sec.idSealed = s.sec.idSealed)
    ∧ (match c with
      | .completionWrite .. | .postedWriteRefused .. | .registerWrite .. | .journalSlotWritten .. | .powerUp ..
      | .aoRecordsStepEnd .. | .softReset .. | .modeRevert .. | .coreRailsRemoved .. | .perstAssert .. => True
      | _ => t.vault.journal = s.vault.journal ∧ t.vault.commits = s.vault.commits)

/-- Every operation completes (R19, R21, R43): a job whose schedule runs has its result, and stays as it is until the release takes it;
no other job changes, and nothing leaves for the host before the release. A tree first has its slices (R181), a reservation room in
the copy area (R188), and the write of a journal slot the end of the one before it (R308). -/
def Obligations.OperationsComplete : Prop :=
  ∀ (s : State) (slot : Fin 4096) (j : Job) (op : Nat) (c : Instr), (op, c) ∈ operationRows slot →
    s.running slot.val op = some j → ScheduleFree s op j →
    ∃ t k r, exec c s = .next t ∧ t.job? slot.val = some k ∧ k.result = some r ∧ k.phase = 5 ∧ k.hdr = j.hdr
      ∧ k.granted = j.granted ∧ k.status = j.status ∧ t.rings = s.rings ∧ ∀ n, n ≠ slot.val → t.job? n = s.job? n
end

