-- ==== Sys2Proof/Laws/Tables.lean ====
section
/-! SUPPORT. The laws of tables by number: a key that is set or deleted, every other key, and counters kept in a table. -/

namespace Sys2Proof.Laws

open Sys2Proof Sys2Proof.Machine

variable {α : Type}

@[simp] theorem tget_tput_same (t : List (Nat × α)) (n : Nat) (w : α) : tget (tput t n w) n = some w := by
  induction t with
  | nil => simp [tput, tget]
  | cons x r ih =>
    obtain ⟨k, v⟩ := x
    simp only [tput]
    split
    · simp [tget]
    · split
      · simp [tget]
      · simp_all [tget]

theorem tget_tput_other (t : List (Nat × α)) {n m : Nat} (w : α) (h : m ≠ n) : tget (tput t n w) m = tget t m := by
  induction t with
  | nil => simp [tput, tget]; omega
  | cons x r ih =>
    obtain ⟨k, v⟩ := x
    simp only [tput]
    split
    · simp only [tget]; rw [if_neg (by omega)]
    · split
      · simp only [tget]; rw [if_neg (by omega), if_neg (by omega)]
      · simp only [tget, ih]

@[simp] theorem tget_tdel_same (t : List (Nat × α)) (n : Nat) : tget (tdel t n) n = none := by
  induction t with
  | nil => rfl
  | cons x r ih =>
    obtain ⟨k, v⟩ := x
    by_cases hk : k = n
    · simp only [tdel] at ih ⊢; simp [hk, ih]
    · simp only [tdel] at ih ⊢; simp [hk, tget, ih]

theorem tget_tdel_other (t : List (Nat × α)) {n m : Nat} (h : m ≠ n) : tget (tdel t n) m = tget t m := by
  induction t with
  | nil => rfl
  | cons x r ih =>
    obtain ⟨k, v⟩ := x
    by_cases hk : k = n
    · simp only [tdel] at ih ⊢
      have : ¬k = m := by omega
      simp [hk, tget, ih]
      omega
    · simp only [tdel] at ih ⊢; simp [hk, tget, ih]

/-- The canonical form: a table whose keys rise keeps it when a key is set. -/
theorem sortedKeys_tput (t : List (Nat × α)) (n : Nat) (w : α) (h : sortedKeys t = true) : sortedKeys (tput t n w) = true := by
  induction t with
  | nil => rfl
  | cons x r ih =>
    obtain ⟨k, v⟩ := x
    cases r with
    | nil =>
      simp only [tput]
      split
      · simp [sortedKeys]; assumption
      · split
        · rfl
        · simp [sortedKeys]; omega
    | cons y r' =>
      obtain ⟨k', v'⟩ := y
      simp only [sortedKeys, Bool.and_eq_true, decide_eq_true_eq] at h
      have ih' := ih h.2
      simp only [tput] at ih' ⊢
      split
      · simp [sortedKeys, h.1, h.2]; assumption
      · split
        · subst_vars; simp [sortedKeys, h.1, h.2]
        · split
          · simp [sortedKeys, h.2]; omega
          · split
            · subst_vars; simp_all [sortedKeys]
            · simp_all [sortedKeys]

@[simp] theorem countOf_countAdd_same (t : List (Nat × Nat)) (k n w : Nat) : countOf (countAdd t k n w) k = bump w (countOf t k) n := by
  unfold countAdd
  split
  · rename_i h; simp [countOf] at h ⊢; exact h.symm
  · simp [countOf]

theorem countOf_countAdd_other (t : List (Nat × Nat)) {k m : Nat} (n w : Nat) (h : m ≠ k) :
    countOf (countAdd t k n w) m = countOf t m := by
  unfold countAdd
  split <;> simp [countOf, tget_tput_other, tget_tdel_other, h]

end Sys2Proof.Laws
end

