-- ==== Sys2Proof/Laws/State.lean ====
section
/-! SUPPORT. What the updates of the state leave alone, field by field, and what they set. -/

namespace Sys2Proof.Laws

open Sys2Proof Sys2Proof.Machine

@[simp] theorem setQueue_beat (s : State) (n : Nat) (q : Queue) : (s.setQueue n q).beat = s.beat := rfl
@[simp] theorem setQueue_fresh (s : State) (n : Nat) (q : Queue) : (s.setQueue n q).fresh = s.fresh := rfl
@[simp] theorem setQueue_settings (s : State) (n : Nat) (q : Queue) : (s.setQueue n q).settings = s.settings := rfl
@[simp] theorem setQueue_jobs (s : State) (n : Nat) (q : Queue) : (s.setQueue n q).jobs = s.jobs := rfl
@[simp] theorem setQueue_wheel (s : State) (n : Nat) (q : Queue) : (s.setQueue n q).wheel = s.wheel := rfl
@[simp] theorem setQueue_fault (s : State) (n : Nat) (q : Queue) : (s.setQueue n q).fault = s.fault := rfl
@[simp] theorem setQueue_selfTest (s : State) (n : Nat) (q : Queue) : (s.setQueue n q).selfTest = s.selfTest := rfl
@[simp] theorem setQueue_patch (s : State) (n : Nat) (q : Queue) : (s.setQueue n q).patch = s.patch := rfl
@[simp] theorem setQueue_maint (s : State) (n : Nat) (q : Queue) : (s.setQueue n q).maint = s.maint := rfl
@[simp] theorem setQueue_mode (s : State) (n : Nat) (q : Queue) : (s.setQueue n q).mode = s.mode := rfl
@[simp] theorem setQueue_ao (s : State) (n : Nat) (q : Queue) : (s.setQueue n q).ao = s.ao := rfl
@[simp] theorem setQueue_domains (s : State) (n : Nat) (q : Queue) : (s.setQueue n q).domains = s.domains := rfl
@[simp] theorem setQueue_dict (s : State) (n : Nat) (q : Queue) : (s.setQueue n q).dict = s.dict := rfl
@[simp] theorem setQueue_vault (s : State) (n : Nat) (q : Queue) : (s.setQueue n q).vault = s.vault := rfl
@[simp] theorem setQueue_streams (s : State) (n : Nat) (q : Queue) : (s.setQueue n q).streams = s.streams := rfl
@[simp] theorem setQueue_entropy (s : State) (n : Nat) (q : Queue) : (s.setQueue n q).entropy = s.entropy := rfl
@[simp] theorem setQueue_measure (s : State) (n : Nat) (q : Queue) : (s.setQueue n q).measure = s.measure := rfl
@[simp] theorem setQueue_counts (s : State) (n : Nat) (q : Queue) : (s.setQueue n q).counts = s.counts := rfl
@[simp] theorem setQueue_lcState (s : State) (n : Nat) (q : Queue) : (s.setQueue n q).lcState = s.lcState := rfl
@[simp] theorem setQueue_lcSeq (s : State) (n : Nat) (q : Queue) : (s.setQueue n q).lcSeq = s.lcSeq := rfl
@[simp] theorem setQueue_seedGen (s : State) (n : Nat) (q : Queue) : (s.setQueue n q).seedGen = s.seedGen := rfl
@[simp] theorem setQueue_link (s : State) (n : Nat) (q : Queue) : (s.setQueue n q).link = s.link := rfl
@[simp] theorem setQueue_port (s : State) (n : Nat) (q : Queue) : (s.setQueue n q).port = s.port := rfl
@[simp] theorem setQueue_herd (s : State) (n : Nat) (q : Queue) : (s.setQueue n q).herd = s.herd := rfl
@[simp] theorem setQueue_sec (s : State) (n : Nat) (q : Queue) : (s.setQueue n q).sec = s.sec := rfl
@[simp] theorem setQueue_pending (s : State) (n : Nat) (q : Queue) : (s.setQueue n q).pending = s.pending := rfl

@[simp] theorem setFunc_beat (s : State) (f : Nat) (v : Func) : (s.setFunc f v).beat = s.beat := rfl
@[simp] theorem setFunc_fresh (s : State) (f : Nat) (v : Func) : (s.setFunc f v).fresh = s.fresh := rfl
@[simp] theorem setFunc_settings (s : State) (f : Nat) (v : Func) : (s.setFunc f v).settings = s.settings := rfl
@[simp] theorem setFunc_jobs (s : State) (f : Nat) (v : Func) : (s.setFunc f v).jobs = s.jobs := rfl
@[simp] theorem setFunc_wheel (s : State) (f : Nat) (v : Func) : (s.setFunc f v).wheel = s.wheel := rfl
@[simp] theorem setFunc_fault (s : State) (f : Nat) (v : Func) : (s.setFunc f v).fault = s.fault := rfl
@[simp] theorem setFunc_selfTest (s : State) (f : Nat) (v : Func) : (s.setFunc f v).selfTest = s.selfTest := rfl
@[simp] theorem setFunc_patch (s : State) (f : Nat) (v : Func) : (s.setFunc f v).patch = s.patch := rfl
@[simp] theorem setFunc_maint (s : State) (f : Nat) (v : Func) : (s.setFunc f v).maint = s.maint := rfl
@[simp] theorem setFunc_mode (s : State) (f : Nat) (v : Func) : (s.setFunc f v).mode = s.mode := rfl
@[simp] theorem setFunc_ao (s : State) (f : Nat) (v : Func) : (s.setFunc f v).ao = s.ao := rfl
@[simp] theorem setFunc_domains (s : State) (f : Nat) (v : Func) : (s.setFunc f v).domains = s.domains := rfl
@[simp] theorem setFunc_dict (s : State) (f : Nat) (v : Func) : (s.setFunc f v).dict = s.dict := rfl
@[simp] theorem setFunc_vault (s : State) (f : Nat) (v : Func) : (s.setFunc f v).vault = s.vault := rfl
@[simp] theorem setFunc_streams (s : State) (f : Nat) (v : Func) : (s.setFunc f v).streams = s.streams := rfl
@[simp] theorem setFunc_entropy (s : State) (f : Nat) (v : Func) : (s.setFunc f v).entropy = s.entropy := rfl
@[simp] theorem setFunc_measure (s : State) (f : Nat) (v : Func) : (s.setFunc f v).measure = s.measure := rfl
@[simp] theorem setFunc_counts (s : State) (f : Nat) (v : Func) : (s.setFunc f v).counts = s.counts := rfl
@[simp] theorem setFunc_lcState (s : State) (f : Nat) (v : Func) : (s.setFunc f v).lcState = s.lcState := rfl
@[simp] theorem setFunc_lcSeq (s : State) (f : Nat) (v : Func) : (s.setFunc f v).lcSeq = s.lcSeq := rfl
@[simp] theorem setFunc_seedGen (s : State) (f : Nat) (v : Func) : (s.setFunc f v).seedGen = s.seedGen := rfl
@[simp] theorem setFunc_link (s : State) (f : Nat) (v : Func) : (s.setFunc f v).link = s.link := rfl
@[simp] theorem setFunc_port (s : State) (f : Nat) (v : Func) : (s.setFunc f v).port = s.port := rfl
@[simp] theorem setFunc_herd (s : State) (f : Nat) (v : Func) : (s.setFunc f v).herd = s.herd := rfl
@[simp] theorem setFunc_sec (s : State) (f : Nat) (v : Func) : (s.setFunc f v).sec = s.sec := rfl
@[simp] theorem setFunc_pending (s : State) (f : Nat) (v : Func) : (s.setFunc f v).pending = s.pending := rfl

@[simp] theorem setJob_beat (s : State) (n : Nat) (j : Job) : (s.setJob n j).beat = s.beat := rfl
@[simp] theorem setJob_fresh (s : State) (n : Nat) (j : Job) : (s.setJob n j).fresh = s.fresh := rfl
@[simp] theorem setJob_settings (s : State) (n : Nat) (j : Job) : (s.setJob n j).settings = s.settings := rfl
@[simp] theorem setJob_rings (s : State) (n : Nat) (j : Job) : (s.setJob n j).rings = s.rings := rfl
@[simp] theorem setJob_wheel (s : State) (n : Nat) (j : Job) : (s.setJob n j).wheel = s.wheel := rfl
@[simp] theorem setJob_fault (s : State) (n : Nat) (j : Job) : (s.setJob n j).fault = s.fault := rfl
@[simp] theorem setJob_selfTest (s : State) (n : Nat) (j : Job) : (s.setJob n j).selfTest = s.selfTest := rfl
@[simp] theorem setJob_patch (s : State) (n : Nat) (j : Job) : (s.setJob n j).patch = s.patch := rfl
@[simp] theorem setJob_maint (s : State) (n : Nat) (j : Job) : (s.setJob n j).maint = s.maint := rfl
@[simp] theorem setJob_mode (s : State) (n : Nat) (j : Job) : (s.setJob n j).mode = s.mode := rfl
@[simp] theorem setJob_ao (s : State) (n : Nat) (j : Job) : (s.setJob n j).ao = s.ao := rfl
@[simp] theorem setJob_domains (s : State) (n : Nat) (j : Job) : (s.setJob n j).domains = s.domains := rfl
@[simp] theorem setJob_dict (s : State) (n : Nat) (j : Job) : (s.setJob n j).dict = s.dict := rfl
@[simp] theorem setJob_vault (s : State) (n : Nat) (j : Job) : (s.setJob n j).vault = s.vault := rfl
@[simp] theorem setJob_streams (s : State) (n : Nat) (j : Job) : (s.setJob n j).streams = s.streams := rfl
@[simp] theorem setJob_entropy (s : State) (n : Nat) (j : Job) : (s.setJob n j).entropy = s.entropy := rfl
@[simp] theorem setJob_measure (s : State) (n : Nat) (j : Job) : (s.setJob n j).measure = s.measure := rfl
@[simp] theorem setJob_counts (s : State) (n : Nat) (j : Job) : (s.setJob n j).counts = s.counts := rfl
@[simp] theorem setJob_lcState (s : State) (n : Nat) (j : Job) : (s.setJob n j).lcState = s.lcState := rfl
@[simp] theorem setJob_lcSeq (s : State) (n : Nat) (j : Job) : (s.setJob n j).lcSeq = s.lcSeq := rfl
@[simp] theorem setJob_seedGen (s : State) (n : Nat) (j : Job) : (s.setJob n j).seedGen = s.seedGen := rfl
@[simp] theorem setJob_link (s : State) (n : Nat) (j : Job) : (s.setJob n j).link = s.link := rfl
@[simp] theorem setJob_port (s : State) (n : Nat) (j : Job) : (s.setJob n j).port = s.port := rfl
@[simp] theorem setJob_herd (s : State) (n : Nat) (j : Job) : (s.setJob n j).herd = s.herd := rfl
@[simp] theorem setJob_sec (s : State) (n : Nat) (j : Job) : (s.setJob n j).sec = s.sec := rfl
@[simp] theorem setJob_pending (s : State) (n : Nat) (j : Job) : (s.setJob n j).pending = s.pending := rfl

@[simp] theorem dropJob_beat (s : State) (n : Nat) : (s.dropJob n).beat = s.beat := rfl
@[simp] theorem dropJob_fresh (s : State) (n : Nat) : (s.dropJob n).fresh = s.fresh := rfl
@[simp] theorem dropJob_settings (s : State) (n : Nat) : (s.dropJob n).settings = s.settings := rfl
@[simp] theorem dropJob_rings (s : State) (n : Nat) : (s.dropJob n).rings = s.rings := rfl
@[simp] theorem dropJob_wheel (s : State) (n : Nat) : (s.dropJob n).wheel = s.wheel := rfl
@[simp] theorem dropJob_fault (s : State) (n : Nat) : (s.dropJob n).fault = s.fault := rfl
@[simp] theorem dropJob_selfTest (s : State) (n : Nat) : (s.dropJob n).selfTest = s.selfTest := rfl
@[simp] theorem dropJob_patch (s : State) (n : Nat) : (s.dropJob n).patch = s.patch := rfl
@[simp] theorem dropJob_maint (s : State) (n : Nat) : (s.dropJob n).maint = s.maint := rfl
@[simp] theorem dropJob_mode (s : State) (n : Nat) : (s.dropJob n).mode = s.mode := rfl
@[simp] theorem dropJob_ao (s : State) (n : Nat) : (s.dropJob n).ao = s.ao := rfl
@[simp] theorem dropJob_domains (s : State) (n : Nat) : (s.dropJob n).domains = s.domains := rfl
@[simp] theorem dropJob_dict (s : State) (n : Nat) : (s.dropJob n).dict = s.dict := rfl
@[simp] theorem dropJob_vault (s : State) (n : Nat) : (s.dropJob n).vault = s.vault := rfl
@[simp] theorem dropJob_streams (s : State) (n : Nat) : (s.dropJob n).streams = s.streams := rfl
@[simp] theorem dropJob_entropy (s : State) (n : Nat) : (s.dropJob n).entropy = s.entropy := rfl
@[simp] theorem dropJob_measure (s : State) (n : Nat) : (s.dropJob n).measure = s.measure := rfl
@[simp] theorem dropJob_counts (s : State) (n : Nat) : (s.dropJob n).counts = s.counts := rfl
@[simp] theorem dropJob_lcState (s : State) (n : Nat) : (s.dropJob n).lcState = s.lcState := rfl
@[simp] theorem dropJob_lcSeq (s : State) (n : Nat) : (s.dropJob n).lcSeq = s.lcSeq := rfl
@[simp] theorem dropJob_seedGen (s : State) (n : Nat) : (s.dropJob n).seedGen = s.seedGen := rfl
@[simp] theorem dropJob_link (s : State) (n : Nat) : (s.dropJob n).link = s.link := rfl
@[simp] theorem dropJob_port (s : State) (n : Nat) : (s.dropJob n).port = s.port := rfl
@[simp] theorem dropJob_herd (s : State) (n : Nat) : (s.dropJob n).herd = s.herd := rfl
@[simp] theorem dropJob_sec (s : State) (n : Nat) : (s.dropJob n).sec = s.sec := rfl
@[simp] theorem dropJob_pending (s : State) (n : Nat) : (s.dropJob n).pending = s.pending := rfl

@[simp] theorem setUnit_beat (s : State) (c u : Nat) (v : EngineUnit) : (s.setUnit c u v).beat = s.beat := rfl
@[simp] theorem setUnit_fresh (s : State) (c u : Nat) (v : EngineUnit) : (s.setUnit c u v).fresh = s.fresh := rfl
@[simp] theorem setUnit_settings (s : State) (c u : Nat) (v : EngineUnit) : (s.setUnit c u v).settings = s.settings := rfl
@[simp] theorem setUnit_rings (s : State) (c u : Nat) (v : EngineUnit) : (s.setUnit c u v).rings = s.rings := rfl
@[simp] theorem setUnit_wheel (s : State) (c u : Nat) (v : EngineUnit) : (s.setUnit c u v).wheel = s.wheel := rfl
@[simp] theorem setUnit_fault (s : State) (c u : Nat) (v : EngineUnit) : (s.setUnit c u v).fault = s.fault := rfl
@[simp] theorem setUnit_selfTest (s : State) (c u : Nat) (v : EngineUnit) : (s.setUnit c u v).selfTest = s.selfTest := rfl
@[simp] theorem setUnit_patch (s : State) (c u : Nat) (v : EngineUnit) : (s.setUnit c u v).patch = s.patch := rfl
@[simp] theorem setUnit_maint (s : State) (c u : Nat) (v : EngineUnit) : (s.setUnit c u v).maint = s.maint := rfl
@[simp] theorem setUnit_mode (s : State) (c u : Nat) (v : EngineUnit) : (s.setUnit c u v).mode = s.mode := rfl
@[simp] theorem setUnit_ao (s : State) (c u : Nat) (v : EngineUnit) : (s.setUnit c u v).ao = s.ao := rfl
@[simp] theorem setUnit_domains (s : State) (c u : Nat) (v : EngineUnit) : (s.setUnit c u v).domains = s.domains := rfl
@[simp] theorem setUnit_dict (s : State) (c u : Nat) (v : EngineUnit) : (s.setUnit c u v).dict = s.dict := rfl
@[simp] theorem setUnit_vault (s : State) (c u : Nat) (v : EngineUnit) : (s.setUnit c u v).vault = s.vault := rfl
@[simp] theorem setUnit_streams (s : State) (c u : Nat) (v : EngineUnit) : (s.setUnit c u v).streams = s.streams := rfl
@[simp] theorem setUnit_entropy (s : State) (c u : Nat) (v : EngineUnit) : (s.setUnit c u v).entropy = s.entropy := rfl
@[simp] theorem setUnit_measure (s : State) (c u : Nat) (v : EngineUnit) : (s.setUnit c u v).measure = s.measure := rfl
@[simp] theorem setUnit_counts (s : State) (c u : Nat) (v : EngineUnit) : (s.setUnit c u v).counts = s.counts := rfl
@[simp] theorem setUnit_lcState (s : State) (c u : Nat) (v : EngineUnit) : (s.setUnit c u v).lcState = s.lcState := rfl
@[simp] theorem setUnit_lcSeq (s : State) (c u : Nat) (v : EngineUnit) : (s.setUnit c u v).lcSeq = s.lcSeq := rfl
@[simp] theorem setUnit_seedGen (s : State) (c u : Nat) (v : EngineUnit) : (s.setUnit c u v).seedGen = s.seedGen := rfl
@[simp] theorem setUnit_link (s : State) (c u : Nat) (v : EngineUnit) : (s.setUnit c u v).link = s.link := rfl
@[simp] theorem setUnit_port (s : State) (c u : Nat) (v : EngineUnit) : (s.setUnit c u v).port = s.port := rfl
@[simp] theorem setUnit_herd (s : State) (c u : Nat) (v : EngineUnit) : (s.setUnit c u v).herd = s.herd := rfl
@[simp] theorem setUnit_sec (s : State) (c u : Nat) (v : EngineUnit) : (s.setUnit c u v).sec = s.sec := rfl
@[simp] theorem setUnit_pending (s : State) (c u : Nat) (v : EngineUnit) : (s.setUnit c u v).pending = s.pending := rfl

@[simp] theorem setDom_beat (s : State) (d : Nat) (r : DomRec) : (s.setDom d r).beat = s.beat := rfl
@[simp] theorem setDom_fresh (s : State) (d : Nat) (r : DomRec) : (s.setDom d r).fresh = s.fresh := rfl
@[simp] theorem setDom_settings (s : State) (d : Nat) (r : DomRec) : (s.setDom d r).settings = s.settings := rfl
@[simp] theorem setDom_jobs (s : State) (d : Nat) (r : DomRec) : (s.setDom d r).jobs = s.jobs := rfl
@[simp] theorem setDom_rings (s : State) (d : Nat) (r : DomRec) : (s.setDom d r).rings = s.rings := rfl
@[simp] theorem setDom_wheel (s : State) (d : Nat) (r : DomRec) : (s.setDom d r).wheel = s.wheel := rfl
@[simp] theorem setDom_fault (s : State) (d : Nat) (r : DomRec) : (s.setDom d r).fault = s.fault := rfl
@[simp] theorem setDom_selfTest (s : State) (d : Nat) (r : DomRec) : (s.setDom d r).selfTest = s.selfTest := rfl
@[simp] theorem setDom_patch (s : State) (d : Nat) (r : DomRec) : (s.setDom d r).patch = s.patch := rfl
@[simp] theorem setDom_maint (s : State) (d : Nat) (r : DomRec) : (s.setDom d r).maint = s.maint := rfl
@[simp] theorem setDom_mode (s : State) (d : Nat) (r : DomRec) : (s.setDom d r).mode = s.mode := rfl
@[simp] theorem setDom_ao (s : State) (d : Nat) (r : DomRec) : (s.setDom d r).ao = s.ao := rfl
@[simp] theorem setDom_dict (s : State) (d : Nat) (r : DomRec) : (s.setDom d r).dict = s.dict := rfl
@[simp] theorem setDom_vault (s : State) (d : Nat) (r : DomRec) : (s.setDom d r).vault = s.vault := rfl
@[simp] theorem setDom_streams (s : State) (d : Nat) (r : DomRec) : (s.setDom d r).streams = s.streams := rfl
@[simp] theorem setDom_entropy (s : State) (d : Nat) (r : DomRec) : (s.setDom d r).entropy = s.entropy := rfl
@[simp] theorem setDom_measure (s : State) (d : Nat) (r : DomRec) : (s.setDom d r).measure = s.measure := rfl
@[simp] theorem setDom_counts (s : State) (d : Nat) (r : DomRec) : (s.setDom d r).counts = s.counts := rfl
@[simp] theorem setDom_lcState (s : State) (d : Nat) (r : DomRec) : (s.setDom d r).lcState = s.lcState := rfl
@[simp] theorem setDom_lcSeq (s : State) (d : Nat) (r : DomRec) : (s.setDom d r).lcSeq = s.lcSeq := rfl
@[simp] theorem setDom_seedGen (s : State) (d : Nat) (r : DomRec) : (s.setDom d r).seedGen = s.seedGen := rfl
@[simp] theorem setDom_link (s : State) (d : Nat) (r : DomRec) : (s.setDom d r).link = s.link := rfl
@[simp] theorem setDom_port (s : State) (d : Nat) (r : DomRec) : (s.setDom d r).port = s.port := rfl
@[simp] theorem setDom_herd (s : State) (d : Nat) (r : DomRec) : (s.setDom d r).herd = s.herd := rfl
@[simp] theorem setDom_sec (s : State) (d : Nat) (r : DomRec) : (s.setDom d r).sec = s.sec := rfl
@[simp] theorem setDom_pending (s : State) (d : Nat) (r : DomRec) : (s.setDom d r).pending = s.pending := rfl

@[simp] theorem setDrbg_beat (s : State) (i : Nat) (v : Drbg) : (s.setDrbg i v).beat = s.beat := rfl
@[simp] theorem setDrbg_fresh (s : State) (i : Nat) (v : Drbg) : (s.setDrbg i v).fresh = s.fresh := rfl
@[simp] theorem setDrbg_settings (s : State) (i : Nat) (v : Drbg) : (s.setDrbg i v).settings = s.settings := rfl
@[simp] theorem setDrbg_jobs (s : State) (i : Nat) (v : Drbg) : (s.setDrbg i v).jobs = s.jobs := rfl
@[simp] theorem setDrbg_rings (s : State) (i : Nat) (v : Drbg) : (s.setDrbg i v).rings = s.rings := rfl
@[simp] theorem setDrbg_wheel (s : State) (i : Nat) (v : Drbg) : (s.setDrbg i v).wheel = s.wheel := rfl
@[simp] theorem setDrbg_fault (s : State) (i : Nat) (v : Drbg) : (s.setDrbg i v).fault = s.fault := rfl
@[simp] theorem setDrbg_selfTest (s : State) (i : Nat) (v : Drbg) : (s.setDrbg i v).selfTest = s.selfTest := rfl
@[simp] theorem setDrbg_patch (s : State) (i : Nat) (v : Drbg) : (s.setDrbg i v).patch = s.patch := rfl
@[simp] theorem setDrbg_maint (s : State) (i : Nat) (v : Drbg) : (s.setDrbg i v).maint = s.maint := rfl
@[simp] theorem setDrbg_mode (s : State) (i : Nat) (v : Drbg) : (s.setDrbg i v).mode = s.mode := rfl
@[simp] theorem setDrbg_ao (s : State) (i : Nat) (v : Drbg) : (s.setDrbg i v).ao = s.ao := rfl
@[simp] theorem setDrbg_domains (s : State) (i : Nat) (v : Drbg) : (s.setDrbg i v).domains = s.domains := rfl
@[simp] theorem setDrbg_dict (s : State) (i : Nat) (v : Drbg) : (s.setDrbg i v).dict = s.dict := rfl
@[simp] theorem setDrbg_vault (s : State) (i : Nat) (v : Drbg) : (s.setDrbg i v).vault = s.vault := rfl
@[simp] theorem setDrbg_streams (s : State) (i : Nat) (v : Drbg) : (s.setDrbg i v).streams = s.streams := rfl
@[simp] theorem setDrbg_measure (s : State) (i : Nat) (v : Drbg) : (s.setDrbg i v).measure = s.measure := rfl
@[simp] theorem setDrbg_counts (s : State) (i : Nat) (v : Drbg) : (s.setDrbg i v).counts = s.counts := rfl
@[simp] theorem setDrbg_lcState (s : State) (i : Nat) (v : Drbg) : (s.setDrbg i v).lcState = s.lcState := rfl
@[simp] theorem setDrbg_lcSeq (s : State) (i : Nat) (v : Drbg) : (s.setDrbg i v).lcSeq = s.lcSeq := rfl
@[simp] theorem setDrbg_seedGen (s : State) (i : Nat) (v : Drbg) : (s.setDrbg i v).seedGen = s.seedGen := rfl
@[simp] theorem setDrbg_link (s : State) (i : Nat) (v : Drbg) : (s.setDrbg i v).link = s.link := rfl
@[simp] theorem setDrbg_port (s : State) (i : Nat) (v : Drbg) : (s.setDrbg i v).port = s.port := rfl
@[simp] theorem setDrbg_herd (s : State) (i : Nat) (v : Drbg) : (s.setDrbg i v).herd = s.herd := rfl
@[simp] theorem setDrbg_sec (s : State) (i : Nat) (v : Drbg) : (s.setDrbg i v).sec = s.sec := rfl
@[simp] theorem setDrbg_pending (s : State) (i : Nat) (v : Drbg) : (s.setDrbg i v).pending = s.pending := rfl

@[simp] theorem setCfg_beat (s : State) (i k : Nat) (v : Int) : (s.setCfg i k v).beat = s.beat := rfl
@[simp] theorem setCfg_fresh (s : State) (i k : Nat) (v : Int) : (s.setCfg i k v).fresh = s.fresh := rfl
@[simp] theorem setCfg_jobs (s : State) (i k : Nat) (v : Int) : (s.setCfg i k v).jobs = s.jobs := rfl
@[simp] theorem setCfg_rings (s : State) (i k : Nat) (v : Int) : (s.setCfg i k v).rings = s.rings := rfl
@[simp] theorem setCfg_wheel (s : State) (i k : Nat) (v : Int) : (s.setCfg i k v).wheel = s.wheel := rfl
@[simp] theorem setCfg_fault (s : State) (i k : Nat) (v : Int) : (s.setCfg i k v).fault = s.fault := rfl
@[simp] theorem setCfg_selfTest (s : State) (i k : Nat) (v : Int) : (s.setCfg i k v).selfTest = s.selfTest := rfl
@[simp] theorem setCfg_patch (s : State) (i k : Nat) (v : Int) : (s.setCfg i k v).patch = s.patch := rfl
@[simp] theorem setCfg_maint (s : State) (i k : Nat) (v : Int) : (s.setCfg i k v).maint = s.maint := rfl
@[simp] theorem setCfg_mode (s : State) (i k : Nat) (v : Int) : (s.setCfg i k v).mode = s.mode := rfl
@[simp] theorem setCfg_ao (s : State) (i k : Nat) (v : Int) : (s.setCfg i k v).ao = s.ao := rfl
@[simp] theorem setCfg_domains (s : State) (i k : Nat) (v : Int) : (s.setCfg i k v).domains = s.domains := rfl
@[simp] theorem setCfg_dict (s : State) (i k : Nat) (v : Int) : (s.setCfg i k v).dict = s.dict := rfl
@[simp] theorem setCfg_vault (s : State) (i k : Nat) (v : Int) : (s.setCfg i k v).vault = s.vault := rfl
@[simp] theorem setCfg_streams (s : State) (i k : Nat) (v : Int) : (s.setCfg i k v).streams = s.streams := rfl
@[simp] theorem setCfg_entropy (s : State) (i k : Nat) (v : Int) : (s.setCfg i k v).entropy = s.entropy := rfl
@[simp] theorem setCfg_measure (s : State) (i k : Nat) (v : Int) : (s.setCfg i k v).measure = s.measure := rfl
@[simp] theorem setCfg_counts (s : State) (i k : Nat) (v : Int) : (s.setCfg i k v).counts = s.counts := rfl
@[simp] theorem setCfg_lcState (s : State) (i k : Nat) (v : Int) : (s.setCfg i k v).lcState = s.lcState := rfl
@[simp] theorem setCfg_lcSeq (s : State) (i k : Nat) (v : Int) : (s.setCfg i k v).lcSeq = s.lcSeq := rfl
@[simp] theorem setCfg_seedGen (s : State) (i k : Nat) (v : Int) : (s.setCfg i k v).seedGen = s.seedGen := rfl
@[simp] theorem setCfg_link (s : State) (i k : Nat) (v : Int) : (s.setCfg i k v).link = s.link := rfl
@[simp] theorem setCfg_port (s : State) (i k : Nat) (v : Int) : (s.setCfg i k v).port = s.port := rfl
@[simp] theorem setCfg_herd (s : State) (i k : Nat) (v : Int) : (s.setCfg i k v).herd = s.herd := rfl
@[simp] theorem setCfg_sec (s : State) (i k : Nat) (v : Int) : (s.setCfg i k v).sec = s.sec := rfl
@[simp] theorem setCfg_pending (s : State) (i k : Nat) (v : Int) : (s.setCfg i k v).pending = s.pending := rfl

@[simp] theorem count_beat (s : State) (k n : Nat) : (s.count k n).beat = s.beat := rfl
@[simp] theorem count_fresh (s : State) (k n : Nat) : (s.count k n).fresh = s.fresh := rfl
@[simp] theorem count_settings (s : State) (k n : Nat) : (s.count k n).settings = s.settings := rfl
@[simp] theorem count_jobs (s : State) (k n : Nat) : (s.count k n).jobs = s.jobs := rfl
@[simp] theorem count_rings (s : State) (k n : Nat) : (s.count k n).rings = s.rings := rfl
@[simp] theorem count_wheel (s : State) (k n : Nat) : (s.count k n).wheel = s.wheel := rfl
@[simp] theorem count_fault (s : State) (k n : Nat) : (s.count k n).fault = s.fault := rfl
@[simp] theorem count_selfTest (s : State) (k n : Nat) : (s.count k n).selfTest = s.selfTest := rfl
@[simp] theorem count_patch (s : State) (k n : Nat) : (s.count k n).patch = s.patch := rfl
@[simp] theorem count_maint (s : State) (k n : Nat) : (s.count k n).maint = s.maint := rfl
@[simp] theorem count_mode (s : State) (k n : Nat) : (s.count k n).mode = s.mode := rfl
@[simp] theorem count_ao (s : State) (k n : Nat) : (s.count k n).ao = s.ao := rfl
@[simp] theorem count_domains (s : State) (k n : Nat) : (s.count k n).domains = s.domains := rfl
@[simp] theorem count_dict (s : State) (k n : Nat) : (s.count k n).dict = s.dict := rfl
@[simp] theorem count_vault (s : State) (k n : Nat) : (s.count k n).vault = s.vault := rfl
@[simp] theorem count_streams (s : State) (k n : Nat) : (s.count k n).streams = s.streams := rfl
@[simp] theorem count_entropy (s : State) (k n : Nat) : (s.count k n).entropy = s.entropy := rfl
@[simp] theorem count_measure (s : State) (k n : Nat) : (s.count k n).measure = s.measure := rfl
@[simp] theorem count_lcState (s : State) (k n : Nat) : (s.count k n).lcState = s.lcState := rfl
@[simp] theorem count_lcSeq (s : State) (k n : Nat) : (s.count k n).lcSeq = s.lcSeq := rfl
@[simp] theorem count_seedGen (s : State) (k n : Nat) : (s.count k n).seedGen = s.seedGen := rfl
@[simp] theorem count_link (s : State) (k n : Nat) : (s.count k n).link = s.link := rfl
@[simp] theorem count_port (s : State) (k n : Nat) : (s.count k n).port = s.port := rfl
@[simp] theorem count_herd (s : State) (k n : Nat) : (s.count k n).herd = s.herd := rfl
@[simp] theorem count_sec (s : State) (k n : Nat) : (s.count k n).sec = s.sec := rfl
@[simp] theorem count_pending (s : State) (k n : Nat) : (s.count k n).pending = s.pending := rfl

@[simp] theorem useMasks_beat (s : State) (n : Nat) : (s.useMasks n).beat = s.beat := rfl
@[simp] theorem useMasks_fresh (s : State) (n : Nat) : (s.useMasks n).fresh = s.fresh := rfl
@[simp] theorem useMasks_settings (s : State) (n : Nat) : (s.useMasks n).settings = s.settings := rfl
@[simp] theorem useMasks_jobs (s : State) (n : Nat) : (s.useMasks n).jobs = s.jobs := rfl
@[simp] theorem useMasks_rings (s : State) (n : Nat) : (s.useMasks n).rings = s.rings := rfl
@[simp] theorem useMasks_wheel (s : State) (n : Nat) : (s.useMasks n).wheel = s.wheel := rfl
@[simp] theorem useMasks_fault (s : State) (n : Nat) : (s.useMasks n).fault = s.fault := rfl
@[simp] theorem useMasks_selfTest (s : State) (n : Nat) : (s.useMasks n).selfTest = s.selfTest := rfl
@[simp] theorem useMasks_patch (s : State) (n : Nat) : (s.useMasks n).patch = s.patch := rfl
@[simp] theorem useMasks_maint (s : State) (n : Nat) : (s.useMasks n).maint = s.maint := rfl
@[simp] theorem useMasks_mode (s : State) (n : Nat) : (s.useMasks n).mode = s.mode := rfl
@[simp] theorem useMasks_ao (s : State) (n : Nat) : (s.useMasks n).ao = s.ao := rfl
@[simp] theorem useMasks_domains (s : State) (n : Nat) : (s.useMasks n).domains = s.domains := rfl
@[simp] theorem useMasks_dict (s : State) (n : Nat) : (s.useMasks n).dict = s.dict := rfl
@[simp] theorem useMasks_vault (s : State) (n : Nat) : (s.useMasks n).vault = s.vault := rfl
@[simp] theorem useMasks_streams (s : State) (n : Nat) : (s.useMasks n).streams = s.streams := rfl
@[simp] theorem useMasks_measure (s : State) (n : Nat) : (s.useMasks n).measure = s.measure := rfl
@[simp] theorem useMasks_counts (s : State) (n : Nat) : (s.useMasks n).counts = s.counts := rfl
@[simp] theorem useMasks_lcState (s : State) (n : Nat) : (s.useMasks n).lcState = s.lcState := rfl
@[simp] theorem useMasks_lcSeq (s : State) (n : Nat) : (s.useMasks n).lcSeq = s.lcSeq := rfl
@[simp] theorem useMasks_seedGen (s : State) (n : Nat) : (s.useMasks n).seedGen = s.seedGen := rfl
@[simp] theorem useMasks_link (s : State) (n : Nat) : (s.useMasks n).link = s.link := rfl
@[simp] theorem useMasks_port (s : State) (n : Nat) : (s.useMasks n).port = s.port := rfl
@[simp] theorem useMasks_herd (s : State) (n : Nat) : (s.useMasks n).herd = s.herd := rfl
@[simp] theorem useMasks_sec (s : State) (n : Nat) : (s.useMasks n).sec = s.sec := rfl
@[simp] theorem useMasks_pending (s : State) (n : Nat) : (s.useMasks n).pending = s.pending := rfl

@[simp] theorem send_beat (s : State) (m : Sent) : (s.send m).beat = s.beat := rfl
@[simp] theorem send_fresh (s : State) (m : Sent) : (s.send m).fresh = s.fresh := rfl
@[simp] theorem send_settings (s : State) (m : Sent) : (s.send m).settings = s.settings := rfl
@[simp] theorem send_jobs (s : State) (m : Sent) : (s.send m).jobs = s.jobs := rfl
@[simp] theorem send_wheel (s : State) (m : Sent) : (s.send m).wheel = s.wheel := rfl
@[simp] theorem send_fault (s : State) (m : Sent) : (s.send m).fault = s.fault := rfl
@[simp] theorem send_selfTest (s : State) (m : Sent) : (s.send m).selfTest = s.selfTest := rfl
@[simp] theorem send_patch (s : State) (m : Sent) : (s.send m).patch = s.patch := rfl
@[simp] theorem send_maint (s : State) (m : Sent) : (s.send m).maint = s.maint := rfl
@[simp] theorem send_mode (s : State) (m : Sent) : (s.send m).mode = s.mode := rfl
@[simp] theorem send_ao (s : State) (m : Sent) : (s.send m).ao = s.ao := rfl
@[simp] theorem send_domains (s : State) (m : Sent) : (s.send m).domains = s.domains := rfl
@[simp] theorem send_dict (s : State) (m : Sent) : (s.send m).dict = s.dict := rfl
@[simp] theorem send_vault (s : State) (m : Sent) : (s.send m).vault = s.vault := rfl
@[simp] theorem send_streams (s : State) (m : Sent) : (s.send m).streams = s.streams := rfl
@[simp] theorem send_entropy (s : State) (m : Sent) : (s.send m).entropy = s.entropy := rfl
@[simp] theorem send_measure (s : State) (m : Sent) : (s.send m).measure = s.measure := rfl
@[simp] theorem send_counts (s : State) (m : Sent) : (s.send m).counts = s.counts := rfl
@[simp] theorem send_lcState (s : State) (m : Sent) : (s.send m).lcState = s.lcState := rfl
@[simp] theorem send_lcSeq (s : State) (m : Sent) : (s.send m).lcSeq = s.lcSeq := rfl
@[simp] theorem send_seedGen (s : State) (m : Sent) : (s.send m).seedGen = s.seedGen := rfl
@[simp] theorem send_link (s : State) (m : Sent) : (s.send m).link = s.link := rfl
@[simp] theorem send_port (s : State) (m : Sent) : (s.send m).port = s.port := rfl
@[simp] theorem send_herd (s : State) (m : Sent) : (s.send m).herd = s.herd := rfl
@[simp] theorem send_sec (s : State) (m : Sent) : (s.send m).sec = s.sec := rfl
@[simp] theorem send_pending (s : State) (m : Sent) : (s.send m).pending = s.pending := rfl

@[simp] theorem issue_beat (s : State) (r : DmaRead) : (s.issue r).beat = s.beat := rfl
@[simp] theorem issue_fresh (s : State) (r : DmaRead) : (s.issue r).fresh = s.fresh := rfl
@[simp] theorem issue_settings (s : State) (r : DmaRead) : (s.issue r).settings = s.settings := rfl
@[simp] theorem issue_jobs (s : State) (r : DmaRead) : (s.issue r).jobs = s.jobs := rfl
@[simp] theorem issue_wheel (s : State) (r : DmaRead) : (s.issue r).wheel = s.wheel := rfl
@[simp] theorem issue_fault (s : State) (r : DmaRead) : (s.issue r).fault = s.fault := rfl
@[simp] theorem issue_selfTest (s : State) (r : DmaRead) : (s.issue r).selfTest = s.selfTest := rfl
@[simp] theorem issue_patch (s : State) (r : DmaRead) : (s.issue r).patch = s.patch := rfl
@[simp] theorem issue_maint (s : State) (r : DmaRead) : (s.issue r).maint = s.maint := rfl
@[simp] theorem issue_mode (s : State) (r : DmaRead) : (s.issue r).mode = s.mode := rfl
@[simp] theorem issue_ao (s : State) (r : DmaRead) : (s.issue r).ao = s.ao := rfl
@[simp] theorem issue_domains (s : State) (r : DmaRead) : (s.issue r).domains = s.domains := rfl
@[simp] theorem issue_dict (s : State) (r : DmaRead) : (s.issue r).dict = s.dict := rfl
@[simp] theorem issue_vault (s : State) (r : DmaRead) : (s.issue r).vault = s.vault := rfl
@[simp] theorem issue_streams (s : State) (r : DmaRead) : (s.issue r).streams = s.streams := rfl
@[simp] theorem issue_entropy (s : State) (r : DmaRead) : (s.issue r).entropy = s.entropy := rfl
@[simp] theorem issue_measure (s : State) (r : DmaRead) : (s.issue r).measure = s.measure := rfl
@[simp] theorem issue_counts (s : State) (r : DmaRead) : (s.issue r).counts = s.counts := rfl
@[simp] theorem issue_lcState (s : State) (r : DmaRead) : (s.issue r).lcState = s.lcState := rfl
@[simp] theorem issue_lcSeq (s : State) (r : DmaRead) : (s.issue r).lcSeq = s.lcSeq := rfl
@[simp] theorem issue_seedGen (s : State) (r : DmaRead) : (s.issue r).seedGen = s.seedGen := rfl
@[simp] theorem issue_link (s : State) (r : DmaRead) : (s.issue r).link = s.link := rfl
@[simp] theorem issue_port (s : State) (r : DmaRead) : (s.issue r).port = s.port := rfl
@[simp] theorem issue_herd (s : State) (r : DmaRead) : (s.issue r).herd = s.herd := rfl
@[simp] theorem issue_sec (s : State) (r : DmaRead) : (s.issue r).sec = s.sec := rfl
@[simp] theorem issue_pending (s : State) (r : DmaRead) : (s.issue r).pending = s.pending := rfl

@[simp] theorem owe_beat (s : State) (n c a : Nat) : (s.owe n c a).beat = s.beat := rfl
@[simp] theorem owe_fresh (s : State) (n c a : Nat) : (s.owe n c a).fresh = s.fresh := rfl
@[simp] theorem owe_settings (s : State) (n c a : Nat) : (s.owe n c a).settings = s.settings := rfl
@[simp] theorem owe_jobs (s : State) (n c a : Nat) : (s.owe n c a).jobs = s.jobs := rfl
@[simp] theorem owe_wheel (s : State) (n c a : Nat) : (s.owe n c a).wheel = s.wheel := rfl
@[simp] theorem owe_fault (s : State) (n c a : Nat) : (s.owe n c a).fault = s.fault := rfl
@[simp] theorem owe_selfTest (s : State) (n c a : Nat) : (s.owe n c a).selfTest = s.selfTest := rfl
@[simp] theorem owe_patch (s : State) (n c a : Nat) : (s.owe n c a).patch = s.patch := rfl
@[simp] theorem owe_maint (s : State) (n c a : Nat) : (s.owe n c a).maint = s.maint := rfl
@[simp] theorem owe_mode (s : State) (n c a : Nat) : (s.owe n c a).mode = s.mode := rfl
@[simp] theorem owe_ao (s : State) (n c a : Nat) : (s.owe n c a).ao = s.ao := rfl
@[simp] theorem owe_domains (s : State) (n c a : Nat) : (s.owe n c a).domains = s.domains := rfl
@[simp] theorem owe_dict (s : State) (n c a : Nat) : (s.owe n c a).dict = s.dict := rfl
@[simp] theorem owe_vault (s : State) (n c a : Nat) : (s.owe n c a).vault = s.vault := rfl
@[simp] theorem owe_streams (s : State) (n c a : Nat) : (s.owe n c a).streams = s.streams := rfl
@[simp] theorem owe_entropy (s : State) (n c a : Nat) : (s.owe n c a).entropy = s.entropy := rfl
@[simp] theorem owe_measure (s : State) (n c a : Nat) : (s.owe n c a).measure = s.measure := rfl
@[simp] theorem owe_counts (s : State) (n c a : Nat) : (s.owe n c a).counts = s.counts := rfl
@[simp] theorem owe_lcState (s : State) (n c a : Nat) : (s.owe n c a).lcState = s.lcState := rfl
@[simp] theorem owe_lcSeq (s : State) (n c a : Nat) : (s.owe n c a).lcSeq = s.lcSeq := rfl
@[simp] theorem owe_seedGen (s : State) (n c a : Nat) : (s.owe n c a).seedGen = s.seedGen := rfl
@[simp] theorem owe_link (s : State) (n c a : Nat) : (s.owe n c a).link = s.link := rfl
@[simp] theorem owe_port (s : State) (n c a : Nat) : (s.owe n c a).port = s.port := rfl
@[simp] theorem owe_herd (s : State) (n c a : Nat) : (s.owe n c a).herd = s.herd := rfl
@[simp] theorem owe_sec (s : State) (n c a : Nat) : (s.owe n c a).sec = s.sec := rfl
@[simp] theorem owe_pending (s : State) (n c a : Nat) : (s.owe n c a).pending = s.pending := rfl

@[simp] theorem dropReads_beat (s : State) (g : DmaRead → Bool) : (s.dropReads g).beat = s.beat := rfl
@[simp] theorem dropReads_fresh (s : State) (g : DmaRead → Bool) : (s.dropReads g).fresh = s.fresh := rfl
@[simp] theorem dropReads_settings (s : State) (g : DmaRead → Bool) : (s.dropReads g).settings = s.settings := rfl
@[simp] theorem dropReads_jobs (s : State) (g : DmaRead → Bool) : (s.dropReads g).jobs = s.jobs := rfl
@[simp] theorem dropReads_wheel (s : State) (g : DmaRead → Bool) : (s.dropReads g).wheel = s.wheel := rfl
@[simp] theorem dropReads_fault (s : State) (g : DmaRead → Bool) : (s.dropReads g).fault = s.fault := rfl
@[simp] theorem dropReads_selfTest (s : State) (g : DmaRead → Bool) : (s.dropReads g).selfTest = s.selfTest := rfl
@[simp] theorem dropReads_patch (s : State) (g : DmaRead → Bool) : (s.dropReads g).patch = s.patch := rfl
@[simp] theorem dropReads_maint (s : State) (g : DmaRead → Bool) : (s.dropReads g).maint = s.maint := rfl
@[simp] theorem dropReads_mode (s : State) (g : DmaRead → Bool) : (s.dropReads g).mode = s.mode := rfl
@[simp] theorem dropReads_ao (s : State) (g : DmaRead → Bool) : (s.dropReads g).ao = s.ao := rfl
@[simp] theorem dropReads_domains (s : State) (g : DmaRead → Bool) : (s.dropReads g).domains = s.domains := rfl
@[simp] theorem dropReads_dict (s : State) (g : DmaRead → Bool) : (s.dropReads g).dict = s.dict := rfl
@[simp] theorem dropReads_vault (s : State) (g : DmaRead → Bool) : (s.dropReads g).vault = s.vault := rfl
@[simp] theorem dropReads_streams (s : State) (g : DmaRead → Bool) : (s.dropReads g).streams = s.streams := rfl
@[simp] theorem dropReads_entropy (s : State) (g : DmaRead → Bool) : (s.dropReads g).entropy = s.entropy := rfl
@[simp] theorem dropReads_measure (s : State) (g : DmaRead → Bool) : (s.dropReads g).measure = s.measure := rfl
@[simp] theorem dropReads_counts (s : State) (g : DmaRead → Bool) : (s.dropReads g).counts = s.counts := rfl
@[simp] theorem dropReads_lcState (s : State) (g : DmaRead → Bool) : (s.dropReads g).lcState = s.lcState := rfl
@[simp] theorem dropReads_lcSeq (s : State) (g : DmaRead → Bool) : (s.dropReads g).lcSeq = s.lcSeq := rfl
@[simp] theorem dropReads_seedGen (s : State) (g : DmaRead → Bool) : (s.dropReads g).seedGen = s.seedGen := rfl
@[simp] theorem dropReads_link (s : State) (g : DmaRead → Bool) : (s.dropReads g).link = s.link := rfl
@[simp] theorem dropReads_port (s : State) (g : DmaRead → Bool) : (s.dropReads g).port = s.port := rfl
@[simp] theorem dropReads_herd (s : State) (g : DmaRead → Bool) : (s.dropReads g).herd = s.herd := rfl
@[simp] theorem dropReads_sec (s : State) (g : DmaRead → Bool) : (s.dropReads g).sec = s.sec := rfl
@[simp] theorem dropReads_pending (s : State) (g : DmaRead → Bool) : (s.dropReads g).pending = s.pending := rfl

@[simp] theorem extend_beat (s : State) (n : Nat) (d : Bytes) : (s.extend n d).beat = s.beat := rfl
@[simp] theorem extend_fresh (s : State) (n : Nat) (d : Bytes) : (s.extend n d).fresh = s.fresh := rfl
@[simp] theorem extend_settings (s : State) (n : Nat) (d : Bytes) : (s.extend n d).settings = s.settings := rfl
@[simp] theorem extend_jobs (s : State) (n : Nat) (d : Bytes) : (s.extend n d).jobs = s.jobs := rfl
@[simp] theorem extend_rings (s : State) (n : Nat) (d : Bytes) : (s.extend n d).rings = s.rings := rfl
@[simp] theorem extend_wheel (s : State) (n : Nat) (d : Bytes) : (s.extend n d).wheel = s.wheel := rfl
@[simp] theorem extend_fault (s : State) (n : Nat) (d : Bytes) : (s.extend n d).fault = s.fault := rfl
@[simp] theorem extend_selfTest (s : State) (n : Nat) (d : Bytes) : (s.extend n d).selfTest = s.selfTest := rfl
@[simp] theorem extend_patch (s : State) (n : Nat) (d : Bytes) : (s.extend n d).patch = s.patch := rfl
@[simp] theorem extend_maint (s : State) (n : Nat) (d : Bytes) : (s.extend n d).maint = s.maint := rfl
@[simp] theorem extend_mode (s : State) (n : Nat) (d : Bytes) : (s.extend n d).mode = s.mode := rfl
@[simp] theorem extend_ao (s : State) (n : Nat) (d : Bytes) : (s.extend n d).ao = s.ao := rfl
@[simp] theorem extend_domains (s : State) (n : Nat) (d : Bytes) : (s.extend n d).domains = s.domains := rfl
@[simp] theorem extend_dict (s : State) (n : Nat) (d : Bytes) : (s.extend n d).dict = s.dict := rfl
@[simp] theorem extend_vault (s : State) (n : Nat) (d : Bytes) : (s.extend n d).vault = s.vault := rfl
@[simp] theorem extend_streams (s : State) (n : Nat) (d : Bytes) : (s.extend n d).streams = s.streams := rfl
@[simp] theorem extend_entropy (s : State) (n : Nat) (d : Bytes) : (s.extend n d).entropy = s.entropy := rfl
@[simp] theorem extend_counts (s : State) (n : Nat) (d : Bytes) : (s.extend n d).counts = s.counts := rfl
@[simp] theorem extend_lcState (s : State) (n : Nat) (d : Bytes) : (s.extend n d).lcState = s.lcState := rfl
@[simp] theorem extend_lcSeq (s : State) (n : Nat) (d : Bytes) : (s.extend n d).lcSeq = s.lcSeq := rfl
@[simp] theorem extend_seedGen (s : State) (n : Nat) (d : Bytes) : (s.extend n d).seedGen = s.seedGen := rfl
@[simp] theorem extend_link (s : State) (n : Nat) (d : Bytes) : (s.extend n d).link = s.link := rfl
@[simp] theorem extend_port (s : State) (n : Nat) (d : Bytes) : (s.extend n d).port = s.port := rfl
@[simp] theorem extend_herd (s : State) (n : Nat) (d : Bytes) : (s.extend n d).herd = s.herd := rfl
@[simp] theorem extend_sec (s : State) (n : Nat) (d : Bytes) : (s.extend n d).sec = s.sec := rfl
@[simp] theorem extend_pending (s : State) (n : Nat) (d : Bytes) : (s.extend n d).pending = s.pending := rfl

@[simp] theorem sampleMonitor_beat (s : State) (k : Nat) (v : Int) (u : Nat) : (s.sampleMonitor k v u).beat = s.beat := rfl
@[simp] theorem sampleMonitor_fresh (s : State) (k : Nat) (v : Int) (u : Nat) : (s.sampleMonitor k v u).fresh = s.fresh := rfl
@[simp] theorem sampleMonitor_settings (s : State) (k : Nat) (v : Int) (u : Nat) : (s.sampleMonitor k v u).settings = s.settings := rfl
@[simp] theorem sampleMonitor_jobs (s : State) (k : Nat) (v : Int) (u : Nat) : (s.sampleMonitor k v u).jobs = s.jobs := rfl
@[simp] theorem sampleMonitor_rings (s : State) (k : Nat) (v : Int) (u : Nat) : (s.sampleMonitor k v u).rings = s.rings := rfl
@[simp] theorem sampleMonitor_wheel (s : State) (k : Nat) (v : Int) (u : Nat) : (s.sampleMonitor k v u).wheel = s.wheel := rfl
@[simp] theorem sampleMonitor_fault (s : State) (k : Nat) (v : Int) (u : Nat) : (s.sampleMonitor k v u).fault = s.fault := rfl
@[simp] theorem sampleMonitor_selfTest (s : State) (k : Nat) (v : Int) (u : Nat) : (s.sampleMonitor k v u).selfTest = s.selfTest := rfl
@[simp] theorem sampleMonitor_patch (s : State) (k : Nat) (v : Int) (u : Nat) : (s.sampleMonitor k v u).patch = s.patch := rfl
@[simp] theorem sampleMonitor_maint (s : State) (k : Nat) (v : Int) (u : Nat) : (s.sampleMonitor k v u).maint = s.maint := rfl
@[simp] theorem sampleMonitor_mode (s : State) (k : Nat) (v : Int) (u : Nat) : (s.sampleMonitor k v u).mode = s.mode := rfl
@[simp] theorem sampleMonitor_ao (s : State) (k : Nat) (v : Int) (u : Nat) : (s.sampleMonitor k v u).ao = s.ao := rfl
@[simp] theorem sampleMonitor_domains (s : State) (k : Nat) (v : Int) (u : Nat) : (s.sampleMonitor k v u).domains = s.domains := rfl
@[simp] theorem sampleMonitor_vault (s : State) (k : Nat) (v : Int) (u : Nat) : (s.sampleMonitor k v u).vault = s.vault := rfl
@[simp] theorem sampleMonitor_streams (s : State) (k : Nat) (v : Int) (u : Nat) : (s.sampleMonitor k v u).streams = s.streams := rfl
@[simp] theorem sampleMonitor_entropy (s : State) (k : Nat) (v : Int) (u : Nat) : (s.sampleMonitor k v u).entropy = s.entropy := rfl
@[simp] theorem sampleMonitor_measure (s : State) (k : Nat) (v : Int) (u : Nat) : (s.sampleMonitor k v u).measure = s.measure := rfl
@[simp] theorem sampleMonitor_counts (s : State) (k : Nat) (v : Int) (u : Nat) : (s.sampleMonitor k v u).counts = s.counts := rfl
@[simp] theorem sampleMonitor_lcState (s : State) (k : Nat) (v : Int) (u : Nat) : (s.sampleMonitor k v u).lcState = s.lcState := rfl
@[simp] theorem sampleMonitor_lcSeq (s : State) (k : Nat) (v : Int) (u : Nat) : (s.sampleMonitor k v u).lcSeq = s.lcSeq := rfl
@[simp] theorem sampleMonitor_seedGen (s : State) (k : Nat) (v : Int) (u : Nat) : (s.sampleMonitor k v u).seedGen = s.seedGen := rfl
@[simp] theorem sampleMonitor_link (s : State) (k : Nat) (v : Int) (u : Nat) : (s.sampleMonitor k v u).link = s.link := rfl
@[simp] theorem sampleMonitor_port (s : State) (k : Nat) (v : Int) (u : Nat) : (s.sampleMonitor k v u).port = s.port := rfl
@[simp] theorem sampleMonitor_herd (s : State) (k : Nat) (v : Int) (u : Nat) : (s.sampleMonitor k v u).herd = s.herd := rfl
@[simp] theorem sampleMonitor_sec (s : State) (k : Nat) (v : Int) (u : Nat) : (s.sampleMonitor k v u).sec = s.sec := rfl
@[simp] theorem sampleMonitor_pending (s : State) (k : Nat) (v : Int) (u : Nat) : (s.sampleMonitor k v u).pending = s.pending := rfl

@[simp] theorem clearMonitor_beat (s : State) (k : Nat) : (s.clearMonitor k).beat = s.beat := rfl
@[simp] theorem clearMonitor_fresh (s : State) (k : Nat) : (s.clearMonitor k).fresh = s.fresh := rfl
@[simp] theorem clearMonitor_settings (s : State) (k : Nat) : (s.clearMonitor k).settings = s.settings := rfl
@[simp] theorem clearMonitor_jobs (s : State) (k : Nat) : (s.clearMonitor k).jobs = s.jobs := rfl
@[simp] theorem clearMonitor_rings (s : State) (k : Nat) : (s.clearMonitor k).rings = s.rings := rfl
@[simp] theorem clearMonitor_wheel (s : State) (k : Nat) : (s.clearMonitor k).wheel = s.wheel := rfl
@[simp] theorem clearMonitor_fault (s : State) (k : Nat) : (s.clearMonitor k).fault = s.fault := rfl
@[simp] theorem clearMonitor_selfTest (s : State) (k : Nat) : (s.clearMonitor k).selfTest = s.selfTest := rfl
@[simp] theorem clearMonitor_patch (s : State) (k : Nat) : (s.clearMonitor k).patch = s.patch := rfl
@[simp] theorem clearMonitor_maint (s : State) (k : Nat) : (s.clearMonitor k).maint = s.maint := rfl
@[simp] theorem clearMonitor_mode (s : State) (k : Nat) : (s.clearMonitor k).mode = s.mode := rfl
@[simp] theorem clearMonitor_ao (s : State) (k : Nat) : (s.clearMonitor k).ao = s.ao := rfl
@[simp] theorem clearMonitor_domains (s : State) (k : Nat) : (s.clearMonitor k).domains = s.domains := rfl
@[simp] theorem clearMonitor_vault (s : State) (k : Nat) : (s.clearMonitor k).vault = s.vault := rfl
@[simp] theorem clearMonitor_streams (s : State) (k : Nat) : (s.clearMonitor k).streams = s.streams := rfl
@[simp] theorem clearMonitor_entropy (s : State) (k : Nat) : (s.clearMonitor k).entropy = s.entropy := rfl
@[simp] theorem clearMonitor_measure (s : State) (k : Nat) : (s.clearMonitor k).measure = s.measure := rfl
@[simp] theorem clearMonitor_counts (s : State) (k : Nat) : (s.clearMonitor k).counts = s.counts := rfl
@[simp] theorem clearMonitor_lcState (s : State) (k : Nat) : (s.clearMonitor k).lcState = s.lcState := rfl
@[simp] theorem clearMonitor_lcSeq (s : State) (k : Nat) : (s.clearMonitor k).lcSeq = s.lcSeq := rfl
@[simp] theorem clearMonitor_seedGen (s : State) (k : Nat) : (s.clearMonitor k).seedGen = s.seedGen := rfl
@[simp] theorem clearMonitor_link (s : State) (k : Nat) : (s.clearMonitor k).link = s.link := rfl
@[simp] theorem clearMonitor_port (s : State) (k : Nat) : (s.clearMonitor k).port = s.port := rfl
@[simp] theorem clearMonitor_herd (s : State) (k : Nat) : (s.clearMonitor k).herd = s.herd := rfl
@[simp] theorem clearMonitor_sec (s : State) (k : Nat) : (s.clearMonitor k).sec = s.sec := rfl
@[simp] theorem clearMonitor_pending (s : State) (k : Nat) : (s.clearMonitor k).pending = s.pending := rfl

@[simp] theorem setKey_beat (s : State) (i : Nat) (k : Key) : (s.setKey i k).beat = s.beat := rfl
@[simp] theorem setKey_fresh (s : State) (i : Nat) (k : Key) : (s.setKey i k).fresh = s.fresh := rfl
@[simp] theorem setKey_settings (s : State) (i : Nat) (k : Key) : (s.setKey i k).settings = s.settings := rfl
@[simp] theorem setKey_jobs (s : State) (i : Nat) (k : Key) : (s.setKey i k).jobs = s.jobs := rfl
@[simp] theorem setKey_rings (s : State) (i : Nat) (k : Key) : (s.setKey i k).rings = s.rings := rfl
@[simp] theorem setKey_wheel (s : State) (i : Nat) (k : Key) : (s.setKey i k).wheel = s.wheel := rfl
@[simp] theorem setKey_fault (s : State) (i : Nat) (k : Key) : (s.setKey i k).fault = s.fault := rfl
@[simp] theorem setKey_selfTest (s : State) (i : Nat) (k : Key) : (s.setKey i k).selfTest = s.selfTest := rfl
@[simp] theorem setKey_patch (s : State) (i : Nat) (k : Key) : (s.setKey i k).patch = s.patch := rfl
@[simp] theorem setKey_maint (s : State) (i : Nat) (k : Key) : (s.setKey i k).maint = s.maint := rfl
@[simp] theorem setKey_mode (s : State) (i : Nat) (k : Key) : (s.setKey i k).mode = s.mode := rfl
@[simp] theorem setKey_ao (s : State) (i : Nat) (k : Key) : (s.setKey i k).ao = s.ao := rfl
@[simp] theorem setKey_domains (s : State) (i : Nat) (k : Key) : (s.setKey i k).domains = s.domains := rfl
@[simp] theorem setKey_dict (s : State) (i : Nat) (k : Key) : (s.setKey i k).dict = s.dict := rfl
@[simp] theorem setKey_streams (s : State) (i : Nat) (k : Key) : (s.setKey i k).streams = s.streams := rfl
@[simp] theorem setKey_entropy (s : State) (i : Nat) (k : Key) : (s.setKey i k).entropy = s.entropy := rfl
@[simp] theorem setKey_measure (s : State) (i : Nat) (k : Key) : (s.setKey i k).measure = s.measure := rfl
@[simp] theorem setKey_counts (s : State) (i : Nat) (k : Key) : (s.setKey i k).counts = s.counts := rfl
@[simp] theorem setKey_lcState (s : State) (i : Nat) (k : Key) : (s.setKey i k).lcState = s.lcState := rfl
@[simp] theorem setKey_lcSeq (s : State) (i : Nat) (k : Key) : (s.setKey i k).lcSeq = s.lcSeq := rfl
@[simp] theorem setKey_seedGen (s : State) (i : Nat) (k : Key) : (s.setKey i k).seedGen = s.seedGen := rfl
@[simp] theorem setKey_link (s : State) (i : Nat) (k : Key) : (s.setKey i k).link = s.link := rfl
@[simp] theorem setKey_port (s : State) (i : Nat) (k : Key) : (s.setKey i k).port = s.port := rfl
@[simp] theorem setKey_herd (s : State) (i : Nat) (k : Key) : (s.setKey i k).herd = s.herd := rfl
@[simp] theorem setKey_sec (s : State) (i : Nat) (k : Key) : (s.setKey i k).sec = s.sec := rfl
@[simp] theorem setKey_pending (s : State) (i : Nat) (k : Key) : (s.setKey i k).pending = s.pending := rfl

@[simp] theorem setCounter_beat (s : State) (i : Nat) (c : CounterState) : (s.setCounter i c).beat = s.beat := rfl
@[simp] theorem setCounter_fresh (s : State) (i : Nat) (c : CounterState) : (s.setCounter i c).fresh = s.fresh := rfl
@[simp] theorem setCounter_settings (s : State) (i : Nat) (c : CounterState) : (s.setCounter i c).settings = s.settings := rfl
@[simp] theorem setCounter_jobs (s : State) (i : Nat) (c : CounterState) : (s.setCounter i c).jobs = s.jobs := rfl
@[simp] theorem setCounter_rings (s : State) (i : Nat) (c : CounterState) : (s.setCounter i c).rings = s.rings := rfl
@[simp] theorem setCounter_wheel (s : State) (i : Nat) (c : CounterState) : (s.setCounter i c).wheel = s.wheel := rfl
@[simp] theorem setCounter_fault (s : State) (i : Nat) (c : CounterState) : (s.setCounter i c).fault = s.fault := rfl
@[simp] theorem setCounter_selfTest (s : State) (i : Nat) (c : CounterState) : (s.setCounter i c).selfTest = s.selfTest := rfl
@[simp] theorem setCounter_patch (s : State) (i : Nat) (c : CounterState) : (s.setCounter i c).patch = s.patch := rfl
@[simp] theorem setCounter_maint (s : State) (i : Nat) (c : CounterState) : (s.setCounter i c).maint = s.maint := rfl
@[simp] theorem setCounter_mode (s : State) (i : Nat) (c : CounterState) : (s.setCounter i c).mode = s.mode := rfl
@[simp] theorem setCounter_ao (s : State) (i : Nat) (c : CounterState) : (s.setCounter i c).ao = s.ao := rfl
@[simp] theorem setCounter_domains (s : State) (i : Nat) (c : CounterState) : (s.setCounter i c).domains = s.domains := rfl
@[simp] theorem setCounter_dict (s : State) (i : Nat) (c : CounterState) : (s.setCounter i c).dict = s.dict := rfl
@[simp] theorem setCounter_streams (s : State) (i : Nat) (c : CounterState) : (s.setCounter i c).streams = s.streams := rfl
@[simp] theorem setCounter_entropy (s : State) (i : Nat) (c : CounterState) : (s.setCounter i c).entropy = s.entropy := rfl
@[simp] theorem setCounter_measure (s : State) (i : Nat) (c : CounterState) : (s.setCounter i c).measure = s.measure := rfl
@[simp] theorem setCounter_counts (s : State) (i : Nat) (c : CounterState) : (s.setCounter i c).counts = s.counts := rfl
@[simp] theorem setCounter_lcState (s : State) (i : Nat) (c : CounterState) : (s.setCounter i c).lcState = s.lcState := rfl
@[simp] theorem setCounter_lcSeq (s : State) (i : Nat) (c : CounterState) : (s.setCounter i c).lcSeq = s.lcSeq := rfl
@[simp] theorem setCounter_seedGen (s : State) (i : Nat) (c : CounterState) : (s.setCounter i c).seedGen = s.seedGen := rfl
@[simp] theorem setCounter_link (s : State) (i : Nat) (c : CounterState) : (s.setCounter i c).link = s.link := rfl
@[simp] theorem setCounter_port (s : State) (i : Nat) (c : CounterState) : (s.setCounter i c).port = s.port := rfl
@[simp] theorem setCounter_herd (s : State) (i : Nat) (c : CounterState) : (s.setCounter i c).herd = s.herd := rfl
@[simp] theorem setCounter_sec (s : State) (i : Nat) (c : CounterState) : (s.setCounter i c).sec = s.sec := rfl
@[simp] theorem setCounter_pending (s : State) (i : Nat) (c : CounterState) : (s.setCounter i c).pending = s.pending := rfl

@[simp] theorem setStream_beat (s : State) (d i : Nat) (c : Stream) : (s.setStream d i c).beat = s.beat := rfl
@[simp] theorem setStream_fresh (s : State) (d i : Nat) (c : Stream) : (s.setStream d i c).fresh = s.fresh := rfl
@[simp] theorem setStream_settings (s : State) (d i : Nat) (c : Stream) : (s.setStream d i c).settings = s.settings := rfl
@[simp] theorem setStream_jobs (s : State) (d i : Nat) (c : Stream) : (s.setStream d i c).jobs = s.jobs := rfl
@[simp] theorem setStream_rings (s : State) (d i : Nat) (c : Stream) : (s.setStream d i c).rings = s.rings := rfl
@[simp] theorem setStream_wheel (s : State) (d i : Nat) (c : Stream) : (s.setStream d i c).wheel = s.wheel := rfl
@[simp] theorem setStream_fault (s : State) (d i : Nat) (c : Stream) : (s.setStream d i c).fault = s.fault := rfl
@[simp] theorem setStream_selfTest (s : State) (d i : Nat) (c : Stream) : (s.setStream d i c).selfTest = s.selfTest := rfl
@[simp] theorem setStream_patch (s : State) (d i : Nat) (c : Stream) : (s.setStream d i c).patch = s.patch := rfl
@[simp] theorem setStream_maint (s : State) (d i : Nat) (c : Stream) : (s.setStream d i c).maint = s.maint := rfl
@[simp] theorem setStream_mode (s : State) (d i : Nat) (c : Stream) : (s.setStream d i c).mode = s.mode := rfl
@[simp] theorem setStream_ao (s : State) (d i : Nat) (c : Stream) : (s.setStream d i c).ao = s.ao := rfl
@[simp] theorem setStream_domains (s : State) (d i : Nat) (c : Stream) : (s.setStream d i c).domains = s.domains := rfl
@[simp] theorem setStream_dict (s : State) (d i : Nat) (c : Stream) : (s.setStream d i c).dict = s.dict := rfl
@[simp] theorem setStream_vault (s : State) (d i : Nat) (c : Stream) : (s.setStream d i c).vault = s.vault := rfl
@[simp] theorem setStream_entropy (s : State) (d i : Nat) (c : Stream) : (s.setStream d i c).entropy = s.entropy := rfl
@[simp] theorem setStream_measure (s : State) (d i : Nat) (c : Stream) : (s.setStream d i c).measure = s.measure := rfl
@[simp] theorem setStream_counts (s : State) (d i : Nat) (c : Stream) : (s.setStream d i c).counts = s.counts := rfl
@[simp] theorem setStream_lcState (s : State) (d i : Nat) (c : Stream) : (s.setStream d i c).lcState = s.lcState := rfl
@[simp] theorem setStream_lcSeq (s : State) (d i : Nat) (c : Stream) : (s.setStream d i c).lcSeq = s.lcSeq := rfl
@[simp] theorem setStream_seedGen (s : State) (d i : Nat) (c : Stream) : (s.setStream d i c).seedGen = s.seedGen := rfl
@[simp] theorem setStream_link (s : State) (d i : Nat) (c : Stream) : (s.setStream d i c).link = s.link := rfl
@[simp] theorem setStream_port (s : State) (d i : Nat) (c : Stream) : (s.setStream d i c).port = s.port := rfl
@[simp] theorem setStream_herd (s : State) (d i : Nat) (c : Stream) : (s.setStream d i c).herd = s.herd := rfl
@[simp] theorem setStream_sec (s : State) (d i : Nat) (c : Stream) : (s.setStream d i c).sec = s.sec := rfl
@[simp] theorem setStream_pending (s : State) (d i : Nat) (c : Stream) : (s.setStream d i c).pending = s.pending := rfl

@[simp] theorem unbindStream_beat (s : State) (d i : Nat) : (s.unbindStream d i).beat = s.beat := rfl
@[simp] theorem unbindStream_fresh (s : State) (d i : Nat) : (s.unbindStream d i).fresh = s.fresh := rfl
@[simp] theorem unbindStream_settings (s : State) (d i : Nat) : (s.unbindStream d i).settings = s.settings := rfl
@[simp] theorem unbindStream_jobs (s : State) (d i : Nat) : (s.unbindStream d i).jobs = s.jobs := rfl
@[simp] theorem unbindStream_rings (s : State) (d i : Nat) : (s.unbindStream d i).rings = s.rings := rfl
@[simp] theorem unbindStream_wheel (s : State) (d i : Nat) : (s.unbindStream d i).wheel = s.wheel := rfl
@[simp] theorem unbindStream_fault (s : State) (d i : Nat) : (s.unbindStream d i).fault = s.fault := rfl
@[simp] theorem unbindStream_selfTest (s : State) (d i : Nat) : (s.unbindStream d i).selfTest = s.selfTest := rfl
@[simp] theorem unbindStream_patch (s : State) (d i : Nat) : (s.unbindStream d i).patch = s.patch := rfl
@[simp] theorem unbindStream_maint (s : State) (d i : Nat) : (s.unbindStream d i).maint = s.maint := rfl
@[simp] theorem unbindStream_mode (s : State) (d i : Nat) : (s.unbindStream d i).mode = s.mode := rfl
@[simp] theorem unbindStream_ao (s : State) (d i : Nat) : (s.unbindStream d i).ao = s.ao := rfl
@[simp] theorem unbindStream_domains (s : State) (d i : Nat) : (s.unbindStream d i).domains = s.domains := rfl
@[simp] theorem unbindStream_dict (s : State) (d i : Nat) : (s.unbindStream d i).dict = s.dict := rfl
@[simp] theorem unbindStream_vault (s : State) (d i : Nat) : (s.unbindStream d i).vault = s.vault := rfl
@[simp] theorem unbindStream_entropy (s : State) (d i : Nat) : (s.unbindStream d i).entropy = s.entropy := rfl
@[simp] theorem unbindStream_measure (s : State) (d i : Nat) : (s.unbindStream d i).measure = s.measure := rfl
@[simp] theorem unbindStream_counts (s : State) (d i : Nat) : (s.unbindStream d i).counts = s.counts := rfl
@[simp] theorem unbindStream_lcState (s : State) (d i : Nat) : (s.unbindStream d i).lcState = s.lcState := rfl
@[simp] theorem unbindStream_lcSeq (s : State) (d i : Nat) : (s.unbindStream d i).lcSeq = s.lcSeq := rfl
@[simp] theorem unbindStream_seedGen (s : State) (d i : Nat) : (s.unbindStream d i).seedGen = s.seedGen := rfl
@[simp] theorem unbindStream_link (s : State) (d i : Nat) : (s.unbindStream d i).link = s.link := rfl
@[simp] theorem unbindStream_port (s : State) (d i : Nat) : (s.unbindStream d i).port = s.port := rfl
@[simp] theorem unbindStream_herd (s : State) (d i : Nat) : (s.unbindStream d i).herd = s.herd := rfl
@[simp] theorem unbindStream_sec (s : State) (d i : Nat) : (s.unbindStream d i).sec = s.sec := rfl
@[simp] theorem unbindStream_pending (s : State) (d i : Nat) : (s.unbindStream d i).pending = s.pending := rfl

@[simp] theorem setSource_beat (s : State) (i : Nat) (x : Source) : (s.setSource i x).beat = s.beat := rfl
@[simp] theorem setSource_fresh (s : State) (i : Nat) (x : Source) : (s.setSource i x).fresh = s.fresh := rfl
@[simp] theorem setSource_settings (s : State) (i : Nat) (x : Source) : (s.setSource i x).settings = s.settings := rfl
@[simp] theorem setSource_jobs (s : State) (i : Nat) (x : Source) : (s.setSource i x).jobs = s.jobs := rfl
@[simp] theorem setSource_rings (s : State) (i : Nat) (x : Source) : (s.setSource i x).rings = s.rings := rfl
@[simp] theorem setSource_wheel (s : State) (i : Nat) (x : Source) : (s.setSource i x).wheel = s.wheel := rfl
@[simp] theorem setSource_fault (s : State) (i : Nat) (x : Source) : (s.setSource i x).fault = s.fault := rfl
@[simp] theorem setSource_selfTest (s : State) (i : Nat) (x : Source) : (s.setSource i x).selfTest = s.selfTest := rfl
@[simp] theorem setSource_patch (s : State) (i : Nat) (x : Source) : (s.setSource i x).patch = s.patch := rfl
@[simp] theorem setSource_maint (s : State) (i : Nat) (x : Source) : (s.setSource i x).maint = s.maint := rfl
@[simp] theorem setSource_mode (s : State) (i : Nat) (x : Source) : (s.setSource i x).mode = s.mode := rfl
@[simp] theorem setSource_ao (s : State) (i : Nat) (x : Source) : (s.setSource i x).ao = s.ao := rfl
@[simp] theorem setSource_domains (s : State) (i : Nat) (x : Source) : (s.setSource i x).domains = s.domains := rfl
@[simp] theorem setSource_dict (s : State) (i : Nat) (x : Source) : (s.setSource i x).dict = s.dict := rfl
@[simp] theorem setSource_vault (s : State) (i : Nat) (x : Source) : (s.setSource i x).vault = s.vault := rfl
@[simp] theorem setSource_streams (s : State) (i : Nat) (x : Source) : (s.setSource i x).streams = s.streams := rfl
@[simp] theorem setSource_measure (s : State) (i : Nat) (x : Source) : (s.setSource i x).measure = s.measure := rfl
@[simp] theorem setSource_counts (s : State) (i : Nat) (x : Source) : (s.setSource i x).counts = s.counts := rfl
@[simp] theorem setSource_lcState (s : State) (i : Nat) (x : Source) : (s.setSource i x).lcState = s.lcState := rfl
@[simp] theorem setSource_lcSeq (s : State) (i : Nat) (x : Source) : (s.setSource i x).lcSeq = s.lcSeq := rfl
@[simp] theorem setSource_seedGen (s : State) (i : Nat) (x : Source) : (s.setSource i x).seedGen = s.seedGen := rfl
@[simp] theorem setSource_link (s : State) (i : Nat) (x : Source) : (s.setSource i x).link = s.link := rfl
@[simp] theorem setSource_port (s : State) (i : Nat) (x : Source) : (s.setSource i x).port = s.port := rfl
@[simp] theorem setSource_herd (s : State) (i : Nat) (x : Source) : (s.setSource i x).herd = s.herd := rfl
@[simp] theorem setSource_sec (s : State) (i : Nat) (x : Source) : (s.setSource i x).sec = s.sec := rfl
@[simp] theorem setSource_pending (s : State) (i : Nat) (x : Source) : (s.setSource i x).pending = s.pending := rfl

@[simp] theorem setMask_beat (s : State) (u : Nat) (m : MaskUnit) : (s.setMask u m).beat = s.beat := rfl
@[simp] theorem setMask_fresh (s : State) (u : Nat) (m : MaskUnit) : (s.setMask u m).fresh = s.fresh := rfl
@[simp] theorem setMask_settings (s : State) (u : Nat) (m : MaskUnit) : (s.setMask u m).settings = s.settings := rfl
@[simp] theorem setMask_jobs (s : State) (u : Nat) (m : MaskUnit) : (s.setMask u m).jobs = s.jobs := rfl
@[simp] theorem setMask_rings (s : State) (u : Nat) (m : MaskUnit) : (s.setMask u m).rings = s.rings := rfl
@[simp] theorem setMask_wheel (s : State) (u : Nat) (m : MaskUnit) : (s.setMask u m).wheel = s.wheel := rfl
@[simp] theorem setMask_fault (s : State) (u : Nat) (m : MaskUnit) : (s.setMask u m).fault = s.fault := rfl
@[simp] theorem setMask_selfTest (s : State) (u : Nat) (m : MaskUnit) : (s.setMask u m).selfTest = s.selfTest := rfl
@[simp] theorem setMask_patch (s : State) (u : Nat) (m : MaskUnit) : (s.setMask u m).patch = s.patch := rfl
@[simp] theorem setMask_maint (s : State) (u : Nat) (m : MaskUnit) : (s.setMask u m).maint = s.maint := rfl
@[simp] theorem setMask_mode (s : State) (u : Nat) (m : MaskUnit) : (s.setMask u m).mode = s.mode := rfl
@[simp] theorem setMask_ao (s : State) (u : Nat) (m : MaskUnit) : (s.setMask u m).ao = s.ao := rfl
@[simp] theorem setMask_domains (s : State) (u : Nat) (m : MaskUnit) : (s.setMask u m).domains = s.domains := rfl
@[simp] theorem setMask_dict (s : State) (u : Nat) (m : MaskUnit) : (s.setMask u m).dict = s.dict := rfl
@[simp] theorem setMask_vault (s : State) (u : Nat) (m : MaskUnit) : (s.setMask u m).vault = s.vault := rfl
@[simp] theorem setMask_streams (s : State) (u : Nat) (m : MaskUnit) : (s.setMask u m).streams = s.streams := rfl
@[simp] theorem setMask_measure (s : State) (u : Nat) (m : MaskUnit) : (s.setMask u m).measure = s.measure := rfl
@[simp] theorem setMask_counts (s : State) (u : Nat) (m : MaskUnit) : (s.setMask u m).counts = s.counts := rfl
@[simp] theorem setMask_lcState (s : State) (u : Nat) (m : MaskUnit) : (s.setMask u m).lcState = s.lcState := rfl
@[simp] theorem setMask_lcSeq (s : State) (u : Nat) (m : MaskUnit) : (s.setMask u m).lcSeq = s.lcSeq := rfl
@[simp] theorem setMask_seedGen (s : State) (u : Nat) (m : MaskUnit) : (s.setMask u m).seedGen = s.seedGen := rfl
@[simp] theorem setMask_link (s : State) (u : Nat) (m : MaskUnit) : (s.setMask u m).link = s.link := rfl
@[simp] theorem setMask_port (s : State) (u : Nat) (m : MaskUnit) : (s.setMask u m).port = s.port := rfl
@[simp] theorem setMask_herd (s : State) (u : Nat) (m : MaskUnit) : (s.setMask u m).herd = s.herd := rfl
@[simp] theorem setMask_sec (s : State) (u : Nat) (m : MaskUnit) : (s.setMask u m).sec = s.sec := rfl
@[simp] theorem setMask_pending (s : State) (u : Nat) (m : MaskUnit) : (s.setMask u m).pending = s.pending := rfl

@[simp] theorem endGrant_beat (s : State) (a : Nat) : (s.endGrant a).beat = s.beat := rfl
@[simp] theorem endGrant_fresh (s : State) (a : Nat) : (s.endGrant a).fresh = s.fresh := rfl
@[simp] theorem endGrant_settings (s : State) (a : Nat) : (s.endGrant a).settings = s.settings := rfl
@[simp] theorem endGrant_jobs (s : State) (a : Nat) : (s.endGrant a).jobs = s.jobs := rfl
@[simp] theorem endGrant_rings (s : State) (a : Nat) : (s.endGrant a).rings = s.rings := rfl
@[simp] theorem endGrant_wheel (s : State) (a : Nat) : (s.endGrant a).wheel = s.wheel := rfl
@[simp] theorem endGrant_fault (s : State) (a : Nat) : (s.endGrant a).fault = s.fault := rfl
@[simp] theorem endGrant_selfTest (s : State) (a : Nat) : (s.endGrant a).selfTest = s.selfTest := rfl
@[simp] theorem endGrant_patch (s : State) (a : Nat) : (s.endGrant a).patch = s.patch := rfl
@[simp] theorem endGrant_mode (s : State) (a : Nat) : (s.endGrant a).mode = s.mode := rfl
@[simp] theorem endGrant_ao (s : State) (a : Nat) : (s.endGrant a).ao = s.ao := rfl
@[simp] theorem endGrant_domains (s : State) (a : Nat) : (s.endGrant a).domains = s.domains := rfl
@[simp] theorem endGrant_dict (s : State) (a : Nat) : (s.endGrant a).dict = s.dict := rfl
@[simp] theorem endGrant_vault (s : State) (a : Nat) : (s.endGrant a).vault = s.vault := rfl
@[simp] theorem endGrant_streams (s : State) (a : Nat) : (s.endGrant a).streams = s.streams := rfl
@[simp] theorem endGrant_entropy (s : State) (a : Nat) : (s.endGrant a).entropy = s.entropy := rfl
@[simp] theorem endGrant_measure (s : State) (a : Nat) : (s.endGrant a).measure = s.measure := rfl
@[simp] theorem endGrant_counts (s : State) (a : Nat) : (s.endGrant a).counts = s.counts := rfl
@[simp] theorem endGrant_lcState (s : State) (a : Nat) : (s.endGrant a).lcState = s.lcState := rfl
@[simp] theorem endGrant_lcSeq (s : State) (a : Nat) : (s.endGrant a).lcSeq = s.lcSeq := rfl
@[simp] theorem endGrant_seedGen (s : State) (a : Nat) : (s.endGrant a).seedGen = s.seedGen := rfl
@[simp] theorem endGrant_link (s : State) (a : Nat) : (s.endGrant a).link = s.link := rfl
@[simp] theorem endGrant_port (s : State) (a : Nat) : (s.endGrant a).port = s.port := rfl
@[simp] theorem endGrant_herd (s : State) (a : Nat) : (s.endGrant a).herd = s.herd := rfl
@[simp] theorem endGrant_sec (s : State) (a : Nat) : (s.endGrant a).sec = s.sec := rfl
@[simp] theorem endGrant_pending (s : State) (a : Nat) : (s.endGrant a).pending = s.pending := rfl

@[simp] theorem setSense_beat (s : State) (i : Nat) (x : Sense) : (s.setSense i x).beat = s.beat := rfl
@[simp] theorem setSense_fresh (s : State) (i : Nat) (x : Sense) : (s.setSense i x).fresh = s.fresh := rfl
@[simp] theorem setSense_settings (s : State) (i : Nat) (x : Sense) : (s.setSense i x).settings = s.settings := rfl
@[simp] theorem setSense_jobs (s : State) (i : Nat) (x : Sense) : (s.setSense i x).jobs = s.jobs := rfl
@[simp] theorem setSense_rings (s : State) (i : Nat) (x : Sense) : (s.setSense i x).rings = s.rings := rfl
@[simp] theorem setSense_wheel (s : State) (i : Nat) (x : Sense) : (s.setSense i x).wheel = s.wheel := rfl
@[simp] theorem setSense_fault (s : State) (i : Nat) (x : Sense) : (s.setSense i x).fault = s.fault := rfl
@[simp] theorem setSense_selfTest (s : State) (i : Nat) (x : Sense) : (s.setSense i x).selfTest = s.selfTest := rfl
@[simp] theorem setSense_patch (s : State) (i : Nat) (x : Sense) : (s.setSense i x).patch = s.patch := rfl
@[simp] theorem setSense_maint (s : State) (i : Nat) (x : Sense) : (s.setSense i x).maint = s.maint := rfl
@[simp] theorem setSense_mode (s : State) (i : Nat) (x : Sense) : (s.setSense i x).mode = s.mode := rfl
@[simp] theorem setSense_domains (s : State) (i : Nat) (x : Sense) : (s.setSense i x).domains = s.domains := rfl
@[simp] theorem setSense_dict (s : State) (i : Nat) (x : Sense) : (s.setSense i x).dict = s.dict := rfl
@[simp] theorem setSense_vault (s : State) (i : Nat) (x : Sense) : (s.setSense i x).vault = s.vault := rfl
@[simp] theorem setSense_streams (s : State) (i : Nat) (x : Sense) : (s.setSense i x).streams = s.streams := rfl
@[simp] theorem setSense_entropy (s : State) (i : Nat) (x : Sense) : (s.setSense i x).entropy = s.entropy := rfl
@[simp] theorem setSense_measure (s : State) (i : Nat) (x : Sense) : (s.setSense i x).measure = s.measure := rfl
@[simp] theorem setSense_counts (s : State) (i : Nat) (x : Sense) : (s.setSense i x).counts = s.counts := rfl
@[simp] theorem setSense_lcState (s : State) (i : Nat) (x : Sense) : (s.setSense i x).lcState = s.lcState := rfl
@[simp] theorem setSense_lcSeq (s : State) (i : Nat) (x : Sense) : (s.setSense i x).lcSeq = s.lcSeq := rfl
@[simp] theorem setSense_seedGen (s : State) (i : Nat) (x : Sense) : (s.setSense i x).seedGen = s.seedGen := rfl
@[simp] theorem setSense_link (s : State) (i : Nat) (x : Sense) : (s.setSense i x).link = s.link := rfl
@[simp] theorem setSense_port (s : State) (i : Nat) (x : Sense) : (s.setSense i x).port = s.port := rfl
@[simp] theorem setSense_herd (s : State) (i : Nat) (x : Sense) : (s.setSense i x).herd = s.herd := rfl
@[simp] theorem setSense_sec (s : State) (i : Nat) (x : Sense) : (s.setSense i x).sec = s.sec := rfl
@[simp] theorem setSense_pending (s : State) (i : Nat) (x : Sense) : (s.setSense i x).pending = s.pending := rfl

@[simp] theorem writeEraseMap_beat (s : State) : (s.writeEraseMap).beat = s.beat := rfl
@[simp] theorem writeEraseMap_fresh (s : State) : (s.writeEraseMap).fresh = s.fresh := rfl
@[simp] theorem writeEraseMap_settings (s : State) : (s.writeEraseMap).settings = s.settings := rfl
@[simp] theorem writeEraseMap_jobs (s : State) : (s.writeEraseMap).jobs = s.jobs := rfl
@[simp] theorem writeEraseMap_rings (s : State) : (s.writeEraseMap).rings = s.rings := rfl
@[simp] theorem writeEraseMap_wheel (s : State) : (s.writeEraseMap).wheel = s.wheel := rfl
@[simp] theorem writeEraseMap_fault (s : State) : (s.writeEraseMap).fault = s.fault := rfl
@[simp] theorem writeEraseMap_selfTest (s : State) : (s.writeEraseMap).selfTest = s.selfTest := rfl
@[simp] theorem writeEraseMap_patch (s : State) : (s.writeEraseMap).patch = s.patch := rfl
@[simp] theorem writeEraseMap_maint (s : State) : (s.writeEraseMap).maint = s.maint := rfl
@[simp] theorem writeEraseMap_mode (s : State) : (s.writeEraseMap).mode = s.mode := rfl
@[simp] theorem writeEraseMap_domains (s : State) : (s.writeEraseMap).domains = s.domains := rfl
@[simp] theorem writeEraseMap_dict (s : State) : (s.writeEraseMap).dict = s.dict := rfl
@[simp] theorem writeEraseMap_vault (s : State) : (s.writeEraseMap).vault = s.vault := rfl
@[simp] theorem writeEraseMap_streams (s : State) : (s.writeEraseMap).streams = s.streams := rfl
@[simp] theorem writeEraseMap_entropy (s : State) : (s.writeEraseMap).entropy = s.entropy := rfl
@[simp] theorem writeEraseMap_measure (s : State) : (s.writeEraseMap).measure = s.measure := rfl
@[simp] theorem writeEraseMap_counts (s : State) : (s.writeEraseMap).counts = s.counts := rfl
@[simp] theorem writeEraseMap_lcState (s : State) : (s.writeEraseMap).lcState = s.lcState := rfl
@[simp] theorem writeEraseMap_lcSeq (s : State) : (s.writeEraseMap).lcSeq = s.lcSeq := rfl
@[simp] theorem writeEraseMap_seedGen (s : State) : (s.writeEraseMap).seedGen = s.seedGen := rfl
@[simp] theorem writeEraseMap_link (s : State) : (s.writeEraseMap).link = s.link := rfl
@[simp] theorem writeEraseMap_port (s : State) : (s.writeEraseMap).port = s.port := rfl
@[simp] theorem writeEraseMap_herd (s : State) : (s.writeEraseMap).herd = s.herd := rfl
@[simp] theorem writeEraseMap_sec (s : State) : (s.writeEraseMap).sec = s.sec := rfl
@[simp] theorem writeEraseMap_pending (s : State) : (s.writeEraseMap).pending = s.pending := rfl

@[simp] theorem setSpdm_beat (s : State) (t : Nat) (x : Spdm) : (s.setSpdm t x).beat = s.beat := rfl
@[simp] theorem setSpdm_fresh (s : State) (t : Nat) (x : Spdm) : (s.setSpdm t x).fresh = s.fresh := rfl
@[simp] theorem setSpdm_settings (s : State) (t : Nat) (x : Spdm) : (s.setSpdm t x).settings = s.settings := rfl
@[simp] theorem setSpdm_jobs (s : State) (t : Nat) (x : Spdm) : (s.setSpdm t x).jobs = s.jobs := rfl
@[simp] theorem setSpdm_rings (s : State) (t : Nat) (x : Spdm) : (s.setSpdm t x).rings = s.rings := rfl
@[simp] theorem setSpdm_wheel (s : State) (t : Nat) (x : Spdm) : (s.setSpdm t x).wheel = s.wheel := rfl
@[simp] theorem setSpdm_fault (s : State) (t : Nat) (x : Spdm) : (s.setSpdm t x).fault = s.fault := rfl
@[simp] theorem setSpdm_selfTest (s : State) (t : Nat) (x : Spdm) : (s.setSpdm t x).selfTest = s.selfTest := rfl
@[simp] theorem setSpdm_patch (s : State) (t : Nat) (x : Spdm) : (s.setSpdm t x).patch = s.patch := rfl
@[simp] theorem setSpdm_maint (s : State) (t : Nat) (x : Spdm) : (s.setSpdm t x).maint = s.maint := rfl
@[simp] theorem setSpdm_mode (s : State) (t : Nat) (x : Spdm) : (s.setSpdm t x).mode = s.mode := rfl
@[simp] theorem setSpdm_ao (s : State) (t : Nat) (x : Spdm) : (s.setSpdm t x).ao = s.ao := rfl
@[simp] theorem setSpdm_domains (s : State) (t : Nat) (x : Spdm) : (s.setSpdm t x).domains = s.domains := rfl
@[simp] theorem setSpdm_dict (s : State) (t : Nat) (x : Spdm) : (s.setSpdm t x).dict = s.dict := rfl
@[simp] theorem setSpdm_vault (s : State) (t : Nat) (x : Spdm) : (s.setSpdm t x).vault = s.vault := rfl
@[simp] theorem setSpdm_streams (s : State) (t : Nat) (x : Spdm) : (s.setSpdm t x).streams = s.streams := rfl
@[simp] theorem setSpdm_entropy (s : State) (t : Nat) (x : Spdm) : (s.setSpdm t x).entropy = s.entropy := rfl
@[simp] theorem setSpdm_measure (s : State) (t : Nat) (x : Spdm) : (s.setSpdm t x).measure = s.measure := rfl
@[simp] theorem setSpdm_counts (s : State) (t : Nat) (x : Spdm) : (s.setSpdm t x).counts = s.counts := rfl
@[simp] theorem setSpdm_lcState (s : State) (t : Nat) (x : Spdm) : (s.setSpdm t x).lcState = s.lcState := rfl
@[simp] theorem setSpdm_lcSeq (s : State) (t : Nat) (x : Spdm) : (s.setSpdm t x).lcSeq = s.lcSeq := rfl
@[simp] theorem setSpdm_seedGen (s : State) (t : Nat) (x : Spdm) : (s.setSpdm t x).seedGen = s.seedGen := rfl
@[simp] theorem setSpdm_link (s : State) (t : Nat) (x : Spdm) : (s.setSpdm t x).link = s.link := rfl
@[simp] theorem setSpdm_herd (s : State) (t : Nat) (x : Spdm) : (s.setSpdm t x).herd = s.herd := rfl
@[simp] theorem setSpdm_sec (s : State) (t : Nat) (x : Spdm) : (s.setSpdm t x).sec = s.sec := rfl
@[simp] theorem setSpdm_pending (s : State) (t : Nat) (x : Spdm) : (s.setSpdm t x).pending = s.pending := rfl

@[simp] theorem setBox_beat (s : State) (f : Nat) (m : Mailbox) : (s.setBox f m).beat = s.beat := rfl
@[simp] theorem setBox_fresh (s : State) (f : Nat) (m : Mailbox) : (s.setBox f m).fresh = s.fresh := rfl
@[simp] theorem setBox_settings (s : State) (f : Nat) (m : Mailbox) : (s.setBox f m).settings = s.settings := rfl
@[simp] theorem setBox_jobs (s : State) (f : Nat) (m : Mailbox) : (s.setBox f m).jobs = s.jobs := rfl
@[simp] theorem setBox_rings (s : State) (f : Nat) (m : Mailbox) : (s.setBox f m).rings = s.rings := rfl
@[simp] theorem setBox_wheel (s : State) (f : Nat) (m : Mailbox) : (s.setBox f m).wheel = s.wheel := rfl
@[simp] theorem setBox_fault (s : State) (f : Nat) (m : Mailbox) : (s.setBox f m).fault = s.fault := rfl
@[simp] theorem setBox_selfTest (s : State) (f : Nat) (m : Mailbox) : (s.setBox f m).selfTest = s.selfTest := rfl
@[simp] theorem setBox_patch (s : State) (f : Nat) (m : Mailbox) : (s.setBox f m).patch = s.patch := rfl
@[simp] theorem setBox_maint (s : State) (f : Nat) (m : Mailbox) : (s.setBox f m).maint = s.maint := rfl
@[simp] theorem setBox_mode (s : State) (f : Nat) (m : Mailbox) : (s.setBox f m).mode = s.mode := rfl
@[simp] theorem setBox_ao (s : State) (f : Nat) (m : Mailbox) : (s.setBox f m).ao = s.ao := rfl
@[simp] theorem setBox_domains (s : State) (f : Nat) (m : Mailbox) : (s.setBox f m).domains = s.domains := rfl
@[simp] theorem setBox_vault (s : State) (f : Nat) (m : Mailbox) : (s.setBox f m).vault = s.vault := rfl
@[simp] theorem setBox_streams (s : State) (f : Nat) (m : Mailbox) : (s.setBox f m).streams = s.streams := rfl
@[simp] theorem setBox_entropy (s : State) (f : Nat) (m : Mailbox) : (s.setBox f m).entropy = s.entropy := rfl
@[simp] theorem setBox_measure (s : State) (f : Nat) (m : Mailbox) : (s.setBox f m).measure = s.measure := rfl
@[simp] theorem setBox_counts (s : State) (f : Nat) (m : Mailbox) : (s.setBox f m).counts = s.counts := rfl
@[simp] theorem setBox_lcState (s : State) (f : Nat) (m : Mailbox) : (s.setBox f m).lcState = s.lcState := rfl
@[simp] theorem setBox_lcSeq (s : State) (f : Nat) (m : Mailbox) : (s.setBox f m).lcSeq = s.lcSeq := rfl
@[simp] theorem setBox_seedGen (s : State) (f : Nat) (m : Mailbox) : (s.setBox f m).seedGen = s.seedGen := rfl
@[simp] theorem setBox_link (s : State) (f : Nat) (m : Mailbox) : (s.setBox f m).link = s.link := rfl
@[simp] theorem setBox_port (s : State) (f : Nat) (m : Mailbox) : (s.setBox f m).port = s.port := rfl
@[simp] theorem setBox_herd (s : State) (f : Nat) (m : Mailbox) : (s.setBox f m).herd = s.herd := rfl
@[simp] theorem setBox_sec (s : State) (f : Nat) (m : Mailbox) : (s.setBox f m).sec = s.sec := rfl
@[simp] theorem setBox_pending (s : State) (f : Nat) (m : Mailbox) : (s.setBox f m).pending = s.pending := rfl

@[simp] theorem setPeer_beat (s : State) (p : Nat) (x : Peer) : (s.setPeer p x).beat = s.beat := rfl
@[simp] theorem setPeer_fresh (s : State) (p : Nat) (x : Peer) : (s.setPeer p x).fresh = s.fresh := rfl
@[simp] theorem setPeer_settings (s : State) (p : Nat) (x : Peer) : (s.setPeer p x).settings = s.settings := rfl
@[simp] theorem setPeer_jobs (s : State) (p : Nat) (x : Peer) : (s.setPeer p x).jobs = s.jobs := rfl
@[simp] theorem setPeer_rings (s : State) (p : Nat) (x : Peer) : (s.setPeer p x).rings = s.rings := rfl
@[simp] theorem setPeer_wheel (s : State) (p : Nat) (x : Peer) : (s.setPeer p x).wheel = s.wheel := rfl
@[simp] theorem setPeer_fault (s : State) (p : Nat) (x : Peer) : (s.setPeer p x).fault = s.fault := rfl
@[simp] theorem setPeer_selfTest (s : State) (p : Nat) (x : Peer) : (s.setPeer p x).selfTest = s.selfTest := rfl
@[simp] theorem setPeer_patch (s : State) (p : Nat) (x : Peer) : (s.setPeer p x).patch = s.patch := rfl
@[simp] theorem setPeer_maint (s : State) (p : Nat) (x : Peer) : (s.setPeer p x).maint = s.maint := rfl
@[simp] theorem setPeer_mode (s : State) (p : Nat) (x : Peer) : (s.setPeer p x).mode = s.mode := rfl
@[simp] theorem setPeer_ao (s : State) (p : Nat) (x : Peer) : (s.setPeer p x).ao = s.ao := rfl
@[simp] theorem setPeer_domains (s : State) (p : Nat) (x : Peer) : (s.setPeer p x).domains = s.domains := rfl
@[simp] theorem setPeer_dict (s : State) (p : Nat) (x : Peer) : (s.setPeer p x).dict = s.dict := rfl
@[simp] theorem setPeer_vault (s : State) (p : Nat) (x : Peer) : (s.setPeer p x).vault = s.vault := rfl
@[simp] theorem setPeer_streams (s : State) (p : Nat) (x : Peer) : (s.setPeer p x).streams = s.streams := rfl
@[simp] theorem setPeer_entropy (s : State) (p : Nat) (x : Peer) : (s.setPeer p x).entropy = s.entropy := rfl
@[simp] theorem setPeer_measure (s : State) (p : Nat) (x : Peer) : (s.setPeer p x).measure = s.measure := rfl
@[simp] theorem setPeer_counts (s : State) (p : Nat) (x : Peer) : (s.setPeer p x).counts = s.counts := rfl
@[simp] theorem setPeer_lcState (s : State) (p : Nat) (x : Peer) : (s.setPeer p x).lcState = s.lcState := rfl
@[simp] theorem setPeer_lcSeq (s : State) (p : Nat) (x : Peer) : (s.setPeer p x).lcSeq = s.lcSeq := rfl
@[simp] theorem setPeer_seedGen (s : State) (p : Nat) (x : Peer) : (s.setPeer p x).seedGen = s.seedGen := rfl
@[simp] theorem setPeer_link (s : State) (p : Nat) (x : Peer) : (s.setPeer p x).link = s.link := rfl
@[simp] theorem setPeer_port (s : State) (p : Nat) (x : Peer) : (s.setPeer p x).port = s.port := rfl
@[simp] theorem setPeer_sec (s : State) (p : Nat) (x : Peer) : (s.setPeer p x).sec = s.sec := rfl
@[simp] theorem setPeer_pending (s : State) (p : Nat) (x : Peer) : (s.setPeer p x).pending = s.pending := rfl

@[simp] theorem setHerdPort_beat (s : State) (q : Nat) (x : HerdPort) : (s.setHerdPort q x).beat = s.beat := rfl
@[simp] theorem setHerdPort_fresh (s : State) (q : Nat) (x : HerdPort) : (s.setHerdPort q x).fresh = s.fresh := rfl
@[simp] theorem setHerdPort_settings (s : State) (q : Nat) (x : HerdPort) : (s.setHerdPort q x).settings = s.settings := rfl
@[simp] theorem setHerdPort_jobs (s : State) (q : Nat) (x : HerdPort) : (s.setHerdPort q x).jobs = s.jobs := rfl
@[simp] theorem setHerdPort_rings (s : State) (q : Nat) (x : HerdPort) : (s.setHerdPort q x).rings = s.rings := rfl
@[simp] theorem setHerdPort_wheel (s : State) (q : Nat) (x : HerdPort) : (s.setHerdPort q x).wheel = s.wheel := rfl
@[simp] theorem setHerdPort_fault (s : State) (q : Nat) (x : HerdPort) : (s.setHerdPort q x).fault = s.fault := rfl
@[simp] theorem setHerdPort_selfTest (s : State) (q : Nat) (x : HerdPort) : (s.setHerdPort q x).selfTest = s.selfTest := rfl
@[simp] theorem setHerdPort_patch (s : State) (q : Nat) (x : HerdPort) : (s.setHerdPort q x).patch = s.patch := rfl
@[simp] theorem setHerdPort_maint (s : State) (q : Nat) (x : HerdPort) : (s.setHerdPort q x).maint = s.maint := rfl
@[simp] theorem setHerdPort_mode (s : State) (q : Nat) (x : HerdPort) : (s.setHerdPort q x).mode = s.mode := rfl
@[simp] theorem setHerdPort_ao (s : State) (q : Nat) (x : HerdPort) : (s.setHerdPort q x).ao = s.ao := rfl
@[simp] theorem setHerdPort_domains (s : State) (q : Nat) (x : HerdPort) : (s.setHerdPort q x).domains = s.domains := rfl
@[simp] theorem setHerdPort_dict (s : State) (q : Nat) (x : HerdPort) : (s.setHerdPort q x).dict = s.dict := rfl
@[simp] theorem setHerdPort_vault (s : State) (q : Nat) (x : HerdPort) : (s.setHerdPort q x).vault = s.vault := rfl
@[simp] theorem setHerdPort_streams (s : State) (q : Nat) (x : HerdPort) : (s.setHerdPort q x).streams = s.streams := rfl
@[simp] theorem setHerdPort_entropy (s : State) (q : Nat) (x : HerdPort) : (s.setHerdPort q x).entropy = s.entropy := rfl
@[simp] theorem setHerdPort_measure (s : State) (q : Nat) (x : HerdPort) : (s.setHerdPort q x).measure = s.measure := rfl
@[simp] theorem setHerdPort_counts (s : State) (q : Nat) (x : HerdPort) : (s.setHerdPort q x).counts = s.counts := rfl
@[simp] theorem setHerdPort_lcState (s : State) (q : Nat) (x : HerdPort) : (s.setHerdPort q x).lcState = s.lcState := rfl
@[simp] theorem setHerdPort_lcSeq (s : State) (q : Nat) (x : HerdPort) : (s.setHerdPort q x).lcSeq = s.lcSeq := rfl
@[simp] theorem setHerdPort_seedGen (s : State) (q : Nat) (x : HerdPort) : (s.setHerdPort q x).seedGen = s.seedGen := rfl
@[simp] theorem setHerdPort_link (s : State) (q : Nat) (x : HerdPort) : (s.setHerdPort q x).link = s.link := rfl
@[simp] theorem setHerdPort_port (s : State) (q : Nat) (x : HerdPort) : (s.setHerdPort q x).port = s.port := rfl
@[simp] theorem setHerdPort_sec (s : State) (q : Nat) (x : HerdPort) : (s.setHerdPort q x).sec = s.sec := rfl
@[simp] theorem setHerdPort_pending (s : State) (q : Nat) (x : HerdPort) : (s.setHerdPort q x).pending = s.pending := rfl

/-! ### What is set reads back -/

@[simp] theorem queue_setQueue (s : State) (n : Nat) (q : Queue) : (s.setQueue n q).queue n = q := by
  simp only [State.queue, State.setQueue]
  split <;> simp_all

theorem queue_setQueue_other (s : State) {n m : Nat} (q : Queue) (h : m ≠ n) : (s.setQueue n q).queue m = s.queue m := by
  simp only [State.queue, State.setQueue]
  split <;> simp [tget_tput_other, tget_tdel_other, h]

@[simp] theorem func_setFunc (s : State) (f : Nat) (v : Func) : (s.setFunc f v).func f = v := by
  simp only [State.func, State.setFunc]
  split <;> simp_all

theorem func_setFunc_other (s : State) {f g : Nat} (v : Func) (h : g ≠ f) : (s.setFunc f v).func g = s.func g := by
  simp only [State.func, State.setFunc]
  split <;> simp [tget_tput_other, tget_tdel_other, h]

@[simp] theorem job_setJob (s : State) (n : Nat) (j : Job) : (s.setJob n j).job? n = some j := by
  simp [State.job?, State.setJob]

theorem job_setJob_other (s : State) {n m : Nat} (j : Job) (h : m ≠ n) : (s.setJob n j).job? m = s.job? m := by
  simp [State.job?, State.setJob, tget_tput_other _ _ h]

@[simp] theorem job_dropJob (s : State) (n : Nat) : (s.dropJob n).job? n = none := by
  simp [State.job?, State.dropJob]

@[simp] theorem unit_setUnit (s : State) (c u : Nat) (v : EngineUnit) : (s.setUnit c u v).unit c u = v := by
  simp only [State.unit, State.setUnit]
  split <;> simp_all

@[simp] theorem cfgI_setCfg (s : State) (i k : Nat) (v : Int) : (s.setCfg i k v).cfgI i k = v := by
  simp only [State.cfgI, State.setCfg]
  split <;> simp_all

@[simp] theorem dom_setDom (s : State) (d : Nat) (r : DomRec) : (s.setDom d r).dom d = r := by
  by_cases hd : d = 0 <;> simp only [State.dom, State.setDom, hd, if_true, if_false] <;> split <;> simp_all

@[simp] theorem drbg_setDrbg (s : State) (i : Nat) (v : Drbg) : (s.setDrbg i v).drbg i = v := by
  simp only [State.drbg, State.setDrbg]
  split <;> simp_all

@[simp] theorem key_setKey (s : State) (i : Nat) (k : Key) : (s.setKey i k).key? i = some k := by
  simp [State.key?, State.setKey]

@[simp] theorem counter_setCounter (s : State) (i : Nat) (c : CounterState) : (s.setCounter i c).counter? i = some c := by
  simp [State.counter?, State.setCounter]

@[simp] theorem box_setBox (s : State) (f : Nat) (m : Mailbox) : (s.setBox f m).box f = m := by
  simp only [State.box, State.setBox]
  split <;> simp_all

@[simp] theorem peer_setPeer (s : State) (p : Nat) (x : Peer) : (s.setPeer p x).peer p = x := by
  simp [State.peer, State.setPeer]

theorem peer_setPeer_other (s : State) {p q : Nat} (x : Peer) (h : q ≠ p) : (s.setPeer p x).peer q = s.peer q := by
  simp [State.peer, State.setPeer, tget_tput_other _ _ h]

@[simp] theorem herdPort_setHerdPort (s : State) (q : Nat) (x : HerdPort) : (s.setHerdPort q x).herdPort q = x := by
  simp [State.herdPort, State.setHerdPort]

@[simp] theorem sent_send (s : State) (m : Sent) : (s.send m).rings.sent = s.rings.sent ++ [m] := rfl

/-! ### Reads (R36, R68, R79, R480) -/

theorem foldl_issue (s : State) (l : List (DmaRead × Nat)) :
    ∃ issued, l.foldl (fun a y => a.issue y.1) s = { s with rings := { s.rings with issued := issued } } := by
  induction l generalizing s with
  | nil => exact ⟨_, rfl⟩
  | cons x r ih =>
    obtain ⟨i, h⟩ := ih (s.issue x.1)
    exact ⟨i, by rw [List.foldl_cons, h]; rfl⟩

/-- Reads that are called for are issued, or their queue is owed a halt: nothing else changes. -/
theorem askAll_eq (s : State) (n : Nat) (l : List (DmaRead × Nat)) :
    ∃ owed issued, s.askAll n l = { s with rings := { s.rings with owed := owed, issued := issued } } := by
  unfold State.askAll
  split
  · exact ⟨_, _, rfl⟩
  · split
    · obtain ⟨i, h⟩ := foldl_issue s (_ :: _)
      exact ⟨_, i, h⟩
    · exact ⟨_, _, rfl⟩

end Sys2Proof.Laws
end

