-- ==== Sys2Proof/Laws/Faults.lean ====
section
/-! SUPPORT. Everything that the shared operations of Ops can do: the end of jobs, device status records, mode changes by
faults, fault events and partner violations. None of them touches what `Calm` keeps; but
for fault events, halts and violations, none touches what `Quiet` keeps. -/

namespace Sys2Proof.Laws

open Sys2Proof Sys2Proof.Machine

/-- `t` is `s` but for jobs, rings, fault records, streams, maintenance, mode, the always-on domain, counters, the count of mask bytes
and free values; the secrets of generators, sessions and the line key, which Lockdown zeroises; of the rest of the vault only the expansion
cache, of the dictionary only the life records, and of the ports only WAKE# may differ. -/
def Calm (s t : State) : Prop :=
  ∃ jobs rings fault streams maint mode ao counts fresh masks root inst units exp line life wake spdm peers,
    t = { s with jobs := jobs, rings := rings, fault := fault, streams := streams, maint := maint, mode := mode, ao := ao,
                 counts := counts, fresh := fresh,
                 entropy := { s.entropy with maskBytes := masks, root := root, instances := inst, masks := units },
                 vault := { s.vault with expansions := exp, lineKey := line }, dict := { s.dict with life := life },
                 port := { s.port with wakeOut := wake, spdm := spdm }, herd := { s.herd with peers := peers } }

theorem calm_refl (s : State) : Calm s s := ⟨_, _, _, _, _, _, _, _, _, _, _, _, _, _, _, _, _, _, _, rfl⟩

theorem calm_trans {s t u : State} (h : Calm s t) (k : Calm t u) : Calm s u := by
  obtain ⟨_, _, _, _, _, _, _, _, _, _, _, _, _, _, _, _, _, _, _, rfl⟩ := h
  obtain ⟨_, _, _, _, _, _, _, _, _, _, _, _, _, _, _, _, _, _, _, rfl⟩ := k
  exact ⟨_, _, _, _, _, _, _, _, _, _, _, _, _, _, _, _, _, _, _, rfl⟩

theorem calm_foldl {α : Type} (f : State → α → State) (h : ∀ a x, Calm a (f a x)) (l : List α) (s : State) : Calm s (l.foldl f s) := by
  induction l generalizing s with
  | nil => exact calm_refl s
  | cons x r ih => exact calm_trans (h s x) (ih _)

section
variable {s t : State} (h : Calm s t)
include h

theorem calm_beat : t.beat = s.beat := by obtain ⟨_, _, _, _, _, _, _, _, _, _, _, _, _, _, _, _, _, _, _, rfl⟩ := h; rfl
theorem calm_settings : t.settings = s.settings := by obtain ⟨_, _, _, _, _, _, _, _, _, _, _, _, _, _, _, _, _, _, _, rfl⟩ := h; rfl
theorem calm_wheel : t.wheel = s.wheel := by obtain ⟨_, _, _, _, _, _, _, _, _, _, _, _, _, _, _, _, _, _, _, rfl⟩ := h; rfl
theorem calm_selfTest : t.selfTest = s.selfTest := by obtain ⟨_, _, _, _, _, _, _, _, _, _, _, _, _, _, _, _, _, _, _, rfl⟩ := h; rfl
theorem calm_patch : t.patch = s.patch := by obtain ⟨_, _, _, _, _, _, _, _, _, _, _, _, _, _, _, _, _, _, _, rfl⟩ := h; rfl
theorem calm_domains : t.domains = s.domains := by obtain ⟨_, _, _, _, _, _, _, _, _, _, _, _, _, _, _, _, _, _, _, rfl⟩ := h; rfl
theorem calm_sources : t.entropy.sources = s.entropy.sources := by obtain ⟨_, _, _, _, _, _, _, _, _, _, _, _, _, _, _, _, _, _, _, rfl⟩ := h; rfl
theorem calm_measure : t.measure = s.measure := by obtain ⟨_, _, _, _, _, _, _, _, _, _, _, _, _, _, _, _, _, _, _, rfl⟩ := h; rfl
theorem calm_lcState : t.lcState = s.lcState := by obtain ⟨_, _, _, _, _, _, _, _, _, _, _, _, _, _, _, _, _, _, _, rfl⟩ := h; rfl
theorem calm_link : t.link = s.link := by obtain ⟨_, _, _, _, _, _, _, _, _, _, _, _, _, _, _, _, _, _, _, rfl⟩ := h; rfl
theorem calm_members : t.herd.members = s.herd.members := by obtain ⟨_, _, _, _, _, _, _, _, _, _, _, _, _, _, _, _, _, _, _, rfl⟩ := h; rfl
theorem calm_sec : t.sec = s.sec := by obtain ⟨_, _, _, _, _, _, _, _, _, _, _, _, _, _, _, _, _, _, _, rfl⟩ := h; rfl
theorem calm_pending : t.pending = s.pending := by obtain ⟨_, _, _, _, _, _, _, _, _, _, _, _, _, _, _, _, _, _, _, rfl⟩ := h; rfl
theorem calm_keys : t.vault.keys = s.vault.keys := by obtain ⟨_, _, _, _, _, _, _, _, _, _, _, _, _, _, _, _, _, _, _, rfl⟩ := h; rfl
theorem calm_counters : t.vault.counters = s.vault.counters := by obtain ⟨_, _, _, _, _, _, _, _, _, _, _, _, _, _, _, _, _, _, _, rfl⟩ := h; rfl
theorem calm_boxes : t.dict.boxes = s.dict.boxes := by obtain ⟨_, _, _, _, _, _, _, _, _, _, _, _, _, _, _, _, _, _, _, rfl⟩ := h; rfl

end


/-- `t` is `s` but for jobs, the functions of the rings, reads, retries and what was sent or is owed, streams, maintenance, mode, the always-on
domain, counters, the count of mask bytes and free values, and the secrets of generators, sessions and the line key; of the rest of the
vault only the expansion cache, and of the ports only WAKE# may differ. -/
def Quiet (s t : State) : Prop :=
  ∃ jobs funcs sent retries owed issued streams maint mode ao counts fresh masks root inst units exp line wake spdm peers,
    t = { s with jobs := jobs, rings := { s.rings with funcs := funcs, sent := sent, retries := retries, owed := owed, issued := issued },
                 streams := streams,
                 maint := maint, mode := mode, ao := ao, counts := counts, fresh := fresh,
                 entropy := { s.entropy with maskBytes := masks, root := root, instances := inst, masks := units },
                 vault := { s.vault with expansions := exp, lineKey := line },
                 port := { s.port with wakeOut := wake, spdm := spdm }, herd := { s.herd with peers := peers } }

theorem quiet_refl (s : State) : Quiet s s := ⟨_, _, _, _, _, _, _, _, _, _, _, _, _, _, _, _, _, _, _, _, _, rfl⟩

theorem quiet_trans {s t u : State} (h : Quiet s t) (k : Quiet t u) : Quiet s u := by
  obtain ⟨_, _, _, _, _, _, _, _, _, _, _, _, _, _, _, _, _, _, _, _, _, rfl⟩ := h
  obtain ⟨_, _, _, _, _, _, _, _, _, _, _, _, _, _, _, _, _, _, _, _, _, rfl⟩ := k
  exact ⟨_, _, _, _, _, _, _, _, _, _, _, _, _, _, _, _, _, _, _, _, _, rfl⟩

theorem quiet_foldl {α : Type} (f : State → α → State) (h : ∀ a x, Quiet a (f a x)) (l : List α) (s : State) : Quiet s (l.foldl f s) := by
  induction l generalizing s with
  | nil => exact quiet_refl s
  | cons x r ih => exact quiet_trans (h s x) (ih _)

theorem quiet_calm {s t : State} (h : Quiet s t) : Calm s t := by
  obtain ⟨_, _, _, _, _, _, _, _, _, _, _, _, _, _, _, _, _, _, _, _, _, rfl⟩ := h
  exact ⟨_, _, _, _, _, _, _, _, _, _, _, _, _, _, _, _, _, _, _, rfl⟩

section
variable {s t : State} (h : Quiet s t)
include h

theorem quiet_queues : t.rings.queues = s.rings.queues := by obtain ⟨_, _, _, _, _, _, _, _, _, _, _, _, _, _, _, _, _, _, _, _, _, rfl⟩ := h; rfl
theorem quiet_buckets : t.rings.buckets = s.rings.buckets := by obtain ⟨_, _, _, _, _, _, _, _, _, _, _, _, _, _, _, _, _, _, _, _, _, rfl⟩ := h; rfl
theorem quiet_fault : t.fault = s.fault := by obtain ⟨_, _, _, _, _, _, _, _, _, _, _, _, _, _, _, _, _, _, _, _, _, rfl⟩ := h; rfl
theorem quiet_dict : t.dict = s.dict := by obtain ⟨_, _, _, _, _, _, _, _, _, _, _, _, _, _, _, _, _, _, _, _, _, rfl⟩ := h; rfl
theorem quiet_queue (n : Nat) : t.queue n = s.queue n := by simp [State.queue, quiet_queues h]

end

/-! ### Interrupts, wipes and what a job gives back -/

theorem signal_quiet (s : State) (f v : Nat) : Quiet s (s.signal f v) := by
  unfold State.signal
  dsimp only
  split <;> exact ⟨_, _, _, _, _, _, _, _, _, _, _, _, _, _, _, _, _, _, _, _, _, rfl⟩

theorem cause_quiet (s : State) (f b : Nat) : Quiet s (s.cause f b) := by
  unfold State.cause
  dsimp only
  split
  · exact quiet_refl s
  · exact quiet_trans ⟨_, _, _, _, _, _, _, _, _, _, _, _, _, _, _, _, _, _, _, _, _, rfl⟩ (signal_quiet _ _ _)

theorem startWipe_quiet (s : State) (n : Nat) (u : Nat × Nat) (b : Nat) : Quiet s (s.startWipe n u b) := by
  unfold State.startWipe
  dsimp only
  split
  · exact ⟨_, _, _, _, _, _, _, _, _, _, _, _, _, _, _, _, _, _, _, _, _, rfl⟩
  · exact quiet_refl s

theorem freeHolds_quiet (s : State) (n b : Nat) : Quiet s (s.freeHolds n b) := ⟨_, _, _, _, _, _, _, _, _, _, _, _, _, _, _, _, _, _, _, _, _, rfl⟩

theorem dropStream_quiet (s : State) (d i : Nat) : Quiet s (s.dropStream d i) := by
  unfold State.dropStream
  split
  · exact ⟨_, _, _, _, _, _, _, _, _, _, _, _, _, _, _, _, _, _, _, _, _, rfl⟩
  · exact quiet_refl s

theorem endStream_quiet (s : State) (j : Job) (lost : Bool) : Quiet s (s.endStream j lost) := by
  unfold State.endStream
  dsimp only
  split
  · exact quiet_refl s
  · exact ⟨_, _, _, _, _, _, _, _, _, _, _, _, _, _, _, _, _, _, _, _, _, rfl⟩

theorem countBlocks_quiet (s : State) (j : Job) : Quiet s (s.countBlocks j) := by
  unfold State.countBlocks
  split
  · exact quiet_refl s
  · split <;> exact ⟨_, _, _, _, _, _, _, _, _, _, _, _, _, _, _, _, _, _, _, _, _, rfl⟩

theorem countLost_quiet (s : State) (j : Job) : Quiet s (s.countLost j) := by
  unfold State.countLost
  split
  · exact quiet_refl s
  · split <;> exact ⟨_, _, _, _, _, _, _, _, _, _, _, _, _, _, _, _, _, _, _, _, _, rfl⟩

theorem send_quiet (s : State) (m : Sent) : Quiet s (s.send m) := ⟨_, _, _, _, _, _, _, _, _, _, _, _, _, _, _, _, _, _, _, _, _, rfl⟩

theorem setJob_quiet (s : State) (n : Nat) (j : Job) : Quiet s (s.setJob n j) := ⟨_, _, _, _, _, _, _, _, _, _, _, _, _, _, _, _, _, _, _, _, _, rfl⟩

theorem dropJob_quiet (s : State) (n : Nat) : Quiet s (s.dropJob n) := ⟨_, _, _, _, _, _, _, _, _, _, _, _, _, _, _, _, _, _, _, _, _, rfl⟩

theorem count_quiet (s : State) (k n : Nat) : Quiet s (s.count k n) := ⟨_, _, _, _, _, _, _, _, _, _, _, _, _, _, _, _, _, _, _, _, _, rfl⟩

theorem sendOutput_quiet (s : State) (n : Nat) (l : List (Nat × Bytes)) : Quiet s (s.sendOutput n l) :=
  quiet_foldl _ (fun a _ => send_quiet a _) l s

theorem zeroExposed_quiet (s : State) (n : Nat) : Quiet s (s.zeroExposed n) := by
  unfold State.zeroExposed
  split
  · exact quiet_refl s
  · split
    · exact quiet_refl s
    · dsimp only
      split
      · exact quiet_trans (quiet_trans (setJob_quiet _ _ _) (count_quiet _ _ _)) (sendOutput_quiet _ _ _)
      · exact quiet_trans (quiet_trans (setJob_quiet _ _ _) (count_quiet _ _ _)) ⟨_, _, _, _, _, _, _, _, _, _, _, _, _, _, _, _, _, _, _, _, _, rfl⟩

theorem dropReads_quiet (s : State) (g : DmaRead → Bool) : Quiet s (s.dropReads g) := ⟨_, _, _, _, _, _, _, _, _, _, _, _, _, _, _, _, _, _, _, _, _, rfl⟩

theorem setUnit_quiet (s : State) (c u : Nat) (v : EngineUnit) : Quiet s (s.setUnit c u v) := ⟨_, _, _, _, _, _, _, _, _, _, _, _, _, _, _, _, _, _, _, _, _, rfl⟩

theorem takeCheckUnit_quiet (s : State) (n : Nat) : Quiet s (s.takeCheckUnit n) := by
  unfold State.takeCheckUnit
  split
  · split
    · split
      · exact quiet_trans (setUnit_quiet _ _ _ _) (setJob_quiet _ _ _)
      · exact quiet_refl s
    · exact quiet_refl s
  · exact quiet_refl s

theorem dropWaiting_quiet (s : State) (n : Nat) : Quiet s (s.dropWaiting n) := ⟨_, _, _, _, _, _, _, _, _, _, _, _, _, _, _, _, _, _, _, _, _, rfl⟩

theorem dropCommit_quiet (s : State) (n : Nat) : Quiet s (s.dropCommit n) := by
  unfold State.dropCommit
  split
  · exact quiet_refl s
  · exact ⟨_, _, _, _, _, _, _, _, _, _, _, _, _, _, _, _, _, _, _, _, _, rfl⟩

/-! ### The end of a job -/

theorem endOwn_quiet (s : State) (n st i b : Nat) : Quiet s (s.endOwn n st i b) := by
  unfold State.endOwn
  split
  · exact quiet_refl s
  · dsimp only
    have h : ∀ (j' j : Job) (l : List (Nat × Nat)), Quiet s (l.foldl (fun a u => a.startWipe n u b)
        ((((((((s.setJob n j').freeHolds n b).countBlocks j').countLost j).zeroExposed n).dropWaiting n).dropCommit n).dropReads
          (readOfJob n))) := by
      intro j' j l
      refine quiet_trans ?_ (quiet_foldl _ (fun a u => startWipe_quiet a n u b) _ _)
      refine quiet_trans ?_ (dropReads_quiet _ _)
      refine quiet_trans ?_ (dropCommit_quiet _ _)
      refine quiet_trans ?_ (dropWaiting_quiet _ _)
      refine quiet_trans ?_ (zeroExposed_quiet _ _)
      refine quiet_trans ?_ (countLost_quiet _ _)
      refine quiet_trans ?_ (countBlocks_quiet _ _)
      exact quiet_trans (setJob_quiet _ _ _) (freeHolds_quiet _ _ _)
    split
    · exact quiet_trans (h _ _ _) (endStream_quiet _ _ _)
    · exact h _ _ _

theorem stopInternal_quiet (s : State) (n b : Nat) : Quiet s (s.stopInternal n b) := by
  unfold State.stopInternal
  split
  · exact quiet_refl s
  · exact quiet_trans (quiet_trans (quiet_foldl _ (fun a u => startWipe_quiet a n u b) _ _) (freeHolds_quiet _ _ _)) (dropJob_quiet _ _)

theorem endJob_quiet (s : State) (n st i b : Nat) : Quiet s (s.endJob n st i b) := by
  unfold State.endJob
  split
  · exact quiet_trans (quiet_trans (takeCheckUnit_quiet _ _) (stopInternal_quiet _ _ _)) (endOwn_quiet _ _ _ _ _)
  · dsimp only
    have h : ∀ c : Bool, Quiet s ((if c = true then s.takeCheckUnit (n - 4096) else s).stopInternal n b) := by
      intro c
      refine quiet_trans ?_ (stopInternal_quiet _ _ _)
      split
      · exact takeCheckUnit_quiet _ _
      · exact quiet_refl s
    split
    · exact quiet_trans (h _) (endOwn_quiet _ _ _ _ _)
    · exact h _

theorem overrule_quiet (s : State) (n : Nat) (j : Job) (st i : Nat) : Quiet s (s.overrule n j st i) := by
  unfold State.overrule
  dsimp only
  split
  · exact quiet_trans (setJob_quiet _ _ _) (dropStream_quiet _ _ _)
  · exact setJob_quiet _ _ _

theorem meetJob_quiet (s : State) (n : Nat) (m : Meet) : Quiet s (s.meetJob n m) := by
  unfold State.meetJob
  split
  · exact quiet_refl s
  · split
    · split
      · exact endJob_quiet _ _ _ _ _
      · exact quiet_refl s
    · split
      · exact endJob_quiet _ _ _ _ _
      · exact quiet_refl s
    · split
      · exact quiet_refl s
      · split
        · exact setJob_quiet _ _ _
        · exact endJob_quiet _ _ _ _ _
    · split
      · exact endJob_quiet _ _ _ _ _
      · exact overrule_quiet _ _ _ _ _
    · split
      · exact endJob_quiet _ _ _ _ _
      · exact overrule_quiet _ _ _ _ _

theorem meetAll_quiet (s : State) (l : List Nat) (m : Meet) : Quiet s (s.meetAll l m) :=
  quiet_foldl _ (fun a n => meetJob_quiet a n m) l s

theorem endStranded_quiet (s : State) : Quiet s s.endStranded := quiet_foldl _ (fun _ _ => endJob_quiet _ _ _ _ _) _ s

/-! ### Device status records and modes -/

theorem wakeHost_quiet (s : State) : Quiet s s.wakeHost := by
  unfold State.wakeHost
  split
  · exact ⟨_, _, _, _, _, _, _, _, _, _, _, _, _, _, _, _, _, _, _, _, _, rfl⟩
  · exact quiet_refl s

theorem writeRecord_quiet (s : State) (r : Bytes) (c cls : Nat) (final : Bool) : Quiet s (s.writeRecord r c cls final) := by
  unfold State.writeRecord
  split
  · exact quiet_refl s
  · dsimp only
    refine quiet_trans (quiet_trans ⟨_, _, _, _, _, _, _, _, _, _, _, _, _, _, _, _, _, _, _, _, _, rfl⟩ (wakeHost_quiet _)) (quiet_foldl _ (fun a d => ?_) _ _)
    split
    · refine quiet_trans ?_ (cause_quiet _ _ _)
      split
      · exact send_quiet _ _
      · exact quiet_refl _
    · exact quiet_refl _

theorem writeStatus_quiet (s : State) (c src cls : Nat) (final : Bool) (prev : Nat) : Quiet s (s.writeStatus c src cls final prev) :=
  writeRecord_quiet _ _ _ _ _

theorem setMode_quiet (s : State) (m : Nat) : Quiet s (s.setMode m) := by
  unfold State.setMode
  split
  · exact quiet_refl s
  · exact ⟨_, _, _, _, _, _, _, _, _, _, _, _, _, _, _, _, _, _, _, _, _, rfl⟩

@[simp] theorem setMode_mode (s : State) (m : Nat) : (s.setMode m).mode.mode = m := by
  unfold State.setMode
  split
  · rename_i h; exact h.symm
  · rfl

theorem changeMode_quiet (s : State) (m : Nat) : Quiet s (s.changeMode m) := by
  unfold State.changeMode
  split
  · exact quiet_refl s
  · exact quiet_trans (setMode_quiet _ _) (writeStatus_quiet _ _ _ _ _ _)

theorem drain_quiet (s : State) (k : Nat) : Quiet s (s.drain k) := meetAll_quiet _ _ _

theorem quiesceFor_quiet (s : State) (k : Nat) : Quiet s (s.quiesceFor k) :=
  quiet_trans (quiet_trans (setMode_quiet s mQuiesce) ⟨_, _, _, _, _, _, _, _, _, _, _, _, _, _, _, _, _, _, _, _, _, rfl⟩) (drain_quiet _ _)

theorem clamp_quiet (s : State) : Quiet s s.clamp := ⟨_, _, _, _, _, _, _, _, _, _, _, _, _, _, _, _, _, _, _, _, _, rfl⟩

theorem finishLockdown_quiet (s : State) : Quiet s s.finishLockdown := by
  unfold State.finishLockdown
  split
  · exact quiet_refl s
  · split
    · exact quiet_trans (quiet_trans ⟨_, _, _, _, _, _, _, _, _, _, _, _, _, _, _, _, _, _, _, _, _, rfl⟩ (writeRecord_quiet _ _ _ _ _)) (quiet_foldl _ (fun a f => signal_quiet a f 0) _ _)
    · exact quiet_refl s

theorem lockdown_quiet (s : State) (src cls : Nat) : Quiet s (s.lockdown src cls) := by
  unfold State.lockdown
  dsimp only
  have h0 : ∀ (l : List Nat) (m : Meet), Quiet s ((s.setMode mLockdown).meetAll l m).clamp := fun l m =>
    quiet_trans (quiet_trans (setMode_quiet s mLockdown) (meetAll_quiet _ _ _)) (clamp_quiet _)
  exact quiet_trans (quiet_trans (h0 _ _) ⟨_, _, _, _, _, _, _, _, _, _, _, _, _, _, _, _, _, _, _, _, _, rfl⟩) (finishLockdown_quiet _)

/-! ### Fault events and partner violations -/

theorem faultJob_quiet (s : State) (n : Nat) : Quiet s (s.faultJob n) := by
  unfold State.faultJob
  split
  · exact quiet_refl s
  · split
    · exact endJob_quiet _ _ _ _ _
    · split
      · exact setJob_quiet _ _ _
      · exact quiet_refl s

theorem restage_quiet (s : State) (n : Nat) (j : Job) : Quiet s (s.restage n j) :=
  quiet_trans (quiet_trans (setJob_quiet _ _ _) (freeHolds_quiet _ _ _)) (quiet_foldl _ (fun a v => startWipe_quiet a n v _) _ _)

theorem jobLosesUnit_quiet (s : State) (c u src n : Nat) : Quiet s (s.jobLosesUnit c u src n) := by
  unfold State.jobLosesUnit
  split
  · exact quiet_refl s
  · dsimp only
    split
    · exact restage_quiet _ _ _
    · split
      · split
        · exact endJob_quiet _ _ _ _ _
        · exact quiet_refl s
      · split
        · exact setJob_quiet _ _ _
        · split
          · exact quiet_refl s
          · split
            · exact restage_quiet _ _ _
            · split
              · exact endJob_quiet _ _ _ _ _
              · exact quiet_refl s

theorem unitFails_quiet (s : State) (c u src : Nat) : Quiet s (s.unitFails c u src) :=
  quiet_foldl _ (fun a n => jobLosesUnit_quiet a c u src n) _ s

theorem markUnusable_quiet (s : State) (c u src : Nat) : Quiet s (s.markUnusable c u src) := by
  unfold State.markUnusable
  split
  · exact quiet_refl s
  · exact quiet_trans (quiet_trans (setUnit_quiet _ _ _ _) (unitFails_quiet _ _ _ _)) (endStranded_quiet _)

theorem followUnits_quiet (s : State) : Quiet s s.followUnits := by
  unfold State.followUnits
  split
  · exact setMode_quiet _ _
  · exact quiet_refl s

theorem draw_quiet (s : State) : Quiet s s.draw.2 := ⟨_, _, _, _, _, _, _, _, _, _, _, _, _, _, _, _, _, _, _, _, _, rfl⟩

theorem eraseSeed_quiet (s : State) : Quiet s s.eraseSeed := ⟨_, _, _, _, _, _, _, _, _, _, _, _, _, _, _, _, _, _, _, _, _, rfl⟩

theorem aoLog_quiet (s : State) (src a : Nat) : Quiet s (s.aoLog src a) := ⟨_, _, _, _, _, _, _, _, _, _, _, _, _, _, _, _, _, _, _, _, _, rfl⟩

theorem wake_quiet (s : State) : Quiet s s.wake := by
  unfold State.wake
  split
  · exact ⟨_, _, _, _, _, _, _, _, _, _, _, _, _, _, _, _, _, _, _, _, _, rfl⟩
  · exact quiet_refl s

theorem worsen_quiet (s : State) (cls : Nat) : Quiet s (s.worsen cls) :=
  quiet_trans ⟨_, _, _, _, _, _, _, _, _, _, _, _, _, _, _, _, _, _, _, _, _, rfl⟩ (meetAll_quiet _ _ _)

theorem respond_quiet (s : State) (src cls : Nat) (n : Named) : Quiet s (s.respond src cls n) := by
  unfold State.respond
  dsimp only
  have h1 : Quiet s (if cls ≥ 1 then (match n.slot with | some k => s.faultJob k | none => s) else s) := by
    split
    · split
      · exact faultJob_quiet _ _
      · exact quiet_refl s
    · exact quiet_refl s
  generalize (if cls ≥ 1 then (match n.slot with | some k => s.faultJob k | none => s) else s) = s1 at h1 ⊢
  have h2 : Quiet s1 (if cls ≥ 2 then (match n.unit with | some (c, u) => s1.markUnusable c u src | none => s1) else s1) := by
    split
    · split
      · exact markUnusable_quiet _ _ _ _
      · exact quiet_refl _
    · exact quiet_refl _
  generalize (if cls ≥ 2 then (match n.unit with | some (c, u) => s1.markUnusable c u src | none => s1) else s1) = s2 at h2 ⊢
  have h3 : Quiet s2 (if cls = 2 then (s2.followUnits).writeStatus 2 src cls false s.mode.mode else s2) := by
    split
    · exact quiet_trans (followUnits_quiet _) (writeStatus_quiet _ _ _ _ _ _)
    · exact quiet_refl _
  generalize (if cls = 2 then (s2.followUnits).writeStatus 2 src cls false s.mode.mode else s2) = s3 at h3 ⊢
  refine quiet_trans (quiet_trans (quiet_trans h1 h2) h3) ?_
  split
  · exact quiet_refl _
  · split
    · split
      · exact quiet_refl _
      · split
        · exact quiet_trans ⟨_, _, _, _, _, _, _, _, _, _, _, _, _, _, _, _, _, _, _, _, _, rfl⟩ (writeStatus_quiet _ _ _ _ _ _)
        · exact quiet_trans (quiesceFor_quiet _ _) (writeStatus_quiet _ _ _ _ _ _)
    · have h4 : Quiet s3 (if cls = 5 ∧ src ≠ 0x11 then s3.eraseSeed else s3) := by
        split
        · exact eraseSeed_quiet _
        · exact quiet_refl _
      generalize (if cls = 5 ∧ src ≠ 0x11 then s3.eraseSeed else s3) = s4 at h4 ⊢
      refine quiet_trans h4 ?_
      split
      · exact quiet_refl _
      · split
        · split
          · exact worsen_quiet _ _
          · exact quiet_refl _
        · exact lockdown_quiet _ _ _

theorem logFault_calm (s : State) (src cls : Nat) (n : Named) : Calm s (s.logFault src cls n) :=
  ⟨_, _, _, _, _, _, _, _, _, _, _, _, _, _, _, _, _, _, _, rfl⟩

theorem countFault_quiet (s : State) (src : Nat) : Quiet s (s.countFault src) := by
  unfold State.countFault
  split
  · exact count_quiet _ _ _
  · exact quiet_refl s

/-- A fault event touches nothing that `Calm` keeps. -/
theorem raiseAt_calm (s : State) (src floor : Nat) (n : Named) : Calm s (s.raiseAt src floor n) := by
  unfold State.raiseAt
  split
  · exact calm_refl s
  · dsimp only
    refine calm_trans ?_ (quiet_calm (quiet_trans (wake_quiet _) (respond_quiet _ _ _ _)))
    split
    · exact calm_trans (logFault_calm _ _ _ _) (quiet_calm (quiet_trans (countFault_quiet _ _) (aoLog_quiet _ _ _)))
    · exact calm_trans (logFault_calm _ _ _ _) (quiet_calm (countFault_quiet _ _))

theorem raise_calm (s : State) (src : Nat) (n : Named) : Calm s (s.raise src n) := raiseAt_calm s src 0 n

theorem setQueue_calm (s : State) (n : Nat) (q : Queue) : Calm s (s.setQueue n q) := ⟨_, _, _, _, _, _, _, _, _, _, _, _, _, _, _, _, _, _, _, rfl⟩

theorem signalHalt_calm (s : State) (n : Nat) : Calm s (s.signalHalt n) := by
  unfold State.signalHalt
  dsimp only
  split
  · exact calm_refl s
  · exact calm_trans ⟨_, _, _, _, _, _, _, _, _, _, _, _, _, _, _, _, _, _, _, rfl⟩ (quiet_calm (cause_quiet _ _ _))

theorem haltQueue_calm (s : State) (n c a : Nat) : Calm s (s.haltQueue n c a) := by
  unfold State.haltQueue
  dsimp only
  split
  · exact calm_refl s
  · exact calm_trans (calm_trans (setQueue_calm _ _ _) (quiet_calm (quiet_trans (meetAll_quiet _ _ _) (dropReads_quiet _ _))))
      (signalHalt_calm _ _)

theorem checkBucket_calm (s : State) (d : Nat) : Calm s (s.checkBucket d) := by
  unfold State.checkBucket
  split
  · exact calm_refl s
  · exact calm_trans (calm_trans (calm_foldl _ (fun a n => haltQueue_calm a n 4 0) _ _) (raise_calm _ _ _))
      ⟨_, _, _, _, _, _, _, _, _, _, _, _, _, _, _, _, _, _, _, rfl⟩

/-- A partner violation touches nothing that `Calm` keeps. -/
theorem violation_calm (s : State) (d : Nat) (q slot : Option Nat) : Calm s (s.violation d q slot) := by
  unfold State.violation
  dsimp only
  refine calm_trans ?_ (checkBucket_calm _ _)
  refine calm_trans ?_ (raise_calm _ _ _)
  split
  · exact calm_trans (setQueue_calm _ _ _) ⟨_, _, _, _, _, _, _, _, _, _, _, _, _, _, _, _, _, _, _, rfl⟩
  · exact ⟨_, _, _, _, _, _, _, _, _, _, _, _, _, _, _, _, _, _, _, rfl⟩

/-! ### What a fault event adds and leaves (R404, R412) -/

/-- A fault event is counted and logged; queues and buckets stay (R404, R412). -/
theorem raiseAt_fault (s : State) (src floor : Nat) (n : Named) (h : s.mode.mode ≠ mDormant) :
    (s.raiseAt src floor n).fault = (s.logFault src (s.effective src floor n) n).fault
      ∧ (s.raiseAt src floor n).rings.queues = s.rings.queues ∧ (s.raiseAt src floor n).rings.buckets = s.rings.buckets := by
  unfold State.raiseAt
  rw [if_neg h]
  dsimp only
  refine (fun k : Quiet (s.logFault src (s.effective src floor n) n) _ =>
    ⟨quiet_fault k, (quiet_queues k).trans rfl, (quiet_buckets k).trans rfl⟩) ?_
  refine quiet_trans (countFault_quiet _ src) (quiet_trans ?_ (quiet_trans (wake_quiet _) (respond_quiet _ _ _ _)))
  split
  · exact aoLog_quiet _ _ _
  · exact quiet_refl _

theorem raise_counts (s : State) (src : Nat) (n : Named) (h : s.mode.mode ≠ mDormant) :
    (s.raise src n).fault.counts = countAdd s.fault.counts src 1 32 := by
  have k := (raiseAt_fault s src 0 n h).1
  simp [State.raise, k, State.logFault]

theorem raise_rings (s : State) (src : Nat) (n : Named) :
    (s.raise src n).rings.queues = s.rings.queues ∧ (s.raise src n).rings.buckets = s.rings.buckets := by
  by_cases h : s.mode.mode = mDormant
  · simp [State.raise, State.raiseAt, h]
  · exact (raiseAt_fault s src 0 n h).2

theorem raise_queue (s : State) (src m : Nat) (n : Named) : (s.raise src n).queue m = s.queue m := by
  simp [State.queue, (raise_rings s src n).1]

theorem setQueue_queue (s : State) (n : Nat) (q : Queue) : (s.setQueue n q).queue n = q := by
  unfold State.setQueue State.queue
  dsimp only
  split
  · rename_i h; simp [h]
  · simp

theorem setQueue_other (s : State) {n m : Nat} (q : Queue) (h : m ≠ n) : (s.setQueue n q).queue m = s.queue m := by
  unfold State.setQueue State.queue
  dsimp only
  split
  · rw [tget_tdel_other _ h]
  · rw [tget_tput_other _ _ h]

theorem signalHalt_quiet (s : State) (n : Nat) : Quiet s (s.signalHalt n) := by
  unfold State.signalHalt
  dsimp only
  split
  · exact quiet_refl s
  · exact quiet_trans ⟨_, _, _, _, _, _, _, _, _, _, _, _, _, _, _, _, _, _, _, _, _, rfl⟩ (cause_quiet _ _ _)

/-- A queue that halts: a RUNNING or STOPPED one becomes HALTED (R79), any other stays as it is (R77). -/
def haltedQueue (q : Queue) (c a : Nat) : Queue :=
  if q.state ≠ .running && q.state ≠ .stopped then q else
    { q with state := .halted, haltCause := c, haltAddr := a, fetch := .idle, reading := false, doorbell := false, intake := [],
             sqHead := (q.intake.head?.map (·.index)).getD q.sqHead }

theorem setQueue_queue_eq (s : State) (n m : Nat) : (s.setQueue n (s.queue n)).queue m = s.queue m := by
  by_cases h : m = n
  · subst h; exact setQueue_queue _ _ _
  · exact setQueue_other _ _ h

/-- A halt writes its queue and no other (R79). -/
theorem haltQueue_queues (s : State) (n m c a : Nat) :
    (s.haltQueue n c a).queue m = (s.setQueue n (haltedQueue (s.queue n) c a)).queue m := by
  unfold State.haltQueue haltedQueue
  dsimp only
  split
  · exact (setQueue_queue_eq s n m).symm
  · exact quiet_queue (quiet_trans (meetAll_quiet _ _ _) (quiet_trans (dropReads_quiet _ _) (signalHalt_quiet _ n))) m

theorem haltQueue_queue (s : State) (n c a : Nat) : (s.haltQueue n c a).queue n = haltedQueue (s.queue n) c a :=
  (haltQueue_queues s n n c a).trans (setQueue_queue _ _ _)

theorem haltQueue_other (s : State) {n m : Nat} (c a : Nat) (h : m ≠ n) : (s.haltQueue n c a).queue m = s.queue m :=
  (haltQueue_queues s n m c a).trans (setQueue_other _ _ h)

end Sys2Proof.Laws
end

