-- ==== Sys2Proof/Laws/Jobs.lean ====
section
/-! SUPPORT. What the shared end of a job can do: `finish`, `signBlocks` and the masks a finished job spends. -/

namespace Sys2Proof.Laws

open Sys2Proof Sys2Proof.Machine

/-- The job that a finishing event names stands in its slot. -/
theorem running_job {s : State} {n op : Nat} {j : Job} (h : s.running n op = some j) : s.job? n = some j := by
  unfold State.running at h
  split at h
  · split at h
    · simp_all
    · simp at h
  · simp at h

/-- The job that a finishing event names runs the event's operation. -/
theorem running_opcode {s : State} {n op : Nat} {j : Job} (h : s.running n op = some j) : j.hdr.opcode = op := by
  unfold State.running at h
  split at h
  · split at h
    · simp_all
    · simp at h
  · simp at h

/-- The shared end of a job writes exactly `Job.ended` into its slot (R44, R45). -/
theorem finish_eq {s : State} {n op : Nat} {j : Job} (h : s.running n op = some j) (len : Nat) (r : Result) :
    s.finish n len r = s.setJob n (j.ended len r) := by
  simp [State.finish, State.onJob, running_job h, Job.ended]

/-- Writing one slot and spending masks leaves every other slot alone. -/
theorem onlyJob_set (s : State) (n : Nat) (j : Job) (m : Nat) : OnlyJob s ((s.setJob n j).useMasks m) n := by
  refine ⟨fun k hk => ?_, _, _, rfl⟩
  simp [State.useMasks, State.setJob, State.job?, tget_tput_other _ _ hk]

/-- A meaning that finishes its job and spends masks ends it. -/
theorem ends_masks {c : Instr} {s : State} {n op : Nat} {j : Job} {len : Nat} {r : Result} {m : Nat}
    (h : s.running n op = some j) (he : exec c s = .next ((s.finish n len r).useMasks m)) : Ends c s n j len r := by
  refine ⟨_, he, ?_, ?_⟩
  · rw [finish_eq h]; exact onlyJob_set _ _ _ _
  · rw [finish_eq h]; simp [State.useMasks, State.setJob, State.job?, tget_tput_same]

/-- The same with masks spent twice. -/
theorem ends_masks2 {c : Instr} {s : State} {n op : Nat} {j : Job} {len : Nat} {r : Result} {m m' : Nat}
    (h : s.running n op = some j) (he : exec c s = .next (((s.finish n len r).useMasks m).useMasks m')) : Ends c s n j len r := by
  refine ⟨_, he, ?_, ?_⟩
  · rw [finish_eq h]
    refine ⟨fun k hk => ?_, _, _, rfl⟩
    simp [State.useMasks, State.setJob, State.job?, tget_tput_other _ _ hk]
  · rw [finish_eq h]; simp [State.useMasks, State.setJob, State.job?, tget_tput_same]

/-- The same with no masks. -/
theorem ends_plain {c : Instr} {s : State} {n op : Nat} {j : Job} {len : Nat} {r : Result}
    (h : s.running n op = some j) (he : exec c s = .next (s.finish n len r)) : Ends c s n j len r := by
  refine ⟨_, he, ?_, ?_⟩
  · rw [finish_eq h]
    exact ⟨fun k hk => by simp [State.setJob, State.job?, tget_tput_other _ _ hk], _, _, rfl⟩
  · rw [finish_eq h]; simp [State.setJob, State.job?, tget_tput_same]

/-- A meaning that answers `signBlocks` ends its job as a signature in blocks (R44, R162). -/
theorem endsInBlocks_of {c : Instr} {s : State} {n op : Nat} {j : Job} {per p v e cl tail : Nat} {ps : Nat → Bool} {sig : Nat → Bytes}
    {b : Nat → List (Nat × Nat)} {m : Nat}
    (h : s.running n op = some j) (he : exec c s = .next ((s.signBlocks n j per p v e cl tail ps sig b).useMasks m) ∨
      exec c s = .next (s.signBlocks n j per p v e cl tail ps sig b)) :
    EndsInBlocks c s n j per p v e cl tail ps sig := by
  constructor
  · intro a ha
    rcases he with he | he
    · simp only [State.signBlocks, ha] at he
      exact ⟨_, ends_masks h he, rfl, rfl, rfl⟩
    · simp only [State.signBlocks, ha] at he
      exact ⟨_, ends_plain h he, rfl, rfl, rfl⟩
  · intro ha
    rcases he with he | he
    · simp only [State.signBlocks, ha] at he
      exact ⟨_, ends_masks h he, rfl, rfl, rfl⟩
    · simp only [State.signBlocks, ha] at he
      exact ⟨_, ends_plain h he, rfl, rfl, rfl⟩

end Sys2Proof.Laws
end

