-- ==== Sys2Proof/WellFormed.lean ====
section
/-! DEFINITION. When a command is one that the buses and links can carry: the lengths that the spec gives its operands.
Every meaning is total all the same; these are the forms that statements name. -/

namespace Sys2Proof

/-- A length lies between two bounds. -/
def lenIn (b : Bytes) (lo hi : Nat) : Bool := decide (lo ≤ b.length) && decide (b.length ≤ hi)

/-- A Herd frame on a port: header, payload and tag (R496). -/
def frameLenOk (b : Bytes) : Bool := lenIn b 32 2096

/-- A memory write request: 1 to 4,096 bytes within one 4 KiB block (R476). -/
def writeLenOk (offset : Nat) (b : Bytes) : Bool := lenIn b 1 4096 && decide (offset % 4096 + b.length ≤ 4096)

/-- A command is well formed: the lengths and ranges of its operands are those of its register, message or event. -/
def Instr.wf : Instr → Bool
  -- whole headers, at most 4,096 bytes (R62)
  | .headerReadReturn _ index data => lenIn data 64 4096 && data.length % 64 == 0 && decide (index < 65536)
  -- a parameter block of at most 1,024 bytes (R31)
  | .parameterBlockReturn _ index data => lenIn data 0 1024 && decide (index < 65536)
  -- one scatter-gather entry (R36)
  | .sgEntryReturn _ _ entry => entry.length == 16
  -- registers (R74, R476, R478, R479, R484)
  | .registerWrite _ .window offset data => writeLenOk offset data
  | .registerWrite _ .msix offset data => offset % 4 == 0 && (data.length == 4 || data.length == 8)
  | .registerWrite fn .ptm _ data => fn.val == 0 && lenIn data 1 4
  | .registerWrite _ .control offset data => (offset == 8 || offset == 0x28) && data.length == 2
  -- append entries take 1 to 1,024 bytes (R454)
  | .stageData data => lenIn data 1 1024
  | .patchData data => lenIn data 1 1024
  | .bootData data => lenIn data 1 1024
  -- slot number and digest (R344)
  | .measExtend value => value.length == 49
  -- 1,024 raw bits (R357)
  | .noiseWindow _ raw => raw.length == 128
  -- twelve lines (R384)
  | .meshStep samples => samples.1.length == 12
  -- unit numbers of the Q9's sources (R356, R374)
  | .studyCaptureEnd captured => captured.all (fun x => decide (x.1 < 4))
  -- entries of the vault (R278)
  | .statefulRebuild index => decide (index < 33554432)
  | .copyAreaFreed page => decide (page < 1048576)
  -- a data object (R485)
  | .doeObject object => lenIn object 8 65536
  -- one packet in one transfer (R489, R490)
  | .mctpPacket packet _ => lenIn packet 4 68
  | .neighbour _ frame | .hello _ frame | .helloReply _ frame | .finish _ frame | .announce _ frame | .replicate _ frame
  | .replicateAck _ frame | .partitionState _ frame | .relayReq _ frame | .relayRsp _ frame | .beatSync _ frame
  | .beatSyncReply _ frame | .close _ frame => frameLenOk frame
  | _ => true

end Sys2Proof
end

