-- ==== Sys2Proof/Tests/Slice0.lean ====
section
/-! SUPPORT. Tests: each obligation's hypotheses are met by a state and operands written out (the theorems named witness_), the
well-formedness checks refuse an ill-formed command each (wf_), and single steps give what the spec gives (test_). Hypotheses that
turn on an opaque value of Config (a published function, log 2) are left out: nothing can be evaluated about them. -/

namespace Sys2Proof.Tests

open Sys2Proof Sys2Proof.Machine

/-- A device in Service with its link up and the physical function able to send. -/
def base : State :=
  { beat := 10000000, mode := { mode := mService }, link := { up := true }, rings := { funcs := [(0, { bme := true })] } }

/-- A job of queue 0 and domain 0 in its schedule. -/
def jb (op : Nat) (ps : Nat := 1) : Job :=
  { queue := 0, domain := 0, seq := 0, admitBeat := 0, age := 0, hdr := { opcode := op, pset := ps, crcOk := true }, phase := 5 }

/-- The device with a job in slot 0. -/
def with0 (j : Job) : State := base.setJob 0 j

/-- The job runs in slot 0. -/
def Runs (s : State) (j : Job) : Prop := s.running 0 j.hdr.opcode = some j

/-- An XMSS key whose CEIL, RANGE_HI and VERSION are given, in domain 0. -/
def hbsKey (ceil hi ver : Nat) : Key :=
  { cls := 6, state := 1, gen := 0, domain := 0, pset := 1, version := ver,
    body := zeros 32 ++ leBytes 8 ceil ++ leBytes 8 0 ++ leBytes 8 hi ++ zeros 20 ++ leBytes 4 256 }

/-- The device with a key and its counter at index 0, and a job in slot 0 that uses it. -/
def withKey (k : Key) (c : CounterState) (j : Job) : State :=
  { with0 j with vault := { keys := [(0, k)], counters := [(0, c)] } }

theorem witness_MlkemOperations : ∀ op ∈ [0x0101, 0x0102, 0x0103], ∀ ps ∈ [1, 3],
    (with0 (jb op ps)).running 0 op = some (jb op ps) := by decide

theorem witness_MlkemOperations_keys :
    ekOk (List.replicate 800 255#8) = false ∧ ekOk (List.replicate 800 0#8) = true := by decide +kernel

theorem witness_LatticeSignatures :
    (∀ op ∈ [0x0201, 0x0202, 0x0203, 0x0204], ∀ ps ∈ [1, 3], (with0 (jb op ps)).running 0 op = some (jb op ps))
    ∧ ∀ op ∈ [0x0301, 0x0302], ∀ ps ∈ [1, 2], (with0 (jb op ps)).running 0 op = some (jb op ps) := by decide

theorem witness_oneShotOperations : ∀ op ∈ [0x0401, 0x0402, 0x0502, 0x0602, 0x0701, 0x0702, 0x0801, 0x0802, 0x0901, 0x0902, 0x0903, 0x0904,
    0x0905, 0x0906, 0x0A01, 0x0A02, 0x0A03, 0x0A04, 0x0B01, 0x0B02, 0x0B03, 0x0D07, 0x0D08, 0x0D09, 0x0F01, 0x0F02, 0x0F03, 0x0F04,
    0x1001, 0x1002, 0x1003, 0x1101, 0x1102, 0x1201, 0x1204, 0x1301], ∀ ps ∈ [1, 3], (with0 (jb op ps)).running 0 op = some (jb op ps) := by
  decide

theorem witness_StatefulSignatures_sign : ∀ op ∈ [0x0501, 0x0601],
    let j := { jb op with wants := true, keyIndex := some 0 }
    let s := withKey (hbsKey 256 1024 1) { next := 5, ceilC := 256, ceilRound := 256 } j
    s.running 0 op = some j ∧ s.counter? 0 = some { next := 5, ceilC := 256, ceilRound := 256 } := by decide

theorem witness_StatefulSignatures_assigned : ∀ op ∈ [0x0501, 0x0601, 0x0C06, 0x0C08],
    let k : Key := hbsKey 256 1024 1
    let j := { jb op with key := some k, counter := some 5 }
    let o := { jb op with wants := true, keyIndex := some 0 }
    let c : CounterState := { next := 5, ceilC := 256, ceilRound := 256 }
    (with0 j).running 0 op = some j ∧ AllAssigned (with0 j) ∧ j.chunk = 0
      ∧ (withKey k c o).running 0 op = some o ∧ OwedAlone (withKey k c o) 0 o 0 c := by
  unfold AllAssigned OwedAlone
  intro op h
  simp only [List.mem_cons, List.mem_nil_iff, or_false] at h
  obtain rfl | rfl | rfl | rfl := h <;>
    exact ⟨by decide +kernel, by decide +kernel, rfl, by decide +kernel, by decide +kernel, rfl, rfl, by decide +kernel,
      fun q hq => by rw [show q = hbsKey 256 1024 1 from Option.some.inj hq.symm]; decide +kernel⟩

theorem witness_StatefulSignatures_reserve : ∀ op ∈ [0x0503, 0x0603], ∀ x ∈ [(255, 256, 1024, 1), (256, 256, 256, 1),
      (256, 256, 1024, 0xFFFFFFFF), (256, 256, 1024, 1)],
    let k := hbsKey x.2.1 x.2.2.1 x.2.2.2
    let j := { jb op with keyIndex := some 0 }
    let s := withKey k { next := 5, ceilC := x.1, ceilRound := x.1 } j
    s.running 0 op = some j ∧ s.key? 0 = some k ∧ (s.counter? 0).isSome = true ∧ k.cls = 6 ∧ s.copyFull k.domain 0 = false
      ∧ (x.1 < k.ceil ∨ k.ceil ≤ x.1 ∧ (k.ceil = k.rangeHi ∨ k.version = 0xFFFFFFFF)
        ∨ k.ceil ≤ x.1 ∧ k.ceil < k.rangeHi ∧ k.version ≠ 0xFFFFFFFF) := by decide +kernel

theorem witness_SymmetricOperations :
    let j := { jb 0x0C06 with hdr := { opcode := 0x0C06, inLen := 65536 } }
    let k := { jb 0x0C06 with hdr := { opcode := 0x0C06, inLen := 65537 } }
    (0x0C06, Instr.gcmEnc 0) ∈ symmetricRows 0 ∧ (with0 j).running 0 0x0C06 = some j ∧ j.wants = false ∧ symData 0x0C06 j.hdr j.pb = 65536
      ∧ (with0 k).running 0 0x0C06 = some k ∧ symData 0x0C06 k.hdr k.pb = 65537 ∧ AllAssigned (with0 j) ∧ AllAssigned (with0 k) := by
  unfold AllAssigned
  decide +kernel

theorem witness_AeadAndTags :
    (∀ op ∈ [0x0C07, 0x0C0B, 0x0E02, 0x0E04, 0x0C09, 0x0C0F, 0x0D03, 0x0D06],
      (with0 (jb op)).running 0 op = some (jb op) ∧ symData op (jb op).hdr (jb op).pb ≤ 65536)
    ∧ ∀ op ∈ [0x0C06, 0x0C08],
      let j := { jb op with wants := true, keyIndex := some 0 }
      let s := withKey { cls := 12, state := 1, gen := 0, domain := 0 } { next := 5, ceilC := 256, ceilRound := 256 } j
      s.running 0 op = some j ∧ (s.counter? 0).isSome = true ∧ symData op j.hdr j.pb ≤ 65536 := by decide

theorem witness_StreamOperations :
    let x : Stream := { pset := 1, kind := 0x0C07, handle := 0, active := true }
    let s := fun (op : Nat) => { with0 (jb op) with streams := [(0, x)] }
    (s 0x1202).running 0 0x1202 = some (jb 0x1202) ∧ (s 0x1203).running 0 0x1203 = some (jb 0x1203)
      ∧ (s 0x1202).stream? 0 0 = some x ∧ isAeadDec x.kind = true ∧ (x.restart none).dataOf true 0 ≤ 65536
      ∧ AllAssigned (s 0x1201) ∧ AllAssigned (s 0x1202) ∧ AllAssigned (s 0x1203) ∧ x.written = 0 := by
  unfold AllAssigned
  decide +kernel

theorem witness_KeyGeneration :
    let p : ParamBlock := { present := true, template := zeros 8 ++ [6#8] }
    let j := { jb 0x1001 with pb := p, tasks := [(0, 5)] }
    let k := { jb 0x1001 with pb := p }
    p.cls = 6 ∧ (with0 j).running 0 0x1001 = some j ∧ ¬(j.tasks = [] ∧ j.suspended = [] ∧ j.slices = [])
      ∧ (with0 k).running 0 0x1001 = some k ∧ k.tasks = [] ∧ k.suspended = [] ∧ k.slices = [] := by decide

theorem witness_GenerateInChunks : ∀ c ∈ [8#8, 9#8],
    let p : ParamBlock := { present := true, template := zeros 8 ++ [c] }
    let j := { jb 0x1001 with pb := p }
    let k := { j with scratch := [2, 0, 0, 0] }
    p.cls = c.toNat ∧ (with0 j).running 0 0x1001 = some j ∧ j.scratch = [] ∧ (with0 k).running 0 0x1001 = some k ∧ k.scratch ≠ [] := by
  decide

theorem witness_VaultJobsAndRound :
    let key : Key := { cls := 12, state := 1, gen := 0, domain := 0, pset := 1, body := zeros 32 }
    let j := fun (op h : Nat) => { jb op with key := some key, keyIndex := some 0, hdr := { opcode := op, auxHandle := h } }
    (∀ op ∈ [0x1004, 0x1007], (with0 (j op 0)).running 0 op = some (j op 0)) ∧ handleClass 0 ≠ 1 ∧ handleClass (2 ^ 11) = 1
      ∧ (∀ op ∈ [0x1302, 0x1303],
        let s := { with0 (jb op) with vault := { pending := some (1, zeros 24), roundOpen := true } }
        s.running 0 op = some (jb op) ∧ s.vault.writing = none ∧ s.mode.pwrFail = false) := by decide

theorem witness_EnvelopeAndAttestation :
    let s := with0 (jb 0x1005)
    s.running 0 0x1005 = some (jb 0x1005) ∧ s.envSteps (jb 0x1005) = .inl 1 ∧ (with0 (jb 0x1006)).running 0 0x1006 = some (jb 0x1006)
      ∧ (jb 0x1006).key = none := by decide

theorem witness_OperationsComplete : ∀ x ∈ operationRows 0,
    (with0 (jb x.1)).running 0 x.1 = some (jb x.1) ∧ ScheduleFree (with0 (jb x.1)) x.1 (jb x.1) := by
  have h : ∀ x ∈ operationRows 0, (with0 (jb x.1)).running 0 x.1 = some (jb x.1)
      ∧ (with0 (jb x.1)).owedIndex (fun q => decide (q.granted + 2 ≤ (with0 (jb x.1)).beat)) = [] := by decide +kernel
  intro x hx
  exact ⟨(h x hx).1, (h x hx).2, fun _ _ => ⟨rfl, rfl, rfl⟩, fun _ i k e => by simp [jb] at e, fun _ => ⟨rfl, rfl⟩⟩

/-- The device with queue 0 enabled for domain 0 as its local queue 0. -/
def withQ (q : Queue) (more : List (Nat × Int) := []) : State :=
  { base with settings := [(entryKey 0x2400 1, 0), (entryKey 0x2400 2, 0)] ++ more,
              rings := { queues := [(0, q)], funcs := [(0, { bme := true })] } }

theorem witness_FetchAndBusErrors_fetch :
    let run : Queue := { state := .running }
    let s := fun q => withQ q [(entryKey 0x2400 0x12, 1000)]
    (s run).fetches = true ∧ (s run).canSend ((s run).qcfg 0 1) = true ∧ (s run).qcfg 0 0x12 = 1000
      ∧ (s run).reachable 0 = true ∧ (s run).queueOf 0 0 = some 0
      ∧ (let q : Queue := { run with fetch := .paused }
         (q.intake.length < (s q).qcfg 0 0xB) ∧ (s q).fetches = true)
      ∧ (let q : Queue := { run with reading := true, fetch := .active }
         q.intake.any (fun e => e.index == q.sqHead && e.reread) = false) := by decide +kernel

theorem witness_FetchAndBusErrors_errors :
    let q : Queue := { state := .running, fetch := .active, reading := true }
    let old := fun (n : Nat) => ({ read := .header 0, fails := n, failed := 0, addr := 0, waiting := false } : Retry)
    let s := fun (n : Nat) => { withQ q with rings := { queues := [(0, q)], funcs := [(0, { bme := true })], retries := [old n] } }
    let w : Retry := { read := .header 0, fails := 1, failed := base.beat - 16, addr := 0, waiting := true }
    let u := { withQ q with rings := { queues := [(0, q)], retries := [w] } }
    let v := { withQ q with rings := { queues := [(0, q)], funcs := [(0, { bme := true })], retries := [w], issued := [(.header 0, 0)] } }
    (s 0).readQueue (.header 0) = some 0 ∧ (s 0).outstanding (.header 0) = true ∧ (old 0).waiting = false ∧ (old 0).fails + 1 ≤ (s 0).qcfg 0 0x11
      ∧ (s 99).qcfg 0 0x11 < (old 99).fails + 1
      ∧ u.rings.retries.find? (fun y => y.read == .header 0) = some w ∧ w.failed + 16 ≤ u.beat
      ∧ (u.queue 0).state ≠ .halted ∧ u.canSend (u.qcfg 0 1) = false ∧ v.canSend (v.qcfg 0 1) = true
      ∧ v.rings.retries.find? (fun y => y.read == .header 0) = some w ∧ (s 0).canSend ((s 0).qcfg 0 1) = true
      ∧ v.issuedAt (.header 0) = some 0 ∧ 0 + v.readTimeout 0 ≤ ({ v with beat := 100000000 } : State).beat
      ∧ ¬ 0 + v.readTimeout 0 ≤ ({ v with beat := 1 } : State).beat
      ∧ (s 99).outstanding (.header 0) = true ∧ ((s 99).queue 0).state = .running
      ∧ (let s := { base with rings := { buckets := [(0, (1, 0, 7))] } }
         tget s.rings.buckets 0 = some (1, 0, 7) ∧ 7812500 ≤ (s.beat - 0) * s.violationRate 0 + 7) := by decide +kernel

theorem witness_BusErrors_posted :
    let done := { jb 0x1501 with phase := 9, status := some 0 }
    let new := { jb 0x1501 with phase := 2, admitBeat := base.beat }
    let sent := { jb 0x1501 with phase := 8, written := 64, endBeat := base.beat - 2, status := some 0 }
    let s := fun (j : Job) => { (withQ { state := .running }).setJob 0 j with link := { up := false } }
    (∀ j ∈ [done, new, sent], (s j).job? 0 = some j ∧ (s j).canSend j.domain = false ∧ ((s j).queue j.queue).state = .running
      ∧ ((s j).queue j.queue).silent = false ∧ ((s j).queue j.queue).reset = false ∧ ((s j).queue j.queue).disabling = false
      ∧ (s j).sec.lcOrder ≠ some 0)
    ∧ (s done).ready done = true ∧ new.admitBeat = (s new).beat ∧ 7 ≤ sent.phase ∧ sent.written ≠ 0
    ∧ (s sent).beat ≤ sent.endBeat + 2 := by decide +kernel

theorem witness_InterruptsAndControls :
    let c : Queue := { state := .running, intrCount := 1 }
    let s := withQ c
    (s.queue 0).intrCount ≠ 0 ∧ (s.queue 0).intrFirst + s.qcfg 0 0xA ≤ s.beat ∧ s.reachable 0 = true ∧ s.queueOf 0 0 = some 0
      ∧ s.mode.mode ≠ mIdle
      ∧ (let a : Queue := { state := .stopped, reset := true }
         (withQ a).aborted 0 = 0 ∧ (withQ a).qcfg 0 1 < 256 ∧ (withQ a).canSend ((withQ a).qcfg 0 1) = true)
      ∧ (let r : Queue := { state := .running, restart := true }
         r.restart = true ∧ r.abort = false ∧ r.reset = false ∧ r.disabling = false ∧ (withQ r).qcfg 0 1 < 256)
      ∧ (let d : Queue := { lost := 1 }
         (withQ d).mayConfigure 0 0 = true ∧ d.state = .disabled ∧ d.disabling = false ∧ (withQ d).enableOk 0 = true
          ∧ (withQ d).mode.mode ≠ mLockdown) := by decide +kernel

/-- A header that asks for NOP. -/
def nopIntake : IntakeHeader := { index := 3, hdr := { opcode := 0x1501, hdrVer := 1, crcOk := true, flags := 0x8000 } }

/-- Job 0 of queue 0 in phase `p`. -/
def at0 (op p : Nat) : Job := { jb op with phase := p }

theorem witness_AdmissionAndFetch_admission :
    let s := fun e => withQ { state := .running, intake := [e] }
    let bad : IntakeHeader := { nopIntake with hdr := { nopIntake.hdr with opcode := 0xFFFF } }
    let ab : IntakeHeader := { nopIntake with hdr := { nopIntake.hdr with opcode := 0x1504 } }
    (s nopIntake).nextQueue = some 0 ∧ (s nopIntake).freeSlot = some 0 ∧ (s nopIntake).jobs.admitted < 4
      ∧ (s nopIntake).canSend 0 = true ∧ (s nopIntake).admissionFailure 0 nopIntake.hdr [] = none
      ∧ (s bad).admissionFailure 0 bad.hdr [] = some 0x10 ∧ (s ab).admissionFailure 0 ab.hdr [] = none := by decide +kernel

theorem witness_AdmissionAndFetch_fetch :
    let j := at0 0x1501 2
    let k := { j with windowKiB := 64 }
    let w := { j with inWalk := { done := false }, outWalk := { done := false } }
    j.phase = 2 ∧ w.inWalk.done = false ∧ k.windowKiB ≠ 0
      ∧ (with0 j).windowsOf 0 + (with0 j).qcfg 0 0xE ≤ (with0 j).wheel.dataShare 0
      ∧ (with0 k).stagingWant k = 0 ∧ ((with0 k).setJob 0 ((with0 k).takeInput k [])).fetched ((with0 k).takeInput k []) = true
      ∧ (let r := { k with hdr := { opcode := 0x1501, inLen := 64 }, reading := true }; (with0 r).reads r = true)
      ∧ (with0 k).wantedReads 0 k = [] ∧ (with0 w).wantedReads 0 w ≠ [] ∧ (∀ x ∈ (with0 w).wantedReads 0 w, (with0 w).waitsRetry x.1 = false) ∧ (with0 w).canSend ((with0 w).qcfg 0 1) = true
      ∧ (let c := { with0 w with link := {} }
         c.canSend (c.qcfg 0 1) = false ∧ (c.wantedReads 0 w).filter (fun x => (c.issuedAt x.1).isNone && !c.waitsRetry x.1) ≠ []) := by
  decide +kernel

theorem witness_WaitingAndStartRights_waiting :
    let e := { at0 0x1501 3 with eligible := true }
    let m := { at0 0x0801 3 with cls := 8, eligible := true }
    let d := { at0 0x0C06 3 with drbg := true, heldStart := some 0, heldFrom := some 0 }
    let k := { at0 0x0C06 3 with masked := true, heldMasks := some 0 }
    let up := fun (j : Job) => { with0 j with entropy := { state := 2 } }
    let a := { at0 0x1504 1 with hdr := { opcode := 0x1504, tag := 9, auxHandle := 5 } }
    let v := { at0 0x1501 3 with hdr := { opcode := 0x1501, tag := 5 } }
    let w := { with0 (at0 0x1501 3) with settings := [(entryKey 0x2400 0x13, 1000)] }
    (with0 e).eligible 0 e = true ∧ (with0 e).serves = true
      ∧ (with0 m).eligible 0 m = true ∧ ((with0 m).unit 6 0x80).busy = false
      ∧ (with0 m).earlier m (fun k => k.cls == 8 && decide (k.phase ≤ 3)) = false
      ∧ ((with0 v).setJob 1 a).abortTarget a.hdr = some 0 ∧ v.live = true
      ∧ w.qcfg 0 0x13 = 1000 ∧ (at0 0x1501 3).fetchEnd + w.qcfg 0 0x13 ≤ w.beat
      ∧ 0 + msBeats ((with0 d).cfg 0x5000 4) ≤ (with0 d).beat ∧ (with0 d).entropy.state < 2
      ∧ (with0 d).heldByEntropy 0 d = true ∧ (up d).heldByInstance d = true ∧ (up k).heldByMasks 0 k = true := by decide +kernel

theorem witness_WaitingAndStartRights_rights :
    let j := { at0 0x0C05 3 with cls := 7, unitHi := 15, eligible := true }
    let s := { with0 j with wheel := { running := true } }
    let idle := { base with wheel := { running := true } }
    let cell := s.wheel.cell s.position 15
    s.jobs.offered.all (fun x => decide (x < 15)) = true ∧ cell.valid = true ∧ s.wheel.kept s.wheel.tier s.position 15 = true
      ∧ (s.unit 7 cell.unit).live s.beat = true ∧ s.unitBusy 7 cell.unit = false ∧ columnClass 15 = 7
      ∧ s.select cell 7 = some (0, j) ∧ (s.reserved 0 j 7 cell.unit).isSome = true ∧ idle.select cell 7 = none := by decide +kernel

theorem witness_StagingEnds :
    let j := at0 0x1501 4
    let s := with0 j
    let u := (s.lookupHandles j).openHandles j
    let bad := { j with inWalk := { err := 0x16 } }
    let h := { at0 0x0101 4 with hdr := { opcode := 0x0101, pset := 1, keyHandle := 5 } }
    let i : Key := { cls := 2, state := 1, gen := 0, domain := 0, pset := 1, body := zeros 32 }
    let e := { at0 0x10000 5 with key := some i, keyIndex := some 0, queue := 1024, hdr := { opcode := 0x10000 } }
    let x := (with0 (at0 0x0201 3)).setJob 4096 e
    j.granted + 1 ≤ s.beat ∧ j.chunk = 0 ∧ j.drawsNext = false ∧ { at0 0x1101 4 with drbg := true }.drawsNext = true ∧ s.destroyWaits 0 j = false ∧ j.walkFailure = none
      ∧ u.stageHandle j (u.spec j) false = .inr none ∧ u.stageHandle j (u.spec j) true = .inr none ∧ j.noRoom = false
      ∧ u.outOfTurn j.hdr.opcode = false ∧ u.placeNew j (u.spec j) = .inr none
      ∧ bad.walkFailure = some (0x16, 0)
      ∧ (((with0 h).lookupHandles h).openHandles h).stageHandle h ((((with0 h).lookupHandles h).openHandles h).spec h) false = .inl (0x20, none)
      ∧ x.job? 4096 = some e ∧ e.granted + 2 + e.runLen i ≤ x.beat ∧ i.units ≠ 0 ∧ expansionFault i = none ∧ x.expRoom 0 i.units = true
      ∧ ((with0 j).setJob 4096 { e with phase := 4 }).destroyWaits 4096 { e with phase := 4 } = false := by decide +kernel

theorem witness_JobEnds :
    let r : Result := { status := 0, out := [] }
    let j := { jb 0x1501 with result := some r }
    let m := { jb 0x0C01 with result := some { r with more := true } }
    let q := { jb 0x1001 with slices := [(3, 100, 50)] }
    let d := { at0 0x1002 9 with hdr := { opcode := 0x1002 } }
    let c := { at0 0x1501 9 with status := some 0 }
    let u := { base with jobs := { units := [(unitKey 2 0, { busy := true, wipeEnd := 10 })] } }
    let s := { withQ { state := .running } with jobs := { slots := [(0, c)] } }
    (with0 j).scheduleOver 0 j = true ∧ (with0 m).scheduleOver 0 m = true ∧ (with0 m).serves = true
      ∧ q.slices.find? (fun y => y.1 == 3) = some (3, 100, 50) ∧ 100 + 50 ≤ (with0 q).beat
      ∧ wipedUnit 2 0 = (2, 0) ∧ (u.unit 2 0).busy = true ∧ (u.unit 2 0).wipeEnd = 10
      ∧ u.jobs.holds.any (fun h => h.kind == hkUnit) = false ∧ m.dmaErr = none ∧ r.fault = none ∧ j.dmaErr = none ∧ q.dmaErr = none ∧ (with0 j).canSend j.domain = true
      ∧ (with0 d).completionWaits d = false
      ∧ s.ready c = true ∧ (s.queue 0).silent = false ∧ s.canSend 0 = true ∧ s.sec.lcOrder ≠ some 0
      ∧ s.jobs.slots.any (fun x => x.2.queue == c.queue && s.ready x.2 && older (s.ageOf x.2) (s.ageOf c)) = false := by decide +kernel

theorem witness_OrderRows :
    let j := { jb 0x1401 2 with input := [] }
    (2, Instr.lcSet 0, (actLcSet : Action)) ∈ orderRows 0 ∧ (with0 j).job? 0 = some j ∧ j.dmaErr = none ∧ j.granted + 2 + j.orderLen ≤ (with0 j).beat
      ∧ (with0 j).orderFailure j = some (stOrderMalformed, 0) := by
  refine ⟨by simp [orderRows], ?_⟩
  decide +kernel

/-- A roster of two records, the second paired. -/
def roster (d : Nat) : Bytes := [u8 d, 2#8, 2#8] ++ zeros 5 ++ zeros 2024 ++ [0#8, 1#8] ++ zeros 2022

theorem witness_OrderActions :
    byteAt (roster 0) 0 = 0 ∧ rosterOk (roster 0) = true ∧ byteAt (roster 1) 0 = 1 ∧ rosterOk (roster 1) = true
      ∧ (base.dom 1).dstate = 0 ∧ allZero ([1#8].drop 1) = true
      ∧ (let s := { base with domains := [(1, { dstate := 1 })] }; (s.dom 1).dstate ≠ 0)
      ∧ (let s := { base with wheel := { stageCheck := 2 } }; s.wheel.stageCheck = 2 ∧ s.mode.mode ≠ mIdle ∧ s.maintPending maSwap 0 = false)
      ∧ (let p : Bytes := [255#8, 1#8, 0#8, 0#8]; field p 0 2 ≠ 0 ∧ field p 0 2 < 512 ∧ field p 2 2 = 0 ∧ field p 0 2 &&& base.ao.fused = 0)
      ∧ (let s := { base with patch := { minVersion := 1, version := 2, status := 2 } }
         s.patch.minVersion < field [2#8, 0#8, 0#8, 0#8] 0 4 ∧ field [2#8, 0#8, 0#8, 0#8] 0 4 ≤ s.patch.version
           ∧ field [1#8, 0#8, 0#8, 0#8] 0 4 ≤ s.patch.minVersion)
      ∧ (let p := zeros 12; -2000 ≤ calTrimOf p ∧ calTrimOf p ≤ 2000 ∧ byteAt p 8 = 0 ∧ allZero (slice p 9 3) = true)
      ∧ studyOk ([1#8, 1#8, 0#8, 0#8] ++ leBytes 4 1024) = true := by decide +kernel

theorem witness_Sweeps :
    let k : Key := { cls := 12, state := 1, gen := 0xFFFE, domain := 1, span := 32 }
    let s := { base with domains := [(1, { dstate := 2 })], vault := { keys := [(0, k)], loaded := true, sweepKeys := [0] } }
    let n := { base with domains := [(1, { dstate := 2 })], vault := { loaded := true } }
    let out := { base with domains := [(1, { dstate := 2, retire := true })], vault := { loaded := true } }
    let h : Key := { hbsKey 256 1024 1 with pset := 1 }
    let c : CounterState := { next := 5, ceilC := 256, ceilRound := 256, ready := false }
    let r := { base with vault := { keys := [(0, h)], counters := [(0, c)] } }
    let j := { jb opRebuild with tasks := [], phase := 3 }
    s.toSweep 1 = [(0, 32)] ∧ s.key? 0 = some k ∧ k.span ≤ 32 ∧ s.vault.keys.all (fun x => decide (x.2.gen < 0xFFFF)) = true ∧ s.vault.sweepKeys = 0 :: [] ∧ n.toSweep 1 = [] ∧ (n.dom 1).dstate = 2 ∧ (n.dom 1).retire = false
      ∧ out.toSweep 1 = [] ∧ (out.dom 1).retire = true ∧ base.vault.loaded = false
      ∧ r.key? 0 = some h ∧ r.counter? 0 = some c ∧ r.serves = true ∧ r.job? (rebuildSlot 0) = none
      ∧ (r.setJob (rebuildSlot 0) j).job? (rebuildSlot 0) = some j ∧ j.suspended = [] ∧ j.slices = [] := by decide +kernel

theorem witness_WheelRows :
    let s := { base with beat := 4096, wheel := { running := true, swapState := 3 } }
    let u := { base with beat := 4096, wheel := { running := true, tierNext := 2 } }
    let a := { base with beat := 4095, wheel := { running := true, align := 1 } }
    let b := { base with beat := 4096, wheel := { running := true, align := -1 } }
    s.position = 0 ∧ s.wheel.align = 0 ∧ u.position = 0 ∧ u.wheel.tierNext ≠ 0xFF ∧ a.position = 4095 ∧ 0 < a.wheel.align
      ∧ b.position = 0 ∧ b.wheel.align < 0 ∧ b.wheel.holding = false
      ∧ base.writable = true ∧ base.dict.locked.contains (entryKey 0x1201 1) = false ∧ base.wheel.stageCheck ≠ 3
      ∧ base.mode.mode ≠ mAssembly ∧ base.wheel.staged.length + 63 < 64 := by decide

theorem witness_VaultLoad :
    let s := { base with mode := { mode := mAssembly } }
    let l := { s with vault := { loadStatus := 1 } }
    s.vault.loadStatus ≠ 1 ∧ s.vault.loaded = false ∧ s.mode.wheelPhase = false ∧ s.mode.bootPhase = false
      ∧ s.acceptable.any (fun r => r.1 == 0) = true ∧ l.vault.loadStatus = 1 ∧ walkImage (l.cfg 0x4002 2) [] 0 [] = .inr (6, 0) := by decide +kernel

theorem witness_JournalRows :
    let c := ({ committed := false, wseq := 1, rootSeq := 1, nextSeq := 2, mac := zeros 24, crc := 0 } : JournalSlot).sealed
    let w : SlotWrite := { region := 0, slot := 0, content := c, job := some 0 }
    let s := { with0 (jb 0x1302) with vault := { writing := some w, pending := some (1, zeros 24) } }
    let v := { with0 (jb 0x1303) with vault := { writing := some { w with content := { c with committed := true } } } }
    let r := { base with maint := { running := [(maRotate, (0, 0))] }, vault := { journal := [(0, c)], commits := 2 ^ 32 } }
    let q := { base with vault := { loaded := true, dirty := [0] } }
    s.vault.writing = some w ∧ w.started = true ∧ w.region = s.vault.region ∧ ((s.job? 0).map Job.live).getD false = true
      ∧ s.vault.pending = some (c.rootSeq, c.mac) ∧ v.vault.pending ≠ some (c.rootSeq, c.mac) ∧ w.fails = 0
      ∧ (let w2 := { w with fails := 1 }; w2.fails ≠ 0) ∧ s.classOf 0x92 ≤ 3 ∧ (s.job? 0).map (·.phase) = some 5
      ∧ r.grantOf maRotate = some (0, 0) ∧ currentSlot r.vault.journal (fun _ => true) = some (0, c) ∧ r.canWriteSlot = true
      ∧ r.cfg 0x4001 4 ≤ r.vault.commits
      ∧ q.vault.loaded = true ∧ q.vault.roundOpen = false ∧ q.vault.dirty ≠ [] ∧ q.vault.pending = none ∧ q.vault.lastCommit + msBeats (q.cfg 0x4001 1) ≤ q.beat
      ∧ (let z := { base with vault := { lastPending := some (base.beat - 78125) } }; z.vault.lastPending = some (base.beat - 78125)
          ∧ base.beat - 78125 + 78125 ≤ z.beat)
      ∧ (base.vault.frozen.drop base.vault.exported).contains 0 = false := by decide +kernel

theorem witness_MaintenanceRows :
    let p := { base with vault := { purging := [0] } }
    let r : MaintReq := { act := maScrub, beat := 0 }
    let o := { base with beat := 10 ^ 12, maint := { queue := [r] } }
    let s := { base with beat := 10 ^ 12, maint := { running := [(maScrub, (0, 5))] } }
    let t := { base with vault := { retrainFrom := some 0, retrainOpen := some (base.beat - 480) } }
    let e := { base with maint := { running := [(maPurge, (1, base.beat - 512))] } }
    (∀ y ∈ [r], y.beat < ({ act := maCommit, beat := 1 } : MaintReq).beat) ∧ ({ act := maSwap, beat := 0 } : MaintReq).beat = r.beat
      ∧ ({ act := maRolling, beat := 0 } : MaintReq).act < r.act
      ∧ p.hasWork maPurge 0 = true ∧ p.maintPending maPurge 0 = false
      ∧ { p with maint := { queue := [{ act := maPurge, beat := 0 }] } }.maintPending maPurge 0 = true
      ∧ p.partitionUnusable 0 = false ∧ r ∈ o.maint.queue ∧ r.beat + msBeats (o.cfg 0x6902 3) ≤ o.beat ∧ o.classOf 0xB6 ≤ 2
      ∧ s.grantOf maScrub = some (0, 5) ∧ 5 + 512 ≤ s.beat ∧ s.vault.scrubSince + secBeats (s.cfg 0x4004 1) ≤ s.beat
      ∧ t.vault.retrainOpen = some (base.beat - 480) ∧ base.beat - 480 + 480 ≤ t.beat ∧ t.mode.mode ≠ mSelfTest
      ∧ e.grantOf maPurge = some (1, base.beat - 512) := by decide +kernel

/-- Entropy ready with all four sources qualified. -/
def ready : EntropyState :=
  { state := 2, sources := [(0, { state := 2 }), (1, { state := 2 }), (2, { state := 2 }), (3, { state := 2 })], rootUp := true,
    rootLast := base.beat }

theorem witness_NoiseAndGenerators_sources :
    let s := { base with entropy := ready }
    let good : Bytes := List.replicate 128 0x55#8
    let bad : Bytes := List.replicate 128 0#8
    let r := fun (st n : Nat) => { base with entropy := { sources := [(0, { state := st, failedInRow := n, nextAttempt := some base.beat })] },
                                             maint := { running := [(maRequal, (0, base.beat - 500))] } }
    { s with entropy := { s.entropy with state := 4 } }.qualified 0 = true ∧ s.mode.mode ≠ mDormant ∧ s.qualified 0 = true ∧ (rctScan (rctCutoff 0) (rawBits good) (s.source 0).lastBit (s.source 0).run).1 = false
      ∧ aptFails (aptCutoff 0) (rawBits good) = false
      ∧ (rctScan (rctCutoff 0) (rawBits bad) (s.source 0).lastBit (s.source 0).run).1 = true
      ∧ (r 4 0).grantOf maRequal = some (0, base.beat - 500) ∧ ((r 4 0).source 0).state = 4 ∧ base.beat - 500 + 500 ≤ (r 4 0).beat
      ∧ ((r 4 14).source 0).failedInRow + 1 < (r 4 14).cfg 0x5000 6 ∧ (r 4 15).cfg 0x5000 6 ≤ ((r 4 15).source 0).failedInRow + 1
      ∧ ((r 3 0).source 0).nextAttempt = some base.beat ∧ { r 3 0 with maint := {} }.maintPending maRequal 0 = false := by decide +kernel

theorem witness_NoiseAndGenerators_generators :
    let c := { base with entropy := { ready with bits := zeros 96 } }
    let r := { base with entropy := { ready with fifo := [zeros 48], rootLast := base.beat - 7813 } }
    let d := { base with entropy := { ready with fifo := [zeros 48], rootDue := some 0 } }
    let n := { base with entropy := { ready with fifo := [zeros 48], rootDue := some 1 } }
    let a := { base with entropy := { ready with rootLast := base.beat - 15626 } }
    let m := { base with entropy := { ready with instances := [(256, { up := true })], masks := [(0, { seeded := true, last := base.beat - 7813 })] } }
    let h := { base with entropy := { ready with masks := [(0, { heldFrom := some 0 })] } }
    c.entropy.fifo.length < 16 ∧ c.entropy.condStart + 125 * (c.entropy.condCount + 1) / 2 ≤ c.beat ∧ c.entropy.condLast + 62 ≤ c.beat ∧ 96 ≤ c.entropy.bits.length
      ∧ r.entropy.fifo ≠ [] ∧ r.entropy.rootDue = none ∧ r.entropy.rootUp = true ∧ d.entropy.rootDue = some 0 ∧ 0 < d.entropy.fifo.length
      ∧ n.entropy.rootDue = some 1 ∧ n.entropy.fifo.length ≤ 1 ∧ r.entropy.rootLast + 7813 ≤ r.beat ∧ a.entropy.rootLast + 15625 < a.beat
      ∧ (m.maskUnit 0).last + 7813 ≤ m.beat ∧ m.masksRepeat (m.maskUnit 1) = false ∧ (m.maskUnit 1).seeded = false ∧ m.canServe 256 = true ∧ h.canServe 256 = false ∧ (h.maskUnit 0).seeded = false
      ∧ (h.maskUnit 0).heldFrom = some 0 ∧ 0 + msBeats (h.cfg 0x5000 4) ≤ h.beat := by decide +kernel

theorem witness_EntropySequences :
    let at_ := fun (n : Nat) => { base with entropy := { ready with state := 1, step := n, stepBeat := base.beat - State.stepBeats base n } }
    let two := { base with entropy := { state := 1, step := 2, sources := [(0, { state := 1 }), (1, { state := 1 }), (2, { state := 1 }), (3, { state := 1 })] } }
    let four := { at_ 4 with sec := { seedDue := true }, entropy := { (at_ 4).entropy with stepBeat := 0, fifo := [zeros 48] } }
    let five := { at_ 5 with entropy := { (at_ 5).entropy with fifo := [zeros 48] } }
    let study := { base with mode := { mode := mStudy }, entropy := { state := 4, studyState := 1, studyKind := 1, studySamples := 1024, studyMask := 1 } }
    let read := { base with entropy := { studyBits := [(0, [1#8])] } }
    (∀ n ∈ [1, 3, 5, 6, 7], (at_ n).entropy.stepBeat + (at_ n).stepBeats n ≤ (at_ n).beat ∧ (at_ n).mode.stopped = false ∧ (at_ n).entropyMin = true
        ∧ (at_ n).entropy.stepBeat ≠ 0) ∧ five.entropy.step = 5 ∧ five.entropy.fifo ≠ []
      ∧ (∀ i, i < 4 → (two.source i).state = 1) ∧ two.entropy.stepBeat + two.stepBeats 2 ≤ two.beat
      ∧ four.sec.seedDue = true ∧ four.seedBlocks ≤ four.entropy.fifo.length ∧ four.entropy.stepBeat + four.stepBeats 4 ≤ four.beat
      ∧ (at_ 3).entropy.limitOver = false ∧ (at_ 3).entropy.step < 7 ∧ (at_ 3).entropy.startBeat + msBeats ((at_ 3).cfg 0x5000 8) ≤ (at_ 3).beat
      ∧ study.mode.modeBeat + captureBeats study.entropy.studyKind study.entropy.studySamples ≤ study.beat
      ∧ read.entropy.studyPos < ((tget read.entropy.studyBits (read.cfg 0x5030 2)).getD []).length
      ∧ ((tget base.entropy.studyBits (base.cfg 0x5030 2)).getD []).length ≤ base.entropy.studyPos := by decide +kernel

/-- R371: step 3 of the start-up passes samples that take every value alike, and fails a run of one value. -/
theorem witness_EntropySequences_samples :
    let good : Bytes := (List.range 4096).map u8
    4096 ≤ good.length ∧ samplesFail good = false ∧ 4096 ≤ (zeros 4096).length ∧ samplesFail (zeros 4096) = true ∧ (0 + 1) % 3 ≠ 0 := by
  decide +kernel

theorem witness_TamperAndAlwaysOn_alarms :
    let on := fun (a : AoState) (m : Nat) => { base with settings := [(entryKey 0x6000 1, 511)], ao := a, mode := { mode := m } }
    let mesh := on { meshes := [(0, { consecutive := 2 })] } mService
    let off := on { meshes := [(0, { consecutive := 2 })], eraseMap := 1 } mDormant
    let keep := on { meshes := [(0, { consecutive := 2 })], eraseMap := 0 } mDormant
    let sense := on { senses := [(0, { level := true, runTime := some 328 })] } mService
    let zero := on { zeroRun := 3 } mService
    mesh.monitored 0 = true ∧ mesh.aoCfg 0x6000 10 ≤ (mesh.mesh 0).consecutive ∧ 0 ∉ mesh.ao.alarmed
      ∧ sense.monitored 5 = true ∧ 32768 * sense.aoCfg 0x6020 2 ≤ 1000 * 328
      ∧ zero.monitored 0x0A = true ∧ 3 ≤ zero.ao.zeroRun
      ∧ off.monitored 0 = true ∧ bit off.ao.eraseMap 0 = true ∧ keep.monitored 0 = true ∧ bit keep.ao.eraseMap 0 = false := by decide +kernel

theorem witness_TamperAndAlwaysOn_events :
    let dormant := { base with mode := { mode := mDormant } }
    let u := { (with0 { at0 0x0C05 5 with unit := some (7, 0) }) with selfTest := { scrubs := [(0, 0, 9)] } }
    base.detectorFires 0 599 = true ∧ base.detectorFires 0 600 = false ∧ base.mode.mode ≠ mDormant
      ∧ (base.aoCfg 0x6000 9 ≤ 1251 ∧ (1250 : Int) < 1251) ∧ ((-1000 : Int) < base.aoCfg 0x6000 9)
      ∧ ((2000 : Int) < base.aoCfg 0x6000 7 ∧ base.ao.vbatLow = false ∧ base.aoCfg 0x6000 7 ≤ (3000 : Int)) ∧ base.ao.lines.length ≠ 12 ∧ dormant.mode.mode = mDormant
      ∧ (let f := { base with ao := { burning := [3], burnAt := base.beat - 782 } }; f.ao.burnAt + 782 ≤ f.beat)
      ∧ base.writable = true ∧ base.forceable 0x40 = true ∧ base.classOf 0x40 ≤ 3 ∧ alarmSource 0x40 = false ∧ base.forceable 0x20 = true ∧ 3 < base.classOf 0x20
      ∧ u.jobOn 7 0 = some 0 ∧ u.selfTest.scrubs.contains (u.scrubMark 0 8) = false ∧ u.selfTest.scrubs.contains (u.scrubMark 0 9) = true
      ∧ base.classOf 0x2F = 5 ∧ base.detectorFires 15 699 = true ∧ base.mode.pwrFail = false := by decide +kernel

theorem witness_RollingTest :
    let s := { base with settings := [(entryKey 0x6900 1, 1)] }
    let u := { base with jobs := { units := [(unitKey 1 0, { state := 1 })] } }
    let t := { base with selfTest := { testing := some (0, base.beat - 15625, true), testBegun := true } }
    let r := { base with jobs := { units := [(unitKey 1 0, { state := 3 })] } }
    s.cfg 0x6900 1 ≠ 0 ∧ s.serves = true ∧ secBeats (s.cfg 0x6900 1) ≤ 42 * (s.beat - s.selfTest.lastRolling)
      ∧ s.nextPartition 0 = some 0 ∧ s.maintPending maRolling 0 = false
      ∧ (u.unit 1 0).state = 1 ∧ u.idleUnit 1 0 = true ∧ base.beat - 15625 + 15625 ≤ t.beat
      ∧ (let p := partitionOf 1 0; p < 42 ∧ (partitionUnits p).any (fun x => (r.unit x.1 x.2).state == 3) = true
          ∧ r.maint.queue.any (fun x => x.act == maRolling && x.who == p) = false)
      ∧ 42 ≤ partitionOf 9 0 := by decide +kernel

theorem witness_StartUp :
    let at_ := fun (m n : Nat) (a : AoState) => { State.reset with beat := 1000000, mode := { mode := m, step := n }, ao := a }
    let off := { State.reset with mode := { mode := mDormant } }
    off.mode.lockdownHold = false ∧ off.mode.pwrFail = false ∧ off.sec.lcOrder = none
      ∧ (at_ mReset 1 {}).stepDue mReset 1 7813 = true ∧ (at_ mReset 1 {}).ramValid = true ∧ (at_ mReset 1 {}).ao.nextGen = 0
      ∧ (at_ mSelfTest 2 {}).stepDue mSelfTest 2 117188 = true ∧ (at_ mSelfTest 3 {}).stepDue mSelfTest 3 312500 = true
      ∧ (at_ mSelfTest 5 {}).stepDue mSelfTest 5 (at_ mSelfTest 5 {}).step5Beats = true ∧ (at_ mSelfTest 5 {}).chainHolds = true
      ∧ (let i := at_ mSelfTest 5 { intruded := true }; i.stepDue mSelfTest 5 i.step5Beats = true ∧ i.ao.intruded = true ∧ i.lcState ≠ 5
          ∧ i.chainHolds = true)
      ∧ (at_ mSelfTest 6 {}).stepDue mSelfTest 6 15625 = true
      ∧ (let s := { at_ mSelfTest 2 {} with mode := { mode := mSelfTest, step := 2, stopped := true } }; s.mode.stopped = true) := by decide +kernel

theorem witness_PatchAndBoot :
    let w := { base with beat := 10 ^ 9, mode := { mode := mPatch, step := 7 } }
    let v := { w with patch := { minVersion := 1 } }
    let b := { base with mode := { mode := mAssembly, bootPhase := true } }
    let d := fun (n : Nat) => { base with mode := { mode := mAssembly }, vault := { loadStatus := n } }
    w.patchOpen = true ∧ w.patchCheck = 3 ∧ (zeros 1024).length = 1024 ∧ w.patch.staged.length + 1024 ≤ 184043
      ∧ w.mode.windowBeat + msBeats (w.cfg 0x6901 9) ≤ w.beat ∧ w.patch.minVersion = 0 ∧ v.patch.minVersion ≠ 0 ∧ base.patchOpen = false
      ∧ b.mode.bootPhase = true ∧ b.dict.bootStaged.length + 1024 ≤ 65536
      ∧ (∀ m ∈ [{ (d 3).mode with nextMode := mService }], m.mode = mAssembly ∧ m.nextMode = mService) ∧ (d 3).vault.loadStatus = 3 ∧ (d 3).vault.counters = [] ∧ (d 3).mode.stopped = false ∧ (d 1).vault.loadStatus ≠ 3 := by decide +kernel

theorem witness_ModeRows :
    let q := fun (m : ModeState) => { base with mode := { m with mode := mQuiesce } }
    let i := { base with settings := [(entryKey 0x1102 1, 1)], mode := { mode := mService, idleFrom := some 0 } }
    let sl := fun (m : ModeState) => { base with mode := { m with mode := mIdle, cameFrom := mService } }
    base.serves = true ∧ (with0 (at0 0x1501 4)).job? 0 = some (at0 0x1501 4)
      ∧ (q { drained := true, quiesceKind := 1 }).mode.studyPending = false
      ∧ (q { studyPending := true, quiesceKind := 1 }).jobs.slots = [] ∧ (q { drained := true }).sec.lcOrder = none
      ∧ ({ base.mode with nextMode := mIdle } : ModeState).mode = mService ∧ i.idleReady = true ∧ i.mode.idleFrom = some 0 ∧ 0 + msBeats (i.cfg 0x1102 2) ≤ i.beat
      ∧ (sl {}).mode.wakeBeat = none ∧ (sl { wakeBeat := some (base.beat - 125) }).mode.held = [] ∧ base.beat - 125 + 125 ≤ (sl {}).beat
      ∧ (let c := { base with beat := 10 ^ 14, mode := { mode := mCeremony } }; c.mode.ceremonyBeat + secBeats (c.cfg 0x1102 5) ≤ c.beat) := by
  decide +kernel

theorem witness_PowerRows :
    base.serves = true
      ∧ (∀ m ∈ [1, 4], (1 ≤ ({ base with mode := { mode := m } } : State).mode.mode ∧ ({ base with mode := { mode := m } } : State).mode.mode ≤ 4))
      ∧ base.mode.mode ≠ mDormant ∧ base.mode.mode ≠ mLockdown ∧ base.sec.lcOrder = none
      ∧ ({ base with mode := { mode := mLockdown } } : State).mode.mode = mLockdown := by decide

theorem witness_PcieFunctions :
    let s := withQ { state := .running }
    s.link.up = true ∧ (s.queue 0).state ≠ .disabled ∧ s.qcfg 0 1 = (0 : Fin 256).val ∧ 1 ≤ 1
      ∧ (1 : Nat) ≤ ({ s with port := { vfEnable := true, numVfs := 1 } } : State).port.visible
      ∧ ({ s with mode := { s.mode with step := 7 } } : State).takesConfig = true ∧ ({ s with link := {} } : State).takesConfig = false
      ∧ (8 * 4096 + 0x2A : Nat) < 65536 := by decide +kernel

theorem witness_SecureLinks :
    let p := { base with port := { ptmEnable := true } }
    let d := { base with port := { doe := [1#8, 0#8, 1#8, 0#8, 3#8, 0#8, 0#8, 0#8, 0x10#8, 0x84#8, 0#8, 0#8] } }
    let y : SpdmSession := { formed := true }
    let h := { base with port := { spdm := [(0, { stage := 3, sessions := [(1, y)] })], ide := [(1, { state := 2 })] } }
    let e := { d with port := { d.port with doe := d.port.doe.set 9 0xE3#8 } }
    ({ p with mode := { p.mode with step := 7 } } : State).takesConfig = true ∧ p.port.ptmAsked = none ∧ p.port.ptmLastAsk + msBeats (p.cfg 0x9001 4) ≤ p.beat
      ∧ (let o : Bytes := [1#8, 0#8, 0#8, 0#8, 3#8, 0#8, 0#8, 0#8]; field o 0 2 = 1 ∧ doeType o = 0 ∧ o.length = 8)
      ∧ d.port.doe ≠ [] ∧ doeType d.port.doe = 1 ∧ (d.spdm 0).inOrder none (d.port.doe.drop 8) = true ∧ byteAt (d.port.doe.drop 8) 1 = 0x84
      ∧ (e.spdm 0).inOrder none (e.port.doe.drop 8) = false
      ∧ tget (h.spdm 0).sessions 1 = some y ∧ (h.spdm 0).sessions.any (fun x => x.2.formed) = true
      ∧ tget h.port.ide 0 = none ∧ tget h.port.ide 1 = some { state := 2 } := by decide +kernel

theorem witness_ManagementPort :
    let s := { base with port := { i3cAddr := 8, control := [(9, 8, [0#8, 0x80#8, 1#8, 0#8, 8#8])], mctpOut := [[1#8]] } }
    let p : Bytes := [1#8, 0#8, 9#8, 0xC0#8, 5#8, 0x10#8, 0x84#8, 0#8, 0#8]
    let q : Bytes := [1#8, 0#8, 9#8, 0x80#8, 5#8, 0x10#8, 0x84#8, 0#8, 0#8]
    s.addressed = true ∧ base.port.i3cAddr = 0 ∧ s.packetOk p = true ∧ byteAt p 3 / 64 = 3 ∧ byteAt p 4 = 5 ∧ s.packetOk q = true
      ∧ byteAt q 3 / 64 = 2 ∧ s.packetOk [] = false ∧ s.port.mctpOut = [1#8] :: []
      ∧ (let b : Bytes := [0#8, 0x80#8, 1#8, 0#8, 8#8]; byteAt b 2 = 1 ∧ 5 ≤ b.length ∧ byteAt b 3 ≤ 1 ∧ 8 ≤ byteAt b 4 ∧ byteAt b 4 ≤ 254)
      ∧ (∀ x ∈ [7, 255], let b : Bytes := [0#8, 0x80#8, 1#8, 0#8, u8 x]; byteAt b 4 < 8 ∨ 254 < byteAt b 4) := by decide +kernel

theorem witness_RegisterWrites :
    base.mainOn = true ∧ base.mode.mode ≠ mReset ∧ base.mode.mode ≠ mIdle ∧ base.reachable 0 = true ∧ base.reachable 1 = false
      ∧ (base.box 0).go = false ∧ (0x3FF : Nat) < 0x400 ∧ (30 : Nat) < 32 ∧ 30 % 4 ≠ 3 := by decide +kernel

/-- The device with a request of domain 0 waiting in its mailbox. -/
def asks (b : Bytes) : State := { base with dict := { boxes := [(0, { go := true, captured := b })] } }

/-- A request of 16 bytes, and a body. -/
def request (op idx sub len : Nat) (body : Bytes := []) : Bytes :=
  [1#8, u8 op, 0#8, 0#8] ++ leBytes 2 idx ++ [u8 sub, 0xFF#8] ++ zeros 4 ++ leBytes 2 len ++ zeros 2 ++ body

theorem witness_DictionaryRequests :
    let at_ := fun (b : Bytes) => (asks b).waiting (.mailbox 0) = some b ∧ (asks b).pathServed (.mailbox 0) = true
      ∧ (asks b).inTurn (.mailbox 0) = true ∧ (asks b).classOf 0xA2 = 0 ∧ (asks b).bucket 0 < (asks b).violationRate 0
    at_ (request 1 0x1000 1 0) ∧ (parseRequest (request 1 0x1000 1 0)).malformed = false
      ∧ (asks []).targetOk (.mailbox 1) 0x00 = false
      ∧ entryAt 0x1FFF 0 = none ∧ (entryAt 0x1100 1).isSome = true ∧ (∀ e ∈ entryAt 0x1100 1, base.mayRead 0 0x1100 1 e = true)
      ∧ (∀ e ∈ entryAt 0x1100 1, 0 < (base.value 0 0x1100 1 e).length)
      ∧ (∀ e ∈ entryAt 0x5000 4, e.acc = .rw ∧ base.mayWrite 0 0x5000 e = true
          ∧ (let w : EntryWrite := { idx := 0x5000, sub := 4, value := leBytes 4 1000 }
             writeResult base (base.putAll 0 [w]) w = 0)) := by decide +kernel

theorem witness_MonitorsAndCalendar :
    base.writable = true ∧ monitorsNamed 0x01007020 = some [(0x7020, 1), (0x7020, 2), (0x7020, 3), (0x7020, 4), (0x7020, 5), (0x7020, 6), (0x7020, 7)]
      ∧ monitorsNamed 0x00077020 = some [(0x7020, 7)] ∧ (2#8 :: zeros 48).length = 49 ∧ 2 ≤ base.mode.mode
      ∧ byteAt (2#8 :: zeros 48) 0 = 2 ∧ byteAt (7#8 :: zeros 48) 0 = 7 ∧ byteAt (1#8 :: zeros 48) 0 < 2 ∧ 7 < byteAt (8#8 :: zeros 48) 0
      ∧ (let s := { base with dict := { copyA := (2, true, {}), copyB := (1, true, {}) } }; s.dict.copyB.1 < s.dict.copyA.1) := by decide +kernel

theorem witness_PatchRefusalRaises :
    let w := { base with mode := { mode := mPatch, step := 7 } }
    w.patchOpen = true ∧ w.patchCheck ≠ 2 := by decide +kernel

theorem witness_MailboxViolations :
    let s := asks (request 9 0x1000 1 0)
    let g := { base with dict := { boxes := [(0, { go := true })] } }
    let f := { s with rings := { s.rings with buckets := [(0, (s.violationRate 0, 0, 0))] } }
    s.waiting (.mailbox 0) = some (request 9 0x1000 1 0) ∧ s.pathServed (.mailbox 0) = true ∧ s.inTurn (.mailbox 0) = true
      ∧ (parseRequest (request 9 0x1000 1 0)).malformed = true ∧ (parseRequest (request 9 0x1000 1 0)).op = 9
      ∧ s.bucket 0 < s.violationRate 0 ∧ f.bucket 0 = f.violationRate 0
      ∧ g.reachable 0 = true ∧ (g.box 0).go = true := by decide +kernel

/-- Two members, this device at position 0, with port 0 in use and a peer at position 1. -/
def herd2 (x : Peer) : State :=
  { base with herd := { members := [deviceIdBytes, zeros 32], ports := [(0, { up := true, usable := true, neighbour := 1 })], peers := [(1, x)] } }

/-- Two members, this device at position 1. -/
def herd1 (x : Peer) : State :=
  { base with herd := { members := [[], deviceIdBytes], ports := [(0, { up := true, usable := true, neighbour := 0 })], peers := [(0, x)] } }

theorem herd2_pos (x : Peer) : (herd2 x).herdPos = some 0 := by
  simp [State.herdPos, herd2, memberIndex]

theorem deviceIdBytes_length : deviceIdBytes.length = 32 := by
  simp [deviceIdBytes, sha3_256, primOut]

theorem herd1_pos (x : Peer) : (herd1 x).herdPos = some 1 := by
  have h : ([] : Bytes) ≠ deviceIdBytes := by
    intro h
    have k := deviceIdBytes_length
    rw [← h] at k
    exact absurd k (by decide)
  simp [State.herdPos, herd1, memberIndex, h]

/-- A frame of a type between two positions with one fragment and no payload. -/
def frame (typ flags src dst : Nat) : Bytes :=
  [1#8, u8 typ, u8 src, u8 dst, 7#8, u8 flags, 0#8, 0#8] ++ zeros 6 ++ [0#8, 1#8] ++ zeros 16

theorem witness_FrameFor_unsealed (x : Peer) :
    FrameFor (herd1 x) 0 2 0 (frame 2 2 0 1) ∧ FrameFor (herd2 x) 0 3 1 (frame 3 2 1 0) ∧ FrameFor (herd1 x) 0 4 0 (frame 4 2 0 1) := by
  simp only [FrameFor, herd1_pos, herd2_pos]
  refine ⟨⟨rfl, rfl, rfl, by decide, by decide, by decide, by decide, by show 0 < 2; decide, rfl⟩,
    ⟨rfl, rfl, rfl, by decide, by decide, by decide, by decide, by show 1 < 2; decide, rfl⟩,
    ⟨rfl, rfl, rfl, by decide, by decide, by decide, by decide, by show 0 < 2; decide, rfl⟩⟩

theorem witness_FrameFor_sealed : ∀ typ ∈ [0x10, 0x11, 0x12, 0x13, 0x20, 0x21, 0x30, 0x31, 0x40],
    FrameFor (herd2 { up := true }) 0 typ 1 (frame typ 3 1 0 ++ zeros 16) ∧ ((herd2 { up := true }).peer 1).up = true := by
  intro typ h
  simp only [List.mem_cons, List.not_mem_nil, or_false] at h
  simp only [FrameFor, herd2_pos]
  rcases h with rfl | rfl | rfl | rfl | rfl | rfl | rfl | rfl | rfl <;>
    exact ⟨⟨rfl, rfl, rfl, by decide, by decide, by decide, by decide, by show 1 < 2; decide, rfl⟩, rfl⟩

theorem witness_HerdPortsAndFrames :
    (herd2 {}).herdDead = false ∧ (base.herdPort 0).up = false ∧ ((herd2 {}).herdPort 0).up = true
      ∧ (let b : Bytes := [1#8, 1#8, 1#8, 0xFF#8, 7#8, 2#8, 33#8, 0#8] ++ zeros 6 ++ [0#8, 1#8] ++ zeros 16 ++ zeros 32 ++ [1#8]
         frameOk b = true ∧ field b 6 2 = 33 ∧ byteAt b 64 = (herd2 {}).expectedAt 0 0 ∧ (herd2 {}).herd.members[byteAt b 64]? = some (slice b 32 32))
      ∧ frameOk [] = false ∧ (let b := frame 0x10 3 0 1 ++ zeros 16; frameOk b = true ∧ byteAt b 3 ≠ 0 ∧ byteAt b 4 ≠ 0)
      ∧ (let s := { base with mode := { mode := mStudy } }; s.herdServes = true) ∧ (({ base with mode := { mode := mPatch } } : State).herdServes = false) := by
  refine ⟨rfl, rfl, rfl, ⟨by decide +kernel, by decide, by decide, rfl⟩, by decide, by decide, by decide, by decide⟩

theorem witness_HerdTimers :
    let s := herd2 {}
    let r := herd2 { up := true, state := 2 }
    let h := herd2 { hsBeat := some 0 }
    s.peerList = [1] ∧ s.initiates 1 = true ∧ (s.peer 1).up = false ∧ (s.peer 1).state = 0 ∧ (s.route 1).isSome = true
      ∧ r.initiates 1 = true ∧ (r.peer 1).state = 2 ∧ (r.route 1).isSome = true
      ∧ 0 + msBeats (h.cfg 0x8000 11) ≤ 10 ^ 15 ∧ r.inSession = [1] ∧ s.herdServes = true := by
  refine ⟨?_, ?_, rfl, rfl, ?_, ?_, rfl, ?_, by decide, ?_, rfl⟩ <;>
    simp only [State.peerList, State.initiates, State.route, State.inSession, herd2_pos] <;> rfl

theorem witness_HerdReplication :
    let s := { base with maint := { running := [(maResync, (1, 0))] }, herd := { peers := [(1, { resync := [(2 ^ 20, zeros 32)], up := true })] } }
    s.grantOf maResync = some (1, 0) ∧ (s.peer 1).resync = (2 ^ 20, zeros 32) :: [] := by decide

theorem witness_HerdRelaysAndBeat :
    let s := { base with beat := 10 ^ 12, herd := { relays := [(0, (1, zeros 16, 0))], syncW1 := some 5 } }
    tget s.herd.relays 0 = some (1, zeros 16, 0) ∧ 0 + msBeats (s.cfg 0x8000 14) ≤ s.beat ∧ s.herd.syncW1 = some 5 := by decide +kernel

/-! ### Ill-formed commands, one for each check -/

theorem wf_headerReadReturn : (Instr.headerReadReturn 0 0 (zeros 63)).wf = false ∧ (Instr.headerReadReturn 0 0 (zeros 65)).wf = false
    ∧ (Instr.headerReadReturn 0 65536 (zeros 64)).wf = false ∧ (Instr.headerReadReturn 0 65535 (zeros 64)).wf = true := by decide
theorem wf_parameterBlockReturn : (Instr.parameterBlockReturn 0 0 (zeros 1025)).wf = false
    ∧ (Instr.parameterBlockReturn 0 65536 []).wf = false := by decide +kernel
theorem wf_sgEntryReturn : (Instr.sgEntryReturn 0 false (zeros 15)).wf = false := by decide
theorem wf_registerWrite : (Instr.registerWrite 0 .window 0 []).wf = false ∧ (Instr.registerWrite 0 .window 4095 (zeros 2)).wf = false
    ∧ (Instr.registerWrite 0 .msix 2 (zeros 4)).wf = false ∧ (Instr.registerWrite 0 .msix 0 (zeros 5)).wf = false
    ∧ (Instr.registerWrite 1 .ptm 0 (zeros 4)).wf = false ∧ (Instr.registerWrite 0 .ptm 0 (zeros 5)).wf = false
    ∧ (Instr.registerWrite 0 .control 8 (zeros 3)).wf = false ∧ (Instr.registerWrite 0 .control 9 (zeros 2)).wf = false
    ∧ (Instr.registerWrite 0 .control 0x28 (zeros 2)).wf = true := by decide
theorem wf_appends : (Instr.stageData []).wf = false ∧ (Instr.patchData []).wf = false ∧ (Instr.bootData []).wf = false
    ∧ (Instr.stageData (zeros 1025)).wf = false ∧ (Instr.patchData (zeros 1025)).wf = false ∧ (Instr.bootData (zeros 1025)).wf = false := by
  decide +kernel
theorem wf_measExtend : (Instr.measExtend (zeros 48)).wf = false := by decide
theorem wf_noiseWindow : (Instr.noiseWindow 0 (zeros 127)).wf = false := by decide +kernel
theorem wf_meshStep : (Instr.meshStep ([], false)).wf = false := by decide
theorem wf_studyCaptureEnd : (Instr.studyCaptureEnd [(4, [])]).wf = false := by decide
theorem wf_vault : (Instr.statefulRebuild 33554432).wf = false ∧ (Instr.copyAreaFreed 1048576).wf = false := by decide
theorem wf_doeObject : (Instr.doeObject (zeros 7)).wf = false := by decide
theorem wf_mctpPacket : (Instr.mctpPacket (zeros 3) true).wf = false ∧ (Instr.mctpPacket (zeros 69) true).wf = false := by decide
theorem wf_frames : ∀ f ∈ [Instr.neighbour 0, .hello (0, false), .helloReply 0, .finish 0, .announce 0, .replicate 0, .replicateAck 0, .partitionState 0,
    .relayReq 0, .relayRsp 0, .beatSync 0, .beatSyncReply 0, .close 0], (f (zeros 31)).wf = false := by
  intro f h
  simp only [List.mem_cons, List.not_mem_nil, or_false] at h
  rcases h with rfl | rfl | rfl | rfl | rfl | rfl | rfl | rfl | rfl | rfl | rfl | rfl | rfl <;> decide

/-! ### The whole machine -/

theorem witness_GoodKept : State.reset.Good ∧ step { State.reset with pending := [.beatBoundary] } ≠ .next State.reset := by
  refine ⟨by unfold State.Good State.lcState; decide, ?_⟩
  intro h
  have k := congrArg (fun o => match o with | Host.Outcome.next t => t.beat | _ => 0) h
  revert k
  decide +kernel

/-- R87: 4,096 positions, taken by the beat counter and WHEEL_OFFSET. -/
theorem test_position : ({ base with beat := 4097 } : State).position = 1
    ∧ ({ base with beat := 0, wheel := { offset := -1 } } : State).position = 4095 := by decide

/-- R8: a boundary advances the beat counter, and the last value has no successor. -/
theorem test_beat : (match exec .beatBoundary { base with beat := 7 } with | .next t => t.beat | _ => 0) = 8
    ∧ (match exec .beatBoundary { base with beat := 2 ^ 64 - 1 } with | .fault .beatCounterEnd => true | _ => false) = true := by decide +kernel

/-- R121, table of schedules: ML-KEM-1024 decapsulation takes 34 beats. -/
theorem test_decaps : (match exec (.mlkemDecaps 0) (with0 (jb 0x0103 3)) with
    | .next t => (t.job? 0).map (·.schedLen) | _ => none) = some 34 := by decide +kernel

/-- R14: four headers a beat, and the fifth waits. -/
theorem test_admission : (match exec .admission { withQ { state := .running, intake := [nopIntake] } with jobs := { admitted := 4 } } with
    | .next t => t.jobs.slots.length | _ => 9) = 0
    ∧ (match exec .admission (withQ { state := .running, intake := [nopIntake] }) with | .next t => t.jobs.slots.length | _ => 9) = 1 := by
  decide +kernel

/-- R73: an unmasked vector sends its pending message. -/
theorem test_unmask : (match exec (.msixUnmask 0 3) { base with rings := { funcs := [(0, { vecPending := 8 })] } } with
    | .next t => t.rings.sent | _ => []) = [.message 0 3] := by decide

/-- R344: slots 2 to 7 are extended; slot 1 is not. -/
theorem test_extend : (match exec (.measExtend (2#8 :: zeros 48)) base with | .next t => (tget t.measure 2).isSome | _ => false) = true
    ∧ (match exec (.measExtend (1#8 :: zeros 48)) base with | .next t => t.measure.isEmpty | _ => false) = true := by decide +kernel

/-- R440: in Lockdown a control bit is refused and LAST_CTRL shows it. -/
theorem test_lockdown : (match exec .softReset { base with mode := { mode := mLockdown } } with
    | .next t => (t.mode.mode, t.mode.lastCtrl, t.mode.refused) | _ => (0, 0, false)) = (mLockdown, 7, true) := by decide +kernel

/-- R357: a window of equal bits fails the repetition count, and the source is suspended. -/
theorem test_noise : (match exec (.noiseWindow 0 (zeros 128)) { base with entropy := ready } with
    | .next t => (t.source 0).state | _ => 0) = 3 := by decide +kernel

end Sys2Proof.Tests
end

section

/-! ### What almost every command leaves as it is -/

/-! Three relations between a state and a later one, each stronger than the one before: `Kept`, `Steady`, `Tame`. Every operation of
the model has one lemma, `f_kept`, `f_steady` or `f_tame`, for the strongest of them that holds, and every command that cannot be a
device reset has one, `execF_goes`. The lemmas stand in the order of the model's definitions. -/

namespace Sys2Proof.Frame

open Sys2Proof Sys2Proof.Machine

/-- The mode and the mode that Quiesce or Idle was entered from are modes of R435; the life-cycle state and the one in its older copy
are states of R345. -/
def Codes (s : State) : Prop := s.mode.mode ≤ 11 ∧ s.mode.cameFrom ≤ 11 ∧ s.lcState ≤ 6 ∧ s.sec.lcCopies.other.1 ≤ 6

/-- The entries of the dictionary, the writes that wait for the boundary, and what is counted per beat of admissions and start
rights. -/
def still (s : State) : List (Nat × Int) × List (Nat × EntryWrite) × Nat × List Nat :=
  (s.settings, s.dict.late, s.jobs.admitted, s.jobs.offered)

/-- From `s` to `t` the beat counter and the queue of waiting commands stay, and codes stay codes of their tables. -/
structure Kept (s t : State) : Prop where
  beat : t.beat = s.beat
  pending : t.pending = s.pending
  codes : Codes s → Codes t

/-- The same, and the dictionary's entries, the writes that wait and the counts of the beat stay too. -/
structure Steady (s t : State) : Prop where
  kept : Kept s t
  still : still t = still s

/-- The same, and the keys of the vault stay too. -/
structure Tame (s t : State) : Prop where
  steady : Steady s t
  keys : t.vault.keys = s.vault.keys

variable {s b t : State}

theorem Kept.refl (s : State) : Kept s s := ⟨rfl, rfl, id⟩

theorem Kept.trans (h : Kept s b) (k : Kept b t) : Kept s t :=
  ⟨k.beat.trans h.beat, k.pending.trans h.pending, fun c => k.codes (h.codes c)⟩

theorem Kept.after (k : Kept b t) (h : Kept s b) : Kept s t := h.trans k

theorem Steady.refl (s : State) : Steady s s := ⟨.refl s, rfl⟩

theorem Steady.trans (h : Steady s b) (k : Steady b t) : Steady s t := ⟨h.kept.trans k.kept, k.still.trans h.still⟩

theorem Steady.after (k : Steady b t) (h : Steady s b) : Steady s t := h.trans k

theorem Tame.kept (h : Tame s t) : Kept s t := h.steady.kept

theorem Tame.refl (s : State) : Tame s s := ⟨.refl s, rfl⟩

theorem Tame.trans (h : Tame s b) (k : Tame b t) : Tame s t := ⟨h.steady.trans k.steady, k.keys.trans h.keys⟩

theorem Tame.after (k : Tame b t) (h : Tame s b) : Tame s t := h.trans k

/-- A state that differs in what the codes are read from, or in parts that no relation here speaks of. -/
theorem Tame.of_codes (e : (t.beat, t.pending, Frame.still t, t.vault.keys) = (s.beat, s.pending, Frame.still s, s.vault.keys))
    (c : Codes s → Codes t) : Tame s t := by
  simp only [Prod.mk.injEq] at e
  obtain ⟨hb, hp, hs, hk⟩ := e
  exact ⟨⟨⟨hb, hp, c⟩, hs⟩, hk⟩

section
variable {fresh : Nat} {settings : List (Nat × Int)} {jobs : JobState} {rings : RingState} {wheel : WheelState}
  {fault : FaultState} {selfTest : SelfTestState} {patch : PatchState} {maint : MaintState} {mode : ModeState} {ao : AoState}
  {domains : List (Nat × DomRec)} {dict : DictState} {vault : VaultState} {streams : List (Nat × Stream)} {entropy : EntropyState}
  {measure : List (Nat × Bytes)} {counts : List (Nat × Nat)} {lcSeq : Nat} {seedGen : Nat} {link : LinkState} {port : PortState}
  {herd : HerdState} {sec : SecState}

/-- An update of a state outside its core. -/
theorem Kept.put
    (e : (mode.mode, mode.cameFrom, sec.lcCopies.other.1) = (b.mode.mode, b.mode.cameFrom, b.sec.lcCopies.other.1)) (h : Kept s b) :
    Kept s { b with
      fresh := fresh, settings := settings, jobs := jobs, rings := rings, wheel := wheel, fault := fault,
      selfTest := selfTest, patch := patch, maint := maint, mode := mode, ao := ao, domains := domains, dict := dict, vault := vault,
      streams := streams, entropy := entropy, measure := measure, counts := counts, lcSeq := lcSeq, seedGen := seedGen, link := link,
      port := port, herd := herd, sec := sec } := by
  simp only [Prod.mk.injEq] at e
  obtain ⟨hm, hf, ho⟩ := e
  exact h.trans ⟨rfl, rfl, by simp only [Codes, hm, hf, ho]; exact id⟩

/-- An update of a state outside its core, the entries, the writes that wait and the counts of the beat. -/
theorem Steady.put
    (e : (mode.mode, mode.cameFrom, sec.lcCopies.other.1, dict.late, jobs.admitted, jobs.offered)
      = (b.mode.mode, b.mode.cameFrom, b.sec.lcCopies.other.1, b.dict.late, b.jobs.admitted, b.jobs.offered)) (h : Steady s b) :
    Steady s { b with
      fresh := fresh, jobs := jobs, rings := rings, wheel := wheel, fault := fault, selfTest := selfTest,
      patch := patch, maint := maint, mode := mode, ao := ao, domains := domains, dict := dict, vault := vault, streams := streams,
      entropy := entropy, measure := measure, counts := counts, lcSeq := lcSeq, seedGen := seedGen, link := link, port := port,
      herd := herd, sec := sec } := by
  simp only [Prod.mk.injEq] at e
  obtain ⟨hm, hf, ho, hl, ha, hw⟩ := e
  exact h.trans ⟨.put (by rw [hm, hf, ho]) (.refl b), by simp only [Frame.still, hl, ha, hw]⟩

/-- The same, with the keys of the vault as they are. -/
theorem Tame.put
    (e : (mode.mode, mode.cameFrom, sec.lcCopies.other.1, dict.late, jobs.admitted, jobs.offered, vault.keys)
      = (b.mode.mode, b.mode.cameFrom, b.sec.lcCopies.other.1, b.dict.late, b.jobs.admitted, b.jobs.offered, b.vault.keys))
    (h : Tame s b) :
    Tame s { b with
      fresh := fresh, jobs := jobs, rings := rings, wheel := wheel, fault := fault, selfTest := selfTest,
      patch := patch, maint := maint, mode := mode, ao := ao, domains := domains, dict := dict, vault := vault, streams := streams,
      entropy := entropy, measure := measure, counts := counts, lcSeq := lcSeq, seedGen := seedGen, link := link, port := port,
      herd := herd, sec := sec } := by
  simp only [Prod.mk.injEq] at e
  obtain ⟨hm, hf, ho, hl, ha, hw, hk⟩ := e
  exact h.trans ⟨.put (by rw [hm, hf, ho, hl, ha, hw]) (.refl b), hk⟩

end

theorem Kept.ite {c : Prop} [Decidable c] (h : Kept s t) (k : Kept s b) : Kept s (if c then t else b) := by split <;> assumption

theorem Steady.ite {c : Prop} [Decidable c] (h : Steady s t) (k : Steady s b) : Steady s (if c then t else b) := by
  split <;> assumption

theorem Tame.ite {c : Prop} [Decidable c] (h : Tame s t) (k : Tame s b) : Tame s (if c then t else b) := by split <;> assumption

/-- The state beside a value, once the pair is taken apart. -/
theorem Tame.of_snd {α : Type} {x : α} {p : α × State} (hp : p = (x, t)) (h : Tame s p.2) : Tame s t := by rwa [hp] at h

theorem kept_foldl {α : Type} (f : State → α → State) (h : ∀ a x, Kept a (f a x)) (l : List α) (s : State) : Kept s (l.foldl f s) := by
  induction l generalizing s with
  | nil => exact .refl s
  | cons x r ih => exact (h s x).trans (ih _)

theorem steady_foldl {α : Type} (f : State → α → State) (h : ∀ a x, Steady a (f a x)) (l : List α) (s : State) :
    Steady s (l.foldl f s) := by
  induction l generalizing s with
  | nil => exact .refl s
  | cons x r ih => exact (h s x).trans (ih _)

theorem tame_foldl {α : Type} (f : State → α → State) (h : ∀ a x, Tame a (f a x)) (l : List α) (s : State) : Tame s (l.foldl f s) := by
  induction l generalizing s with
  | nil => exact .refl s
  | cons x r ih => exact (h s x).trans (ih _)

/-- The state that an operation answers, where it answers one, is kept. -/
def KeptOpt (s : State) (o : Option State) : Prop := ∀ t, o = some t → Kept s t

theorem KeptOpt.none : KeptOpt s .none := fun _ h => nomatch h

theorem KeptOpt.some (h : Kept s t) : KeptOpt s (.some t) := by rintro _ ⟨⟩; exact h

theorem KeptOpt.getD {o : Option State} (h : KeptOpt s o) (k : Kept s b) : Kept s (o.getD b) := by
  cases o with
  | none => exact k
  | some t => exact h t rfl

theorem KeptOpt.ite {c : Prop} [Decidable c] {o p : Option State} (h : KeptOpt s o) (k : KeptOpt s p) :
    KeptOpt s (if c then o else p) := by split <;> assumption

theorem KeptOpt.elim {o : Option State} {f : State → State} (h : KeptOpt s o) (k : Kept s b) (hf : ∀ t, Kept s t → Kept s (f t)) :
    Kept s (o.elim b f) := by
  cases o with
  | none => exact k
  | some t => exact hf t (h t rfl)

theorem keptOpt_map {α : Type} {o : Option α} {f : α → State} (h : ∀ x, Kept s (f x)) : KeptOpt s (o.map f) := by
  cases o with
  | none => exact .none
  | some x => exact .some (h x)

/-- The same where the operation leaves the vault's keys and the entries too. -/
def TameOpt (s : State) (o : Option State) : Prop := ∀ t, o = some t → Tame s t

theorem TameOpt.none : TameOpt s .none := fun _ h => nomatch h

theorem TameOpt.some (h : Tame s t) : TameOpt s (.some t) := by rintro _ ⟨⟩; exact h

theorem TameOpt.ite {c : Prop} [Decidable c] {o p : Option State} (h : TameOpt s o) (k : TameOpt s p) :
    TameOpt s (if c then o else p) := by split <;> assumption

/-- The state that an operation answers beside a value, where it answers one, is kept. -/
def KeptRes {α : Type} (s : State) (o : Option (α × State)) : Prop := ∀ r, o = some r → Kept s r.2

theorem KeptRes.none {α : Type} : KeptRes (α := α) s .none := fun _ h => nomatch h

theorem KeptRes.some {α : Type} {r : α × State} (h : Kept s r.2) : KeptRes s (.some r) := by rintro _ ⟨⟩; exact h

theorem keptRes_map {α β : Type} {o : Option α} {f : α → β × State} (h : ∀ x, Kept s (f x).2) : KeptRes s (o.map f) := by
  cases o with
  | none => exact .none
  | some x => exact .some (h x)

theorem KeptRes.ite {α : Type} {c : Prop} [Decidable c] {o p : Option (α × State)} (h : KeptRes s o) (k : KeptRes s p) :
    KeptRes s (if c then o else p) := by split <;> assumption

theorem kept_snd_ite {α : Type} {c : Prop} [Decidable c] {p q : α × State} (h : Kept s p.2) (k : Kept s q.2) :
    Kept s (if c then p else q).2 := by split <;> assumption

theorem steady_snd_ite {α : Type} {c : Prop} [Decidable c] {p q : α × State} (h : Steady s p.2) (k : Steady s q.2) :
    Steady s (if c then p else q).2 := by split <;> assumption

theorem tame_snd_ite {α : Type} {c : Prop} [Decidable c] {p q : α × State} (h : Tame s p.2) (k : Tame s q.2) :
    Tame s (if c then p else q).2 := by split <;> assumption

/-- A command completes, and the next state is kept. -/
def Goes (s : State) (o : Host.Outcome State Fault Refusal) : Prop := ∃ t, o = .next t ∧ Kept s t

theorem Goes.next (h : Kept s t) : Goes s (.next t) := ⟨t, rfl, h⟩

theorem Goes.ite {c : Prop} [Decidable c] {o p : Host.Outcome State Fault Refusal} (h : Goes s o) (k : Goes s p) :
    Goes s (if c then o else p) := by split <;> assumption

end Sys2Proof.Frame
end

section

/-! ### What the operations of `Machine/Ops.lean` leave as it is -/

namespace Sys2Proof.Frame

open Sys2Proof Sys2Proof.Machine

theorem setCfg_kept (s : State) (idx sub : Nat) (v : Int) : Kept s (s.setCfg idx sub v) := .put rfl <| .refl _

theorem setQueue_tame (s : State) (n : Nat) (q : Queue) : Tame s (s.setQueue n q) := .put rfl <| .refl _

theorem setFunc_tame (s : State) (f : Nat) (v : Func) : Tame s (s.setFunc f v) := .put rfl <| .refl _

theorem setJob_tame (s : State) (n : Nat) (j : Job) : Tame s (s.setJob n j) := .put rfl <| .refl _

theorem dropJob_tame (s : State) (n : Nat) : Tame s (s.dropJob n) := .put rfl <| .refl _

theorem onJob_tame (s : State) (n : Nat) (f : Job → Job) : Tame s (s.onJob n f) := by
  unfold State.onJob
  split
  · exact setJob_tame _ _ _
  · exact .refl _

theorem setUnit_tame (s : State) (cls u : Nat) (v : EngineUnit) : Tame s (s.setUnit cls u v) := .put rfl <| .refl _

theorem setDom_tame (s : State) (d : Nat) (r : DomRec) : Tame s (s.setDom d r) := .put rfl <| .refl _

theorem writeDom_tame (s : State) (d : Nat) (r : DomRec) : Tame s (s.writeDom d r) := by
  unfold State.writeDom
  dsimp only
  exact .after (setDom_tame _ _ _) <| .ite (.put rfl <| .refl _) <| .put rfl <| .refl _

theorem advanceAll_tame (s : State) : Tame s s.advanceAll := tame_foldl _ (fun _ _ => writeDom_tame _ _ _) _ _

/-- A state of R345 is written to the life-cycle record; the one before it stays in the older copy. -/
theorem writeLc_tame (s : State) (lc seed : Nat) (h : lc ≤ 6) : Tame s (s.writeLc lc seed) := by
  refine .of_codes rfl ?_
  rintro ⟨hm, hf, hl, -⟩
  exact ⟨hm, hf, h, hl⟩

/-- The life-cycle record is written with the state that it holds. -/
theorem writeLc_self_tame (s : State) (seed : Nat) : Tame s (s.writeLc s.lcState seed) := by
  refine .of_codes rfl ?_
  rintro ⟨hm, hf, hl, -⟩
  exact ⟨hm, hf, hl, hl⟩

theorem count_tame (s : State) (key n : Nat) : Tame s (s.count key n) := .put rfl <| .refl _

theorem useMasks_tame (s : State) (n : Nat) : Tame s (s.useMasks n) := .put rfl <| .refl _

theorem draw_tame (s : State) : Tame s s.draw.2 := .put rfl <| .refl _

theorem extend_tame (s : State) (n : Nat) (d : Bytes) : Tame s (s.extend n d) := .put rfl <| .refl _

theorem setDrbg_tame (s : State) (i : Nat) (v : Drbg) : Tame s (s.setDrbg i v) := .put rfl <| .refl _

theorem rootBytes_tame (s : State) (n : Nat) : Tame s (s.rootBytes n).2 := .put rfl <| .refl _

theorem reseed_tame (s : State) (i : Nat) : Tame s (s.reseed i) := .after (setDrbg_tame _ _ _) <| rootBytes_tame _ _

theorem serve_tame (s : State) (i n : Nat) : Tame s (s.serve i n).2 :=
  .after (setDrbg_tame _ _ _) <| .ite (reseed_tame _ _) <| .refl _

theorem instantiate_tame (s : State) (i : Nat) : Tame s (s.instantiate i) :=
  .after (.ite (reseed_tame _ _) <| .refl _) <| setDrbg_tame _ _ _

theorem moveInstance_tame (s : State) (i : Nat) : Tame s (s.moveInstance i) := by
  unfold State.moveInstance
  dsimp only
  split
  · exact .put rfl <| .refl _
  · exact .refl _

theorem send_tame (s : State) (m : Sent) : Tame s (s.send m) := .put rfl <| .refl _

theorem signal_tame (s : State) (f v : Nat) : Tame s (s.signal f v) := .ite (setFunc_tame _ _ _) <| send_tame _ _

theorem cause_tame (s : State) (f b : Nat) : Tame s (s.cause f b) :=
  .ite (.refl _) <| .after (signal_tame _ _ _) <| setFunc_tame _ _ _

theorem setMonitor_tame (s : State) (key : Nat) (m : Monitor) : Tame s (s.setMonitor key m) := .put rfl <| .refl _

theorem sampleMonitor_tame (s : State) (key : Nat) (value : Int) (u : Nat) : Tame s (s.sampleMonitor key value u) :=
  setMonitor_tame _ _ _

theorem clearMonitor_tame (s : State) (key : Nat) : Tame s (s.clearMonitor key) := setMonitor_tame _ _ _

theorem emptyMonitor_tame (s : State) (key : Nat) : Tame s (s.emptyMonitor key) := setMonitor_tame _ _ _

theorem sampleOccupancy_tame (s : State) : Tame s s.sampleOccupancy :=
  .put rfl <| tame_foldl _ (fun _ _ => sampleMonitor_tame _ _ _ _) _ _

theorem aoLog_tame (s : State) (src action : Nat) : Tame s (s.aoLog src action) := .put rfl <| .refl _

theorem eraseSeed_tame (s : State) : Tame s s.eraseSeed := .put rfl <| .refl _

theorem logFault_tame (s : State) (src cls : Nat) (n : Named) : Tame s (s.logFault src cls n) := .put rfl <| .refl _

theorem startWipe_tame (s : State) (slot : Nat) (u : Nat × Nat) (boundary : Nat) : Tame s (s.startWipe slot u boundary) :=
  .ite (setUnit_tame _ _ _ _) <| .refl _

theorem freeHolds_tame (s : State) (slot boundary : Nat) : Tame s (s.freeHolds slot boundary) := .put rfl <| .refl _

theorem dropStream_tame (s : State) (d id : Nat) : Tame s (s.dropStream d id) := by
  unfold State.dropStream
  split
  · exact .put rfl <| .refl _
  · exact .refl _

theorem endStream_tame (s : State) (j : Job) (lost : Bool) : Tame s (s.endStream j lost) := by
  unfold State.endStream
  dsimp only
  split
  · exact .refl _
  · exact .put rfl <| .refl _

theorem drawBlockMasks_tame (s : State) : Tame s s.drawBlockMasks := useMasks_tame _ _

theorem countBlocks_tame (s : State) (j : Job) : Tame s (s.countBlocks j) := .ite (.refl _) <| count_tame _ _ _

theorem owe_tame (s : State) (n cause addr : Nat) : Tame s (s.owe n cause addr) := .put rfl <| .refl _

theorem dropReads_tame (s : State) (gone : DmaRead → Bool) : Tame s (s.dropReads gone) := .put rfl <| .refl _

theorem issue_tame (s : State) (r : DmaRead) : Tame s (s.issue r) := .put rfl <| .refl _

theorem askAll_tame (s : State) (n : Nat) (want : List (DmaRead × Nat)) : Tame s (s.askAll n want) := by
  unfold State.askAll
  split
  · exact .refl _
  · exact .ite (tame_foldl _ (fun _ _ => issue_tame _ _) _ _) <| owe_tame _ _ _ _

theorem countLost_tame (s : State) (j : Job) : Tame s (s.countLost j) :=
  .ite (.refl _) <| .ite (count_tame _ _ _) <| count_tame _ _ _

theorem sendOutput_tame (s : State) (slot : Nat) (l : List (Nat × Bytes)) : Tame s (s.sendOutput slot l) :=
  tame_foldl _ (fun _ _ => send_tame _ _) _ _

theorem zeroExposed_tame (s : State) (slot : Nat) : Tame s (s.zeroExposed slot) := by
  unfold State.zeroExposed
  split
  · exact .refl _
  · exact .ite (.refl _) <| .after (.ite (sendOutput_tame _ _ _) <| owe_tame _ _ _ _) <| .after (count_tame _ _ _) <|
      setJob_tame _ _ _

theorem dropWaiting_tame (s : State) (slot : Nat) : Tame s (s.dropWaiting slot) := .put rfl <| .refl _

theorem dropCommit_tame (s : State) (slot : Nat) : Tame s (s.dropCommit slot) := .ite (.refl _) <| .put rfl <| .refl _

theorem endOwn_tame (s : State) (slot st info boundary : Nat) : Tame s (s.endOwn slot st info boundary) := by
  unfold State.endOwn
  split
  · exact .refl _
  · exact .after (.ite (endStream_tame _ _ _) <| .refl _) <| .after (tame_foldl _ (fun _ _ => startWipe_tame _ _ _ _) _ _) <|
      .after (dropReads_tame _ _) <| .after (dropCommit_tame _ _) <| .after (dropWaiting_tame _ _) <|
      .after (zeroExposed_tame _ _) <| .after (countLost_tame _ _) <| .after (countBlocks_tame _ _) <|
      .after (freeHolds_tame _ _ _) <| setJob_tame _ _ _

theorem stopInternal_tame (s : State) (slot boundary : Nat) : Tame s (s.stopInternal slot boundary) := by
  unfold State.stopInternal
  split
  · exact .refl _
  · exact .after (dropJob_tame _ _) <| .after (freeHolds_tame _ _ _) <| tame_foldl _ (fun _ _ => startWipe_tame _ _ _ _) _ _

theorem takeCheckUnit_tame (s : State) (slot : Nat) : Tame s (s.takeCheckUnit slot) := by
  unfold State.takeCheckUnit
  split
  · split
    · exact .ite (.after (setJob_tame _ _ _) <| setUnit_tame _ _ _ _) <| .refl _
    · exact .refl _
  · exact .refl _

theorem endJob_tame (s : State) (slot st info boundary : Nat) : Tame s (s.endJob slot st info boundary) :=
  .ite (.after (endOwn_tame _ _ _ _ _) <| .after (stopInternal_tame _ _ _) <| takeCheckUnit_tame _ _) <|
    .after (.ite (endOwn_tame _ _ _ _ _) <| .refl _) <| .after (stopInternal_tame _ _ _) <| .ite (takeCheckUnit_tame _ _) <| .refl _

theorem overrule_tame (s : State) (slot : Nat) (j : Job) (st info : Nat) : Tame s (s.overrule slot j st info) :=
  .after (.ite (dropStream_tame _ _ _) <| .refl _) <| setJob_tame _ _ _

theorem meetJob_tame (s : State) (slot : Nat) (m : Meet) : Tame s (s.meetJob slot m) := by
  unfold State.meetJob
  split
  · exact .refl _
  · split
    · exact .ite (endJob_tame _ _ _ _ _) <| .refl _
    · exact .ite (endJob_tame _ _ _ _ _) <| .refl _
    · exact .ite (.refl _) <| .ite (setJob_tame _ _ _) <| endJob_tame _ _ _ _ _
    · exact .ite (endJob_tame _ _ _ _ _) <| overrule_tame _ _ _ _ _
    · exact .ite (endJob_tame _ _ _ _ _) <| overrule_tame _ _ _ _ _

theorem meetAll_tame (s : State) (slots : List Nat) (m : Meet) : Tame s (s.meetAll slots m) :=
  tame_foldl _ (fun _ _ => meetJob_tame _ _ _) _ _

theorem endStranded_tame (s : State) : Tame s s.endStranded := tame_foldl _ (fun _ _ => endJob_tame _ _ _ _ _) _ _

theorem wakeHost_tame (s : State) : Tame s s.wakeHost := .ite (.after (send_tame _ _) <| .put rfl <| .refl _) <| .refl _

theorem writeRecord_tame (s : State) (rec0 : Bytes) (cause cls : Nat) (final : Bool) :
    Tame s (s.writeRecord rec0 cause cls final) :=
  .ite (.refl _) <| .after (tame_foldl _ (fun _ _ => .ite (.after (cause_tame _ _ _) <| .ite (send_tame _ _) <| .refl _) <|
    .refl _) _ _) <| .after (wakeHost_tame _) <| .put rfl <| .refl _

theorem writeStatus_tame (s : State) (cause src cls : Nat) (final : Bool) (prev : Nat) :
    Tame s (s.writeStatus cause src cls final prev) :=
  writeRecord_tame _ _ _ _ _

theorem serviceMode_le (s : State) : s.serviceMode ≤ 11 := by
  unfold State.serviceMode
  split <;> decide

/-- A mode of R435 is entered, or one that the state's codes vouch for. -/
theorem setMode_of_codes {s : State} {m : Nat} (h : Codes s → m ≤ 11) : Tame s (s.setMode m) := by
  unfold State.setMode
  exact .ite (.refl s) (.of_codes rfl fun c => ⟨h c, c.2⟩)

theorem setMode_tame (s : State) (m : Nat) (h : m ≤ 11) : Tame s (s.setMode m) := setMode_of_codes fun _ => h

theorem changeMode_of_codes {s : State} {m : Nat} (h : Codes s → m ≤ 11) : Tame s (s.changeMode m) := by
  unfold State.changeMode
  exact .ite (.refl s) <| .after (writeStatus_tame _ _ _ _ _ _) <| setMode_of_codes h

theorem changeMode_tame (s : State) (m : Nat) (h : m ≤ 11) : Tame s (s.changeMode m) := changeMode_of_codes fun _ => h

theorem drain_tame (s : State) (kind : Nat) : Tame s (s.drain kind) := meetAll_tame _ _ _

/-- Quiesce is entered from a mode of R435. -/
theorem quiesceFor_tame (s : State) (kind : Nat) : Tame s (s.quiesceFor kind) := by
  have hq : Tame s (s.setMode mQuiesce) := setMode_of_codes fun _ => by decide
  unfold State.quiesceFor
  refine .after (drain_tame _ _) ⟨⟨⟨hq.kept.beat, hq.kept.pending, ?_⟩, hq.steady.still⟩, hq.keys⟩
  intro hs
  obtain ⟨hm, -, hl, ho⟩ := hq.kept.codes hs
  refine ⟨hm, ?_, hl, ho⟩
  dsimp only
  split
  · exact hs.2.1
  · exact hs.1

theorem clamp_tame (s : State) : Tame s s.clamp := .put rfl <| .refl _

theorem finishLockdown_tame (s : State) : Tame s s.finishLockdown := by
  unfold State.finishLockdown
  split
  · exact .refl _
  · exact .ite (.after (tame_foldl _ (fun _ _ => signal_tame _ _ _) _ _) <| .after (writeRecord_tame _ _ _ _ _) <| .put rfl <|
      .refl _) <| .refl _

theorem lockdown_tame (s : State) (src cls : Nat) : Tame s (s.lockdown src cls) :=
  .after (finishLockdown_tame _) <| .put rfl <| .after (clamp_tame _) <| .after (meetAll_tame _ _ _) <| setMode_tame _ _ (by decide)

theorem faultJob_tame (s : State) (slot : Nat) : Tame s (s.faultJob slot) := by
  unfold State.faultJob
  split
  · exact .refl _
  · exact .ite (endJob_tame _ _ _ _ _) <| .ite (setJob_tame _ _ _) <| .refl _

theorem restage_tame (s : State) (n : Nat) (j : Job) : Tame s (s.restage n j) :=
  .after (tame_foldl _ (fun _ _ => startWipe_tame _ _ _ _) _ _) <| .after (freeHolds_tame _ _ _) <| setJob_tame _ _ _

theorem jobLosesUnit_tame (s : State) (c u src n : Nat) : Tame s (s.jobLosesUnit c u src n) := by
  unfold State.jobLosesUnit
  split
  · exact .refl _
  · exact .ite (restage_tame _ _ _) <| .ite (.ite (endJob_tame _ _ _ _ _) <| .refl _) <| .ite (setJob_tame _ _ _) <|
      .ite (.refl _) <| .ite (restage_tame _ _ _) <| .ite (endJob_tame _ _ _ _ _) <| .refl _

theorem unitFails_tame (s : State) (c u src : Nat) : Tame s (s.unitFails c u src) :=
  tame_foldl _ (fun _ _ => jobLosesUnit_tame _ _ _ _ _) _ _

theorem markUnusable_tame (s : State) (c u src : Nat) : Tame s (s.markUnusable c u src) :=
  .ite (.refl _) <| .after (endStranded_tame _) <| .after (unitFails_tame _ _ _ _) <| setUnit_tame _ _ _ _

theorem followUnits_tame (s : State) : Tame s s.followUnits := .ite (setMode_tame _ _ (serviceMode_le _)) <| .refl _

theorem worsen_tame (s : State) (cls : Nat) : Tame s (s.worsen cls) := .after (meetAll_tame _ _ _) <| .put rfl <| .refl _

theorem respond_tame (s : State) (src cls : Nat) (n : Named) : Tame s (s.respond src cls n) := by
  unfold State.respond
  refine .after (.ite (.refl _) <| .ite (.ite (.refl _) <| .ite (.after (writeStatus_tame _ _ _ _ _ _) <| .put rfl <| .refl _) <|
    .after (writeStatus_tame _ _ _ _ _ _) <| quiesceFor_tame _ _) <| .after (.ite (.refl _) <| .ite (.ite (worsen_tame _ _) <|
    .refl _) <| lockdown_tame _ _ _) <| .ite (eraseSeed_tame _) <| .refl _) <|
    .after (.ite (.after (writeStatus_tame _ _ _ _ _ _) <| followUnits_tame _) <| .refl _) <| .ite ?_ ?_
  · split
    · refine .after (markUnusable_tame _ _ _ _) <| .ite ?_ (.refl _)
      split
      · exact faultJob_tame _ _
      · exact .refl _
    · refine .ite ?_ (.refl _)
      split
      · exact faultJob_tame _ _
      · exact .refl _
  · refine .ite ?_ (.refl _)
    split
    · exact faultJob_tame _ _
    · exact .refl _

theorem wake_tame (s : State) : Tame s s.wake := .ite (.put rfl <| .refl _) <| .refl _

theorem countFault_tame (s : State) (src : Nat) : Tame s (s.countFault src) := by
  unfold State.countFault
  split
  · exact count_tame _ _ _
  · exact .refl _

theorem raiseAt_tame (s : State) (src floor : Nat) (n : Named) : Tame s (s.raiseAt src floor n) :=
  .ite (.refl _) <| .after (respond_tame _ _ _ _) <| .after (wake_tame _) <| .after (.ite (aoLog_tame _ _ _) <| .refl _) <|
    .after (countFault_tame _ _) <| logFault_tame _ _ _ _

theorem raise_tame (s : State) (src : Nat) (n : Named) : Tame s (s.raise src n) := raiseAt_tame _ _ _ _

theorem mismatch_tame (s : State) (i : Nat) : Tame s (s.mismatch i) :=
  .after (raise_tame _ _ _) <| .ite (moveInstance_tame _ _) <| .refl _

theorem signalHalt_tame (s : State) (n : Nat) : Tame s (s.signalHalt n) :=
  .ite (.refl _) <| .after (cause_tame _ _ _) <| setFunc_tame _ _ _

theorem haltQueue_tame (s : State) (n cause addr : Nat) : Tame s (s.haltQueue n cause addr) :=
  .ite (.refl _) <| .after (signalHalt_tame _ _) <| .after (dropReads_tame _ _) <| .after (meetAll_tame _ _ _) <|
    setQueue_tame _ _ _

theorem checkBucket_tame (s : State) (d : Nat) : Tame s (s.checkBucket d) :=
  .ite (.refl _) <| .put rfl <| .after (raise_tame _ _ _) <| tame_foldl _ (fun _ _ => haltQueue_tame _ _ _ _) _ _

theorem violation_tame (s : State) (d : Nat) (q slot : Option Nat) : Tame s (s.violation d q slot) := by
  unfold State.violation
  refine .after (checkBucket_tame _ _) <| .after (raise_tame _ _ _) <| .put rfl ?_
  split
  · exact setQueue_tame _ _ _
  · exact .refl _

end Sys2Proof.Frame
end

section

/-! ### What the operations of `Machine/JobSpec.lean` leave as it is -/

namespace Sys2Proof.Frame

open Sys2Proof Sys2Proof.Machine

theorem finish_tame (s : State) (slot len : Nat) (r : Result) : Tame s (s.finish slot len r) := onJob_tame _ _ _

theorem runOp_goes (s : State) (slot op : Nat) (f : State → Job → State) (h : ∀ a j, Kept a (f a j)) :
    Goes s (s.runOp slot op f) := by
  unfold State.runOp
  split
  · exact .next (h s _)
  · exact .next (.refl s)

theorem signBlocks_tame (s : State) (slot : Nat) (j : Job) (per p v e cl tail : Nat) (passes : Nat → Bool) (sig : Nat → Bytes)
    (bumps : Nat → List (Nat × Nat)) : Tame s (s.signBlocks slot j per p v e cl tail passes sig bumps) := by
  unfold State.signBlocks
  split <;> exact finish_tame _ _ _ _

end Sys2Proof.Frame
end

section

/-! ### What the operations of `Machine/Lattice.lean` leave as it is -/

namespace Sys2Proof.Frame

open Sys2Proof Sys2Proof.Machine

theorem execMlkemEncaps_goes (slot : Fin 4096) (s : State) : Goes s (execMlkemEncaps slot s) :=
  runOp_goes _ _ _ _ (fun _ _ => .after (useMasks_tame _ _).kept (finish_tame _ _ _ _).kept)

theorem execMlkemCheckEk_goes (slot : Fin 4096) (s : State) : Goes s (execMlkemCheckEk slot s) :=
  runOp_goes _ _ _ _ (fun _ _ => (finish_tame _ _ _ _).kept)

theorem execMlkemDecaps_goes (slot : Fin 4096) (s : State) : Goes s (execMlkemDecaps slot s) :=
  runOp_goes _ _ _ _ (fun _ _ => .after (useMasks_tame _ _).kept (finish_tame _ _ _ _).kept)

theorem dsaRun_tame (s : State) (slot : Nat) (j : Job) (mu : Bytes) (e : Nat) : Tame s (s.dsaRun slot j mu e) :=
  signBlocks_tame _ _ _ _ _ _ _ _ _ _ _ _

theorem execMldsaSign_goes (slot : Fin 4096) (s : State) : Goes s (execMldsaSign slot s) :=
  runOp_goes _ _ _ _ (fun _ _ => (dsaRun_tame _ _ _ _ _).kept)

theorem execMldsaSignMu_goes (slot : Fin 4096) (s : State) : Goes s (execMldsaSignMu slot s) :=
  runOp_goes _ _ _ _ (fun _ _ => (dsaRun_tame _ _ _ _ _).kept)

theorem execMldsaVerify_goes (slot : Fin 4096) (s : State) : Goes s (execMldsaVerify slot s) :=
  runOp_goes _ _ _ _ (fun _ _ => (finish_tame _ _ _ _).kept)

theorem execMldsaVerifyMu_goes (slot : Fin 4096) (s : State) : Goes s (execMldsaVerifyMu slot s) :=
  runOp_goes _ _ _ _ (fun _ _ => (finish_tame _ _ _ _).kept)

end Sys2Proof.Frame
end

section

/-! ### What the operations of `Machine/Classical.lean` leave as it is -/

namespace Sys2Proof.Frame

open Sys2Proof Sys2Proof.Machine

theorem execRsaOaepEncrypt_goes (slot : Fin 4096) (s : State) : Goes s (execRsaOaepEncrypt slot s) :=
  runOp_goes _ _ _ _ (fun _ _ => (finish_tame _ _ _ _).kept)

theorem execRsaOaepDecrypt_goes (slot : Fin 4096) (s : State) : Goes s (execRsaOaepDecrypt slot s) :=
  runOp_goes _ _ _ _ (fun _ _ => .after (useMasks_tame _ _).kept (finish_tame _ _ _ _).kept)

theorem rsaSign_tame (s : State) (slot : Nat) (j : Job) : Tame s (s.rsaSign slot j) :=
  .after (useMasks_tame _ _) <| finish_tame _ _ _ _

theorem rsaVerify_tame (s : State) (slot : Nat) (j : Job) : Tame s (s.rsaVerify slot j) := finish_tame _ _ _ _

theorem execRsaPssSign_goes (slot : Fin 4096) (s : State) : Goes s (execRsaPssSign slot s) :=
  runOp_goes _ _ _ _ (fun _ _ => (rsaSign_tame _ _ _).kept)

theorem execRsaPssVerify_goes (slot : Fin 4096) (s : State) : Goes s (execRsaPssVerify slot s) :=
  runOp_goes _ _ _ _ (fun _ _ => (rsaVerify_tame _ _ _).kept)

theorem execRsaV15Sign_goes (slot : Fin 4096) (s : State) : Goes s (execRsaV15Sign slot s) :=
  runOp_goes _ _ _ _ (fun _ _ => (rsaSign_tame _ _ _).kept)

theorem execRsaV15Verify_goes (slot : Fin 4096) (s : State) : Goes s (execRsaV15Verify slot s) :=
  runOp_goes _ _ _ _ (fun _ _ => (rsaVerify_tame _ _ _).kept)

theorem execEcdsaSign_goes (slot : Fin 4096) (s : State) : Goes s (execEcdsaSign slot s) :=
  runOp_goes _ _ _ _ (fun _ _ => .after (useMasks_tame _ _).kept (finish_tame _ _ _ _).kept)

theorem execEcdsaVerify_goes (slot : Fin 4096) (s : State) : Goes s (execEcdsaVerify slot s) :=
  runOp_goes _ _ _ _ (fun _ _ => (finish_tame _ _ _ _).kept)

theorem execEcdh_goes (slot : Fin 4096) (s : State) : Goes s (execEcdh slot s) :=
  runOp_goes _ _ _ _ (fun _ _ => .after (useMasks_tame _ _).kept (finish_tame _ _ _ _).kept)

theorem execEcCheckPoint_goes (slot : Fin 4096) (s : State) : Goes s (execEcCheckPoint slot s) :=
  runOp_goes _ _ _ _ (fun _ _ => (finish_tame _ _ _ _).kept)

theorem execEddsaSign_goes (slot : Fin 4096) (s : State) : Goes s (execEddsaSign slot s) :=
  runOp_goes _ _ _ _ (fun _ _ => .after (useMasks_tame _ _).kept (finish_tame _ _ _ _).kept)

theorem execEddsaVerify_goes (slot : Fin 4096) (s : State) : Goes s (execEddsaVerify slot s) :=
  runOp_goes _ _ _ _ (fun _ _ => (finish_tame _ _ _ _).kept)

theorem execXdh_goes (slot : Fin 4096) (s : State) : Goes s (execXdh slot s) :=
  runOp_goes _ _ _ _ (fun _ _ => .after (useMasks_tame _ _).kept (finish_tame _ _ _ _).kept)

end Sys2Proof.Frame
end

section

/-! ### What the operations of `Machine/Code.lean` leave as it is -/

namespace Sys2Proof.Frame

open Sys2Proof Sys2Proof.Machine

theorem codeEncapsRun_tame (s : State) (slot : Nat) (j : Job) (cls : Nat) : Tame s (s.codeEncapsRun slot j cls) :=
  finish_tame _ _ _ _

theorem codeDecapsRun_tame (s : State) (slot : Nat) (j : Job) (cls : Nat) : Tame s (s.codeDecapsRun slot j cls) :=
  finish_tame _ _ _ _

theorem execHqcEncaps_goes (slot : Fin 4096) (s : State) : Goes s (execHqcEncaps slot s) :=
  runOp_goes _ _ _ _ (fun _ _ => (codeEncapsRun_tame _ _ _ _).kept)

theorem execHqcDecaps_goes (slot : Fin 4096) (s : State) : Goes s (execHqcDecaps slot s) :=
  runOp_goes _ _ _ _ (fun _ _ => (codeDecapsRun_tame _ _ _ _).kept)

theorem execCmEncaps_goes (slot : Fin 4096) (s : State) : Goes s (execCmEncaps slot s) :=
  runOp_goes _ _ _ _ (fun _ _ => (codeEncapsRun_tame _ _ _ _).kept)

theorem execCmDecaps_goes (slot : Fin 4096) (s : State) : Goes s (execCmDecaps slot s) :=
  runOp_goes _ _ _ _ (fun _ _ => (codeDecapsRun_tame _ _ _ _).kept)

end Sys2Proof.Frame
end

section

/-! ### What the operations of `Machine/VaultOps.lean` leave as it is -/

namespace Sys2Proof.Frame

open Sys2Proof Sys2Proof.Machine

theorem setKey_steady (s : State) (i : Nat) (k : Key) : Steady s (s.setKey i k) := .put rfl <| .refl _

theorem setCounter_tame (s : State) (i : Nat) (c : CounterState) : Tame s (s.setCounter i c) := .put rfl <| .refl _

theorem touch_tame (s : State) (d i : Nat) : Tame s (s.touch d i) := .put rfl <| .ite (.put rfl <| .refl _) <| .refl _

theorem requestCommit_tame (s : State) : Tame s s.requestCommit :=
  .ite (.put rfl <| .refl _) <| .ite (.refl _) <| .after (writeStatus_tame _ _ _ _ _ _) <| .after (wake_tame _) <| .put rfl <|
    .refl _

theorem waitCopy_tame (s : State) (i : Nat) : Tame s (s.waitCopy i) := by
  unfold State.waitCopy
  split
  · exact .ite (.refl _) <| .after (raise_tame _ _ _) <| setCounter_tame _ _ _
  · exact .refl _

theorem reserve_steady (s : State) (i : Nat) : Steady s (s.reserve i) := by
  unfold State.reserve
  split
  · exact .refl _
  · refine .ite (.refl _) <| .ite (waitCopy_tame _ _).steady <| .after (requestCommit_tame _).steady <|
      .after (.ite (count_tame _ _ _).steady (count_tame _ _ _).steady) <| .after (setKey_steady _ _ _) <|
      .after (touch_tame _ _ _).steady ?_
    split
    · exact (setCounter_tame _ _ _).steady
    · exact .refl _

theorem autoReserve_steady (s : State) (i : Nat) : Steady s (s.autoReserve i) := by
  unfold State.autoReserve
  split
  · exact .ite (reserve_steady _ _) <| .refl _
  · exact .refl _

theorem refreshTraversal_tame (s : State) (i : Nat) : Tame s (s.refreshTraversal i) := by
  unfold State.refreshTraversal
  split
  · exact .ite (.put rfl <| .refl _) <| .refl _
  · exact .refl _

theorem assign_steady (s : State) (slot : Nat) : Steady s (s.assign slot) := by
  unfold State.assign
  split
  · split
    · split
      · exact .after (autoReserve_steady _ _) <| .after (refreshTraversal_tame _ _).steady <|
          .after (setCounter_tame _ _ _).steady (setJob_tame _ _ _).steady
      · exact .refl _
    · exact .refl _
  · exact .refl _

theorem dropExpansion_tame (s : State) (i : Nat) : Tame s (s.dropExpansion i) := .put rfl <| .refl _

theorem assignDue_steady (s : State) : Steady s s.assignDue := steady_foldl _ (fun _ _ => assign_steady _ _) _ _

theorem assignKey_steady (s : State) (i : Nat) : Steady s (s.assignKey i) := steady_foldl _ (fun _ _ => assign_steady _ _) _ _

theorem loseTraversal_steady (s0 : State) (i : Nat) : Steady s0 (s0.loseTraversal i) := by
  unfold State.loseTraversal
  dsimp only
  split
  · exact .after (dropExpansion_tame _ _).steady <| .after (setCounter_tame _ _ _).steady <| assignKey_steady _ _
  · exact assignKey_steady _ _

theorem lookup_tame (s : State) (g i : Nat) : Tame s (s.lookup g i) := .put rfl <| .refl _

theorem lookupHandle_tame (s : State) (g handle : Nat) : Tame s (s.lookupHandle g handle) := by
  unfold State.lookupHandle
  refine .ite (.refl _) ?_
  split
  · exact tame_foldl _ (fun _ _ => lookup_tame _ _ _) _ _
  · exact lookup_tame _ _ _

theorem makeRoom_tame (s : State) (d : Nat) : Tame s (s.makeRoom d) := .put rfl <| .refl _

theorem addExpansion_tame (s : State) (i : Nat) (k : Key) (waiting : Option Nat) : Tame s (s.addExpansion i k waiting) :=
  .ite (.refl _) <| .ite (.after (makeRoom_tame _ _) <| .put rfl <| .refl _) <| .ite (.put rfl <| .refl _) <| .refl _

theorem leaveExpansion_tame (s : State) (i : Nat) (k : Key) : Tame s (s.leaveExpansion i k) :=
  .ite (.refl _) <| addExpansion_tame _ _ _ _

theorem useExpansion_tame (s : State) (i slot fn : Nat) : Tame s (s.useExpansion i slot fn) := by
  unfold State.useExpansion
  split
  · exact .put rfl <| .refl _
  · exact .refl _

theorem startCounter_tame (s : State) (i : Nat) (k : Key) : Tame s (s.startCounter i k) := .ite (setCounter_tame _ _ _) <| .refl _

theorem createKey_steady (s : State) (i : Nat) (k : Key) : Steady s (s.createKey i k) :=
  .after (startCounter_tame _ _ _).steady <| .put rfl <| .after (setKey_steady _ _ _) (touch_tame _ _ _).steady

theorem destroyKey_kept (s : State) (i : Nat) : Kept s (s.destroyKey i) := by
  unfold State.destroyKey
  split
  · exact .refl s
  · have ht := (touch_tame s ‹Key›.domain i).kept
    dsimp only
    exact .ite (.put (by split <;> rfl) ht) (.put (by split <;> rfl) ht)

end Sys2Proof.Frame
end

section

/-! ### What the operations of `Machine/HashSig.lean` leave as it is -/

namespace Sys2Proof.Frame

open Sys2Proof Sys2Proof.Machine

theorem execSlhdsaSign_goes (slot : Fin 4096) (s : State) : Goes s (execSlhdsaSign slot s) :=
  runOp_goes _ _ _ _ (fun _ _ => (finish_tame _ _ _ _).kept)

theorem execSlhdsaVerify_goes (slot : Fin 4096) (s : State) : Goes s (execSlhdsaVerify slot s) :=
  runOp_goes _ _ _ _ (fun _ _ => (finish_tame _ _ _ _).kept)

theorem keepUpper_tame (s : State) (cls : Nat) (i : Option Nat) (upper : List (Nat × Nat × Bytes)) :
    Tame s (s.keepUpper cls i upper) := by
  unfold State.keepUpper
  split
  · split
    · exact .ite (.after (refreshTraversal_tame _ _) <| setCounter_tame _ _ _) <| .refl _
    · exact .refl _
  · exact .refl _

theorem hbsSign_steady (s : State) (slot cls : Nat) : Steady s (s.hbsSign slot cls) := by
  unfold State.hbsSign
  dsimp only
  split
  · exact assignDue_steady _
  · exact .after (finish_tame _ _ _ _).steady <| .after (keepUpper_tame _ _ _ _).steady <| assignDue_steady _

theorem execHssSign_goes (slot : Fin 4096) (s : State) : Goes s (execHssSign slot s) :=
  runOp_goes _ _ _ _ (fun _ _ => (hbsSign_steady _ _ _).kept)

theorem execXmssSign_goes (slot : Fin 4096) (s : State) : Goes s (execXmssSign slot s) :=
  runOp_goes _ _ _ _ (fun _ _ => (hbsSign_steady _ _ _).kept)

theorem execHssVerify_goes (slot : Fin 4096) (s : State) : Goes s (execHssVerify slot s) :=
  runOp_goes _ _ _ _ (fun _ _ => .ite (finish_tame _ _ _ _).kept (finish_tame _ _ _ _).kept)

theorem execXmssVerify_goes (slot : Fin 4096) (s : State) : Goes s (execXmssVerify slot s) :=
  runOp_goes _ _ _ _ (fun _ _ => .ite (finish_tame _ _ _ _).kept (finish_tame _ _ _ _).kept)

theorem hbsReserve_steady (s : State) (slot : Nat) (j : Job) : Steady s (s.hbsReserve slot j) := by
  unfold State.hbsReserve
  split
  · exact .ite (finish_tame _ _ _ _).steady <| .ite (finish_tame _ _ _ _).steady <| .ite (waitCopy_tame _ _).steady <|
      .after (finish_tame _ _ _ _).steady <| reserve_steady _ _
  · exact (finish_tame _ _ _ _).steady

theorem execHssReserve_goes (slot : Fin 4096) (s : State) : Goes s (execHssReserve slot s) :=
  runOp_goes _ _ _ _ (fun _ _ => (hbsReserve_steady _ _ _).kept)

theorem execXmssReserve_goes (slot : Fin 4096) (s : State) : Goes s (execXmssReserve slot s) :=
  runOp_goes _ _ _ _ (fun _ _ => (hbsReserve_steady _ _ _).kept)

theorem lose_tame (s : State) (n : Nat) : Tame s (s.lose n) := count_tame _ _ _

theorem applyPartition_steady (s0 : State) (i : Nat) (k0 : Key) (new prev : Bytes) :
    Steady s0 (s0.applyPartition i k0 new prev) := by
  unfold State.applyPartition
  split
  · exact assignKey_steady _ _
  · exact .after (.ite (.after (reserve_steady _ _) <| .after (refreshTraversal_tame _ _).steady <|
      .after (setCounter_tame _ _ _).steady (lose_tame _ _).steady) <| .refl _) <| .after (setKey_steady _ _ _) <|
      .after (touch_tame _ _ _).steady <| assignKey_steady _ _

theorem partitionConflict_steady (s0 : State) (i : Nat) (k0 : Key) : Steady s0 (s0.partitionConflict i k0) := by
  unfold State.partitionConflict
  dsimp only
  split
  · exact assignKey_steady _ _
  · exact .after (lose_tame _ _).steady <| .after (setCounter_tame _ _ _).steady <| .after (setKey_steady _ _ _) <|
      .after (touch_tame _ _ _).steady <| .after (raise_tame _ _ _).steady <| assignKey_steady _ _

end Sys2Proof.Frame
end

section

/-! ### What the operations of `Machine/Skipper.lean` leave as it is -/

namespace Sys2Proof.Frame

open Sys2Proof Sys2Proof.Machine

theorem execFndsaSign_goes (slot : Fin 4096) (s : State) : Goes s (execFndsaSign slot s) :=
  runOp_goes _ _ _ _ (fun _ _ => (signBlocks_tame _ _ _ _ _ _ _ _ _ _ _ _).kept)

theorem execFndsaVerify_goes (slot : Fin 4096) (s : State) : Goes s (execFndsaVerify slot s) :=
  runOp_goes _ _ _ _ (fun _ _ => (finish_tame _ _ _ _).kept)

theorem execHkemEncaps_goes (slot : Fin 4096) (s : State) : Goes s (execHkemEncaps slot s) :=
  runOp_goes _ _ _ _ (fun _ _ => .after (useMasks_tame _ _).kept (finish_tame _ _ _ _).kept)

theorem execHkemDecaps_goes (slot : Fin 4096) (s : State) : Goes s (execHkemDecaps slot s) :=
  runOp_goes _ _ _ _ (fun _ _ => .after (useMasks_tame _ _).kept (finish_tame _ _ _ _).kept)

theorem execCsigSign_goes (slot : Fin 4096) (s : State) : Goes s (execCsigSign slot s) :=
  runOp_goes _ _ _ _ (fun _ _ => .after (useMasks_tame _ _).kept (signBlocks_tame _ _ _ _ _ _ _ _ _ _ _ _).kept)

theorem execCsigVerify_goes (slot : Fin 4096) (s : State) : Goes s (execCsigVerify slot s) :=
  runOp_goes _ _ _ _ (fun _ _ => (finish_tame _ _ _ _).kept)

end Sys2Proof.Frame
end

section

/-! ### What the operations of `Machine/Symmetric.lean` leave as it is -/

namespace Sys2Proof.Frame

open Sys2Proof Sys2Proof.Machine

theorem symRun_steady (s : State) (slot op : Nat) : Steady s (s.symRun slot op) := by
  unfold State.symRun
  dsimp only
  split
  · exact assignDue_steady _
  · exact .after (useMasks_tame _ _).steady <| .after (finish_tame _ _ _ _).steady <| assignDue_steady _

theorem symRow_goes (s : State) (slot op : Nat) : Goes s (s.symRow slot op) :=
  runOp_goes _ _ _ _ (fun _ _ => (symRun_steady _ _ _).kept)

theorem execEcbEnc_goes (slot : Fin 4096) (s : State) : Goes s (execEcbEnc slot s) := symRow_goes _ _ _

theorem execEcbDec_goes (slot : Fin 4096) (s : State) : Goes s (execEcbDec slot s) := symRow_goes _ _ _

theorem execCbcEnc_goes (slot : Fin 4096) (s : State) : Goes s (execCbcEnc slot s) := symRow_goes _ _ _

theorem execCbcDec_goes (slot : Fin 4096) (s : State) : Goes s (execCbcDec slot s) := symRow_goes _ _ _

theorem execCtr_goes (slot : Fin 4096) (s : State) : Goes s (execCtr slot s) := symRow_goes _ _ _

theorem execGcmEnc_goes (slot : Fin 4096) (s : State) : Goes s (execGcmEnc slot s) := symRow_goes _ _ _

theorem execGcmDec_goes (slot : Fin 4096) (s : State) : Goes s (execGcmDec slot s) := symRow_goes _ _ _

theorem execGmacGen_goes (slot : Fin 4096) (s : State) : Goes s (execGmacGen slot s) := symRow_goes _ _ _

theorem execGmacVerify_goes (slot : Fin 4096) (s : State) : Goes s (execGmacVerify slot s) := symRow_goes _ _ _

theorem execCcmEnc_goes (slot : Fin 4096) (s : State) : Goes s (execCcmEnc slot s) := symRow_goes _ _ _

theorem execCcmDec_goes (slot : Fin 4096) (s : State) : Goes s (execCcmDec slot s) := symRow_goes _ _ _

theorem execXtsEnc_goes (slot : Fin 4096) (s : State) : Goes s (execXtsEnc slot s) := symRow_goes _ _ _

theorem execXtsDec_goes (slot : Fin 4096) (s : State) : Goes s (execXtsDec slot s) := symRow_goes _ _ _

theorem execCmacGen_goes (slot : Fin 4096) (s : State) : Goes s (execCmacGen slot s) := symRow_goes _ _ _

theorem execCmacVerify_goes (slot : Fin 4096) (s : State) : Goes s (execCmacVerify slot s) := symRow_goes _ _ _

theorem execKwWrap_goes (slot : Fin 4096) (s : State) : Goes s (execKwWrap slot s) := symRow_goes _ _ _

theorem execKwUnwrap_goes (slot : Fin 4096) (s : State) : Goes s (execKwUnwrap slot s) := symRow_goes _ _ _

theorem execDigest_goes (slot : Fin 4096) (s : State) : Goes s (execDigest slot s) := symRow_goes _ _ _

theorem execXof_goes (slot : Fin 4096) (s : State) : Goes s (execXof slot s) := symRow_goes _ _ _

theorem execVerifyDigest_goes (slot : Fin 4096) (s : State) : Goes s (execVerifyDigest slot s) := symRow_goes _ _ _

theorem execHmac_goes (slot : Fin 4096) (s : State) : Goes s (execHmac slot s) := symRow_goes _ _ _

theorem execKmac_goes (slot : Fin 4096) (s : State) : Goes s (execKmac slot s) := symRow_goes _ _ _

theorem execVerifyMac_goes (slot : Fin 4096) (s : State) : Goes s (execVerifyMac slot s) := symRow_goes _ _ _

theorem execChachapolyEnc_goes (slot : Fin 4096) (s : State) : Goes s (execChachapolyEnc slot s) := symRow_goes _ _ _

theorem execChachapolyDec_goes (slot : Fin 4096) (s : State) : Goes s (execChachapolyDec slot s) := symRow_goes _ _ _

theorem execAsconEnc_goes (slot : Fin 4096) (s : State) : Goes s (execAsconEnc slot s) := symRow_goes _ _ _

theorem execAsconDec_goes (slot : Fin 4096) (s : State) : Goes s (execAsconDec slot s) := symRow_goes _ _ _

theorem execAsconHash_goes (slot : Fin 4096) (s : State) : Goes s (execAsconHash slot s) := symRow_goes _ _ _

theorem execAsconXof_goes (slot : Fin 4096) (s : State) : Goes s (execAsconXof slot s) := symRow_goes _ _ _

theorem kdfRow_goes (s : State) (slot op : Nat) : Goes s (s.kdfRow slot op) :=
  runOp_goes _ _ _ _ (fun _ _ => (finish_tame _ _ _ _).kept)

theorem execKdfCtr_goes (slot : Fin 4096) (s : State) : Goes s (execKdfCtr slot s) := kdfRow_goes _ _ _

theorem execHkdf_goes (slot : Fin 4096) (s : State) : Goes s (execHkdf slot s) := kdfRow_goes _ _ _

theorem execKdfOnestep_goes (slot : Fin 4096) (s : State) : Goes s (execKdfOnestep slot s) := kdfRow_goes _ _ _

end Sys2Proof.Frame
end

section

/-! ### What the operations of `Machine/Vault.lean` leave as it is -/

namespace Sys2Proof.Frame

open Sys2Proof Sys2Proof.Machine

theorem generateOne_tame (s : State) (slot : Nat) (j : Job) : Tame s (s.generateOne slot j) :=
  .after (useMasks_tame _ _) <| finish_tame _ _ _ _

theorem cmAttempt_tame (s : State) : Tame s s.cmAttempt := count_tame _ _ _

theorem generateCm_tame (s : State) (slot : Nat) (j : Job) : Tame s (s.generateCm slot j) :=
  .ite (.ite (.after (cmAttempt_tame _) <| .after (finish_tame _ _ _ _) <| onJob_tame _ _ _) <| .ite (.after (cmAttempt_tame _) <|
    finish_tame _ _ _ _) <| .after (cmAttempt_tame _) <| finish_tame _ _ _ _) <| finish_tame _ _ _ _

theorem rsaDiscard_tame (s : State) (slot most kind pset n tried found : Nat) :
    Tame s (s.rsaDiscard slot most kind pset n tried found) :=
  .ite (finish_tame _ _ _ _) <| .after (finish_tame _ _ _ _) <| onJob_tame _ _ _

theorem generateRsa_tame (s : State) (slot : Nat) (j : Job) : Tame s (s.generateRsa slot j) := by
  unfold State.generateRsa
  refine .after (makeRoom_tame _ _) <| .after (useMasks_tame _ _) ?_
  split
  · exact .after (.ite (.after (finish_tame _ _ _ _) <| onJob_tame _ _ _) <| rsaDiscard_tame _ _ _ _ _ _ _ _) <| count_tame _ _ _
  · exact .ite (.ite (.after (finish_tame _ _ _ _) <| onJob_tame _ _ _) <| .after (finish_tame _ _ _ _) <| onJob_tame _ _ _) <|
      rsaDiscard_tame _ _ _ _ _ _ _ _
  · exact finish_tame _ _ _ _

theorem generateHbs_tame (s : State) (slot : Nat) (j : Job) : Tame s (s.generateHbs slot j) := .ite (.refl _) <| finish_tame _ _ _ _

theorem execGenerate_goes (slot : Fin 4096) (s : State) : Goes s (execGenerate slot s) :=
  runOp_goes _ _ _ _ (fun _ _ => .ite (generateHbs_tame _ _ _).kept <| .ite (generateCm_tame _ _ _).kept <|
    .ite (generateRsa_tame _ _ _).kept (generateOne_tame _ _ _).kept)

theorem execDestroy_goes (slot : Fin 4096) (s : State) : Goes s (execDestroy slot s) :=
  runOp_goes _ _ _ _ (fun _ _ => (finish_tame _ _ _ _).kept)

theorem execDerive_goes (slot : Fin 4096) (s : State) : Goes s (execDerive slot s) :=
  runOp_goes _ _ _ _ (fun _ _ => (finish_tame _ _ _ _).kept)

theorem execExportWrapped_goes (slot : Fin 4096) (s : State) : Goes s (execExportWrapped slot s) := by
  unfold execExportWrapped
  exact runOp_goes _ _ _ _ (fun _ _ => by
    split
    · exact (finish_tame _ _ _ _).kept
    · exact .ite (.after (useMasks_tame _ _).kept (finish_tame _ _ _ _).kept) (finish_tame _ _ _ _).kept)

theorem queryView_tame (s : State) (k : Key) : Tame s (s.queryView k).2 := tame_snd_ite (.refl _) <| draw_tame _

theorem execQuery_goes (slot : Fin 4096) (s : State) : Goes s (execQuery slot s) := by
  unfold execQuery
  exact runOp_goes _ _ _ _ (fun _ _ => by
    split
    · exact .after (finish_tame _ _ _ _).kept (queryView_tame _ _).kept
    · exact (finish_tame _ _ _ _).kept)

end Sys2Proof.Frame
end

section

/-! ### What the operations of `Machine/HerdFrames.lean` leave as it is -/

namespace Sys2Proof.Frame

open Sys2Proof Sys2Proof.Machine

theorem setPeer_tame (s : State) (p : Nat) (x : Peer) : Tame s (s.setPeer p x) := .put rfl <| .refl _

theorem setHerdPort_tame (s : State) (q : Nat) (x : HerdPort) : Tame s (s.setHerdPort q x) := .put rfl <| .refl _

theorem sendFragment_tame (s : State) (dst typ : Nat) (enc : Bool) (msg frag count : Nat) (data : Bytes) :
    Tame s (s.sendFragment dst typ enc msg frag count data) := by
  unfold State.sendFragment
  split
  · exact .after (send_tame _ _) <| setPeer_tame _ _ _
  · exact .refl _

theorem sendFragments_tame (s : State) (dst typ : Nat) (enc : Bool) (msg count k : Nat) (l : List Bytes) :
    Tame s (s.sendFragments dst typ enc msg count k l) := by
  induction l generalizing s k with
  | nil => exact .refl s
  | cons b r ih => exact .after (ih _ _) (sendFragment_tame _ _ _ _ _ _ _ _)

theorem sendHerd_tame (s : State) (dst typ : Nat) (enc : Bool) (payload : Bytes) : Tame s (s.sendHerd dst typ enc payload) :=
  .after (sendFragments_tame _ _ _ _ _ _ _ _) <| setPeer_tame _ _ _

theorem sendAll_tame (s : State) (typ : Nat) (payload : Bytes) : Tame s (s.sendAll typ payload) :=
  tame_foldl _ (fun _ _ => sendHerd_tame _ _ _ _ _) _ _

theorem replicate_tame (s : State) (i op : Nat) (k : Key) : Tame s (s.replicate i op k) := .ite (sendAll_tame _ _ _) <| .refl _

theorem beatSync_tame (s : State) : Tame s s.beatSync := by
  unfold State.beatSync
  split
  · exact .ite (.refl _) <| .put rfl <| sendHerd_tame _ _ _ _ _
  · exact .refl _

end Sys2Proof.Frame
end

section

/-! ### What the operations of `Machine/Maint.lean` leave as it is -/

namespace Sys2Proof.Frame

open Sys2Proof Sys2Proof.Machine

theorem ask_tame (s : State) (act who : Nat) : Tame s (s.ask act who) :=
  .ite (.refl _) <| .after (wake_tame _) <| .put rfl <| .refl _

theorem request_tame (s : State) (act who : Nat) : Tame s (s.request act who) := .ite (.refl _) <| ask_tame _ _ _

theorem endGrant_tame (s : State) (act : Nat) : Tame s (s.endGrant act) := .put rfl <| .refl _

theorem dropActivity_tame (s : State) (act : Nat) : Tame s (s.dropActivity act) := .put rfl <| .refl _

theorem dropRequests_tame (s : State) (act who : Nat) : Tame s (s.dropRequests act who) := .put rfl <| .refl _

theorem zeroiseUnit_tame (s : State) (x : Nat × Nat) : Tame s (s.zeroiseUnit x) := setUnit_tame _ _ _ _

theorem beginTest_tame (s : State) : Tame s s.beginTest := by
  unfold State.beginTest
  split
  · exact .ite (.put rfl <| .after (serve_tame _ _ _) <| tame_foldl _ (fun _ _ => zeroiseUnit_tame _ _) _ _) <| .refl _
  · exact .refl _

theorem isolate_tame (s : State) (p : Nat) : Tame s (s.isolate p) :=
  .ite (endGrant_tame _ _) <| .after (beginTest_tame _) <| .put rfl <| tame_foldl _ (fun _ _ => .ite (setUnit_tame _ _ _ _) <|
    .refl _) _ _

theorem setSource_tame (s : State) (i : Nat) (x : Source) : Tame s (s.setSource i x) := .put rfl <| .refl _

theorem openRetrain_tame (s : State) : Tame s s.openRetrain := .ite (.put rfl <| .refl _) <| .refl _

theorem onGrant_tame (s : State) (act who : Nat) : Tame s (s.onGrant act who) :=
  .ite (isolate_tame _ _) <| .ite (setSource_tame _ _ _) <| .ite (.put rfl <| .refl _) <| .ite (.after (openRetrain_tame _) <|
    .put rfl <| .refl _) <| .refl _

theorem grantOne_tame (s : State) (r : MaintReq) : Tame s (s.grantOne r) := .after (onGrant_tame _ _ _) <| .put rfl <| .refl _

theorem execMaintGrant_goes (s : State) : Goes s (execMaintGrant s) :=
  .ite (.next <| .refl _) <| .next <| .after (kept_foldl _ (fun _ _ => (grantOne_tame _ _).kept) _ _) <| .put rfl <| .refl _

theorem execMaintRequest_goes (act : Fin 9) (who : Nat) (s : State) : Goes s (execMaintRequest act who s) :=
  .next <| .ite (request_tame _ _ _).kept <| .refl _

theorem execMaintOverdue_goes (act : Fin 9) (s : State) : Goes s (execMaintOverdue act s) :=
  .next <| .after (kept_foldl _ (fun _ _ => (raise_tame _ _ _).kept) _ _) <| .put rfl <| .refl _

theorem execRollingBistStart_goes (s : State) : Goes s (execRollingBistStart s) := by
  unfold execRollingBistStart
  refine .ite (.next <| .refl _) ?_
  split
  · exact .next <| .refl _
  · exact .next <| .after (request_tame _ _ _).kept <| .put rfl <| .refl _

theorem returnUnits_tame (s : State) (p : Nat) (retest : Bool) : Tame s (s.returnUnits p retest) :=
  tame_foldl _ (fun _ _ => setUnit_tame _ _ _ _) _ _

theorem regain_tame (s : State) : Tame s s.regain := .ite (changeMode_tame _ _ (serviceMode_le _)) <| .refl _

theorem failPartition_tame (s : State) (p src : Nat) : Tame s (s.failPartition p src) :=
  .after (tame_foldl _ (fun _ _ => .ite (markUnusable_tame _ _ _ _) <| .refl _) _ _) <| raise_tame _ _ _

theorem noteInjections_tame (s : State) (passes : Nat) (failed : Bool) (detail : Nat) :
    Tame s (s.noteInjections passes failed detail) :=
  .after (.ite (raise_tame _ _ _) <| .refl _) <| .put rfl <| .refl _

theorem execRollingBistEnd_goes (result : Bool × Fin 17 × Bool) (s : State) : Goes s (execRollingBistEnd result s) := by
  unfold execRollingBistEnd
  split
  · exact .next <| .refl _
  · exact .ite (.next <| .refl _) <| .next <| .after (.ite (.after (regain_tame _).kept (returnUnits_tame _ _ _).kept)
      (failPartition_tame _ _ _).kept) <| .after (noteInjections_tame _ _ _ _).kept <| .put rfl (endGrant_tame _ _).kept

theorem retest_kept (s : State) (value : Nat) : KeptOpt s (s.retest value) :=
  .ite (.some <| .after (ask_tame _ _ _).kept <| .put rfl <| .refl _) .none

theorem execUnitRetest_goes (value : BitVec 16) (s : State) : Goes s (execUnitRetest value s) :=
  .next <| (retest_kept _ _).getD (.refl _)

theorem execShadowMismatch_goes (item : Fin 5) (source : List (Fin 192)) (copy : List (Fin 6)) (s : State) :
    Goes s (execShadowMismatch item source copy s) :=
  .ite (.next <| .refl _) <| .next <| .after (raise_tame _ _ _).kept <| .put rfl <| .refl _

theorem execMicroTrapScrub_goes (cls : Fin 8) (unit : Fin 16) (word : Nat) (s : State) :
    Goes s (execMicroTrapScrub cls unit word s) := by
  unfold execMicroTrapScrub
  split
  · exact .next <| .refl _
  · exact .next <| .ite (raise_tame _ _ _).kept <| .after (raise_tame _ _ _).kept <| .put rfl <| .refl _

end Sys2Proof.Frame
end

section

/-! ### What the operations of `Machine/Rings.lean` leave as it is -/

namespace Sys2Proof.Frame

open Sys2Proof Sys2Proof.Machine

theorem mustRead_tame (s : State) (n : Nat) : Tame s (s.mustRead n) :=
  .ite (.refl _) <| .ite (issue_tame _ _) <| .after (raise_tame _ _ _) <| haltQueue_tame _ _ _ _

theorem askHeaders_tame (s : State) (n : Nat) : Tame s (s.askHeaders n) := askAll_tame _ _ _

theorem startFetch_tame (s : State) (n : Nat) : Tame s (s.startFetch n) :=
  .ite (.after (mustRead_tame _ _) <| setQueue_tame _ _ _) <| setQueue_tame _ _ _

theorem wakeFetch_tame (s : State) (n : Nat) : Tame s (s.wakeFetch n) := .ite (startFetch_tame _ _) <| setQueue_tame _ _ _

theorem takeCqHead_tame (s : State) (n v : Nat) : Tame s (s.takeCqHead n v) := setQueue_tame _ _ _

theorem ringDoorbell_tame (s : State) (fn k v : Nat) : Tame s (s.ringDoorbell fn k v) := by
  unfold State.ringDoorbell
  dsimp only
  refine .ite (.refl _) ?_
  split
  · exact .after (violation_tame _ _ _ _) <| wake_tame _
  · exact .after (.ite (violation_tame _ _ _ _) <| .after (.ite (.refl _) <| wakeFetch_tame _ _) <|
      .ite (violation_tame _ _ _ _) <| .ite (takeCqHead_tame _ _ _) <| .refl _) <| wake_tame _

theorem execDoorbellWrite_goes (fn k : Fin 256) (value : BitVec 64) (s : State) : Goes s (execDoorbellWrite fn k value s) :=
  .next (ringDoorbell_tame _ _ _ _).kept

theorem wakePending_tame (s : State) : Tame s s.wakePending := tame_foldl _ (fun _ _ => .ite (startFetch_tame _ _) <| .refl _) _ _

theorem closeRetry_tame (s : State) (r : DmaRead) : Tame s (s.closeRetry r) := dropReads_tame _ _

theorem rereadOver_tame (s : State) (n : Nat) : Tame s (s.rereadOver n) := by
  unfold State.rereadOver
  dsimp only
  split
  · exact .after (.ite (.put rfl <| .refl _) <| .refl _) <| closeRetry_tame _ _
  · exact closeRetry_tame _ _

theorem headerReturn_tame (s : State) (n index : Nat) (data : Bytes) : Tame s (s.headerReturn n index data) :=
  .ite (.after (askHeaders_tame _ _) <| .after (setQueue_tame _ _ _) <| rereadOver_tame _ _) <| .ite (.refl _) <|
    .after (askHeaders_tame _ _) <| .after (.ite (.ite (.after (mustRead_tame _ _) <| setQueue_tame _ _ _) <|
    setQueue_tame _ _ _) <| .ite (setQueue_tame _ _ _) <| .after (mustRead_tame _ _) <| setQueue_tame _ _ _) <| closeRetry_tame _ _

theorem execHeaderReadReturn_goes (q : Fin 1024) (index : Nat) (data : Bytes) (s : State) :
    Goes s (execHeaderReadReturn q index data s) :=
  .next (headerReturn_tame _ _ _ _).kept

theorem rescan_tame (s : State) (n : Nat) : Tame s (s.rescan n) := .ite (startFetch_tame _ _) <| .refl _

theorem execIdleRescan_goes (q : Fin 1024) (s : State) : Goes s (execIdleRescan q s) := .next (rescan_tame _ _).kept

theorem resumeFetch_tame (s : State) (n : Nat) : Tame s (s.resumeFetch n) :=
  .ite (.after (mustRead_tame _ _) <| setQueue_tame _ _ _) <| .refl _

theorem execFetchResume_goes (q : Fin 1024) (s : State) : Goes s (execFetchResume q s) := .next (resumeFetch_tame _ _).kept

theorem blockReturn_tame (s : State) (n index : Nat) (data : Bytes) : Tame s (s.blockReturn n index data) :=
  .ite (.refl _) <| .after (setQueue_tame _ _ _) <| closeRetry_tame _ _

theorem execParameterBlockReturn_goes (q : Fin 1024) (index : Nat) (data : Bytes) (s : State) :
    Goes s (execParameterBlockReturn q index data s) :=
  .next (blockReturn_tame _ _ _ _).kept

theorem queueMessage_tame (s : State) (n : Nat) : Tame s (s.queueMessage n) := .after (signal_tame _ _ _) <| setQueue_tame _ _ _

theorem execIntDelayExpiry_goes (q : Fin 1024) (s : State) : Goes s (execIntDelayExpiry q s) :=
  .next <| .ite (queueMessage_tame _ _).kept <| .refl _

theorem unmask_tame (s : State) (fn vec : Nat) : Tame s (s.unmask fn vec) :=
  .after (.ite (send_tame _ _) <| .refl _) <| setFunc_tame _ _ _

theorem execMsixUnmask_goes (fn : Fin 256) (vec : Fin 8) (s : State) : Goes s (execMsixUnmask fn vec s) :=
  .next (unmask_tame _ _ _).kept

theorem readFails_tame (s : State) (r : DmaRead) (addr : Nat) : Tame s (s.readFails r addr) := by
  unfold State.readFails
  split
  · exact .refl _
  · exact .ite (.refl _) <| .ite (.refl _) <| .after (.ite (.after (raise_tame _ _ _) <| haltQueue_tame _ _ _ _) <| .put rfl <|
      .refl _) <| closeRetry_tame _ _

theorem execDmaReadFailure_goes (read : DmaRead) (addr : BitVec 64) (s : State) : Goes s (execDmaReadFailure read addr s) :=
  .next (readFails_tame _ _ _).kept

theorem execDmaRetry_goes (read : DmaRead) (s : State) : Goes s (execDmaRetry read s) := by
  unfold execDmaRetry
  split
  · exact .next <| .ite (.ite (owe_tame _ _ _ _).kept <| .after (issue_tame _ _).kept <| .put rfl (setQueue_tame _ _ _).kept) <|
      .refl _
  · exact .next <| .refl _

theorem execCompletionTimeoutExpiry_goes (read : DmaRead) (addr : BitVec 64) (s : State) :
    Goes s (execCompletionTimeoutExpiry read addr s) :=
  .next <| .ite (.after (readFails_tame _ _ _).kept <| .put rfl <| .refl _) <| .refl _

theorem writeRefused_tame (s : State) (n addr : Nat) : Tame s (s.writeRefused n addr) :=
  .after (raise_tame _ _ _) <| haltQueue_tame _ _ _ _

theorem settleOwed_tame (s : State) : Tame s s.settleOwed :=
  .after (tame_foldl _ (fun _ _ => .ite (.after (raise_tame _ _ _) <| haltQueue_tame _ _ _ _) <| .refl _) _ _) <| .put rfl <|
    .refl _

theorem completionRefused_tame (s : State) (slot n addr : Nat) : Tame s (s.completionRefused slot n addr) :=
  .after (raise_tame _ _ _) <| .after (haltQueue_tame _ _ _ _) <| .after (setQueue_tame _ _ _) <| dropJob_tame _ _

theorem dropCompletion_tame (s : State) (slot : Nat) (j : Job) : Tame s (s.dropCompletion slot j) :=
  .ite (dropJob_tame _ _) <| completionRefused_tame _ _ _ _

theorem execViolationBucketLeak_goes (d : Fin 256) (s : State) : Goes s (execViolationBucketLeak d s) := by
  unfold execViolationBucketLeak
  split
  · exact .next <| .refl _
  · exact .next <| .ite (.refl _) <| .ite (.put rfl <| .refl _) <| .put rfl <| .refl _

theorem abortJobs_tame (s : State) (n : Nat) : Tame s (s.abortJobs n) :=
  .after (meetAll_tame _ _ _) <| .after (dropReads_tame _ _) <| setQueue_tame _ _ _

theorem abortQueue_tame (s : State) (n : Nat) : Tame s (s.abortQueue n) :=
  .ite (.after (abortJobs_tame _ _) <| setQueue_tame _ _ _) <| .refl _

theorem resetQueue_tame (s : State) (n : Nat) : Tame s (s.resetQueue n) :=
  .ite (.refl _) <| .after (abortJobs_tame _ _) <| setQueue_tame _ _ _

theorem restartQueue_tame (s : State) (n : Nat) : Tame s (s.restartQueue n) :=
  .ite (.after (mustRead_tame _ _) <| setQueue_tame _ _ _) <| .refl _

theorem disableQueue_kept (s : State) (n : Nat) : Kept s (s.disableQueue n) :=
  .ite (.refl _) <| .after (abortJobs_tame _ _).kept <| .after (setQueue_tame _ _ _).kept <| setCfg_kept _ _ _ _

theorem control_tame (s : State) (fn k : Nat) (f : State → Nat → State) (h : ∀ a n, Tame a (f a n)) :
    Tame s (s.control fn k f) := by
  unfold State.control
  dsimp only
  refine .ite (.refl s) ?_
  split
  · exact wake_tame s
  · exact .after (h _ _) (wake_tame s)

theorem execQueueAbort_goes (fn k : Fin 256) (s : State) : Goes s (execQueueAbort fn k s) :=
  .next (control_tame _ _ _ _ (fun _ _ => abortQueue_tame _ _)).kept

theorem execQueueReset_goes (fn k : Fin 256) (s : State) : Goes s (execQueueReset fn k s) :=
  .next (control_tame _ _ _ _ (fun _ _ => resetQueue_tame _ _)).kept

theorem execQueueRestart_goes (fn k : Fin 256) (s : State) : Goes s (execQueueRestart fn k s) :=
  .next (control_tame _ _ _ _ (fun _ _ => restartQueue_tame _ _)).kept

theorem queueDone_tame (s : State) (n : Nat) : Tame s (s.queueDone n) := .ite (cause_tame _ _ _) <| .refl _

theorem finishAbort_kept (s : State) (n : Nat) : Kept s (s.finishAbort n) :=
  .after (.ite (setCfg_kept _ _ _ _) <| .refl _) <| .after (queueDone_tame _ _).kept <|
    .after (wakePending_tame _).kept (setQueue_tame _ _ _).kept

theorem execQueueDone_goes (q : Fin 1024) (s : State) : Goes s (execQueueDone q s) :=
  .next <| .after (.ite (finishAbort_kept _ _) <| .refl _) <| .ite (.after (queueDone_tame _ _).kept (setQueue_tame _ _ _).kept) <|
    .refl _

theorem enableQueue_kept (s : State) (n : Nat) : Kept s (s.enableQueue n) :=
  .ite (.refl _) <| .after (setQueue_tame _ _ _).kept <| setCfg_kept _ _ _ _

theorem execQEnable_goes (by_ : Fin 256) (q : Fin 1024) (on : Bool) (s : State) : Goes s (execQEnable by_ q on s) :=
  .next <| .ite (.refl _) <| .ite (enableQueue_kept _ _) <| disableQueue_kept _ _

end Sys2Proof.Frame
end

section

/-! ### What the operations of `Machine/Writes.lean` leave as it is -/

namespace Sys2Proof.Frame

open Sys2Proof Sys2Proof.Machine

theorem writeEraseMap_tame (s : State) : Tame s s.writeEraseMap := .put rfl <| .refl _

theorem putEntry_kept (s : State) (d : Nat) (w : EntryWrite) (e : Entry) : Kept s (s.putEntry d w e) :=
  .ite (.put rfl <| .refl _) <| .ite (.put rfl <| .refl _) <| .ite (.after (setCfg_kept _ _ _ _) <| .put rfl <| .refl _) <|
    setCfg_kept _ _ _ _

theorem writeLate_kept (s : State) (d : Nat) (w : EntryWrite) : Kept s (s.writeLate d w) := .put rfl <| .refl _

theorem capChanged_tame (s : State) : Tame s s.capChanged := .put rfl <| .refl _

theorem afterWrite_kept (old s : State) (w : EntryWrite) : Kept s (old.afterWrite s w) :=
  .ite (.ite (.after (.ite (enableQueue_kept _ _) <| disableQueue_kept _ _) <| setCfg_kept _ _ _ _) <|
    .ite (emptyMonitor_tame _ _).kept <| .refl _) <| .ite (.put rfl <| .refl _) <| .ite (capChanged_tame _).kept <|
    .ite (.put rfl <| .refl _) <| .after (.ite (writeEraseMap_tame _).kept <| .refl _) <| .ite (.put rfl <| .refl _) <| .refl _

theorem applyWrites_kept (s : State) (d : Nat) (ws : List EntryWrite) : Kept s (s.applyWrites d ws) := by
  unfold State.applyWrites
  exact kept_foldl _ (fun a x => by
    split
    · exact .after (afterWrite_kept _ _ _) <| putEntry_kept _ _ _ _
    · exact .refl _) _ _

theorem bootEnd_kept (s : State) : Kept s s.bootEnd :=
  .ite (.refl _) <| .after (extend_tame _ _ _).kept <| .put rfl <| applyWrites_kept _ _ _

end Sys2Proof.Frame
end

section

/-! ### What the operations of `Machine/Wheel.lean` leave as it is -/

namespace Sys2Proof.Frame

open Sys2Proof Sys2Proof.Machine

theorem cancelSwap_tame (s : State) : Tame s s.cancelSwap := .put rfl <| .ite (dropRequests_tame _ _ _) <| .refl _

theorem stageReset_tame (s : State) : Tame s s.stageReset := .put rfl <| cancelSwap_tame _

theorem stageData_kept (s : State) (data : Bytes) : KeptOpt s (s.stageData data) :=
  .ite .none <| .some <| .put rfl <| .after (.ite (cancelSwap_tame _).kept <| .refl _) <| .ite (bootEnd_kept _) <| .refl _

theorem execStageReset_goes (s : State) : Goes s (execStageReset s) :=
  .next <| .ite (.refl _) <| .ite (writeLate_kept _ _ _) (stageReset_tame _).kept

theorem execStageData_goes (data : Bytes) (s : State) : Goes s (execStageData data s) :=
  .next <| .ite (KeptOpt.elim (stageData_kept _ _) (.refl s) fun _ ht => .ite (writeLate_kept _ _ _) ht) (.refl s)

theorem useWheel_tame (s : State) (img : Option Bytes) (source : Nat) (digest : Bytes) : Tame s (s.useWheel img source digest) := by
  unfold State.useWheel
  dsimp only
  exact .put rfl <| .refl _

theorem chooseWheel_tame (s : State) : Tame s s.chooseWheel :=
  .ite (.refl _) <| .after (extend_tame _ _ _) <| .put rfl <| .ite (useWheel_tame _ _ _ _) <| .ite (useWheel_tame _ _ _ _) <|
    .after (raise_tame _ _ _) <| useWheel_tame _ _ _ _

theorem swapWheel_tame (s : State) : Tame s s.swapWheel :=
  .after (endStranded_tame _) <| .after (endGrant_tame _ _) <| .after (extend_tame _ _ _) <| .put rfl <| useWheel_tame _ _ _ _

theorem newTier_tame (s : State) : Tame s s.newTier := .ite (.refl _) <| .put rfl <| .refl _

theorem atBoundary_tame (s : State) : Tame s s.atBoundary :=
  .after (beatSync_tame _) <| .after (.ite (swapWheel_tame _) <| newTier_tame _) <| .put rfl <| sampleOccupancy_tame _

theorem execWheelBoundary_goes (s : State) : Goes s (execWheelBoundary s) :=
  .next <| .ite (.refl _) <| .ite (.after (atBoundary_tame _).kept <| .put rfl <| .refl _) <| .ite (.refl _) <| .ite (.put rfl <|
    .refl _) (atBoundary_tame _).kept

theorem powerCap_kept (s : State) (v : Nat) : KeptOpt s (s.powerCap v) := .ite (.some <| writeLate_kept _ _ _) .none

theorem execPowerCap_goes (value : BitVec 16) (s : State) : Goes s (execPowerCap value s) :=
  .next <| .ite ((powerCap_kept _ _).getD (.refl _)) <| .refl _

theorem countClear_tame (s : State) (idx : Nat) : Tame s (s.countClear idx) :=
  .ite (.put rfl <| .refl _) <| .ite (.put rfl <| .refl _) <| .ite (.put rfl <| .refl _) <| .ite (.put rfl <| .refl _) <| .refl _

theorem execCountClear_goes (index : BitVec 16) (s : State) : Goes s (execCountClear index s) :=
  .next <| .ite (countClear_tame _ _).kept <| .refl _

end Sys2Proof.Frame
end

section

/-! ### What the operations of `Machine/Persist.lean` leave as it is -/

namespace Sys2Proof.Frame

open Sys2Proof Sys2Proof.Machine

theorem openRound_steady (s : State) : Steady s s.openRound := .put rfl <| .refl _

theorem execVaultExport_goes (slot : Fin 4096) (s : State) : Goes s (execVaultExport slot s) :=
  runOp_goes _ _ _ _ (fun _ _ => .after (finish_tame _ _ _ _).kept <| .after (.ite (.put rfl <| .refl _) <| .refl _) <|
    .ite (.refl _) (openRound_steady _).kept)

theorem countExported_tame (s : State) (j : Job) (r : Result) : Tame s (s.countExported j r) :=
  .ite (.put rfl <| .refl _) <| .refl _

theorem execCopyAreaFreed_goes (page : Nat) (s : State) : Goes s (execCopyAreaFreed page s) :=
  .next <| .ite (.refl _) <| .put rfl <| .refl _

theorem beginSlot_tame (s : State) (c : JournalSlot) (job : Option Nat) : Tame s (s.beginSlot c job) := .put rfl <| .refl _

theorem execVaultPrepare_goes (slot : Fin 4096) (s : State) : Goes s (execVaultPrepare slot s) :=
  runOp_goes _ _ _ _ (fun _ _ => .ite (.refl _) <| .after (finish_tame _ _ _ _).kept (beginSlot_tame _ _ _).kept)

theorem execVaultCommit_goes (slot : Fin 4096) (s : State) : Goes s (execVaultCommit slot s) :=
  runOp_goes _ _ _ _ (fun _ _ => .ite (.refl _) <| .after (finish_tame _ _ _ _).kept (beginSlot_tame _ _ _).kept)

theorem commitRound_steady (s : State) (c : JournalSlot) : Steady s (s.commitRound c) := .put rfl <| .refl _

theorem abandonRound_steady (s : State) : Steady s s.abandonRound := .put rfl <| .refl _

theorem closeRound_tame (s : State) : Tame s s.closeRound := .after (.ite (requestCommit_tame _) <| .refl _) <| .put rfl <| .refl _

theorem endLateGrant_tame (s : State) (w : SlotWrite) : Tame s (s.endLateGrant w) := by
  unfold State.endLateGrant
  split
  · exact .ite (.refl _) <| dropCommit_tame _ _
  · exact .refl _

theorem countCommit_tame (s : State) (w : SlotWrite) : Tame s (s.countCommit w) := .ite (.put rfl <| .refl _) <| .refl _

theorem slotWritten_steady (s0 : State) (w : SlotWrite) : Steady s0 (s0.slotWritten w) :=
  .after (.ite (.after (endGrant_tame _ _).steady <| .put rfl <| .refl _) <| .ite (.refl _) <| .ite (.put rfl <| .refl _) <|
    .ite (.after (closeRound_tame _).steady <| commitRound_steady _ _) <| .after (closeRound_tame _).steady <|
    abandonRound_steady _) (countCommit_tame _ _).steady

theorem countWrite_tame (s : State) (region : Nat) : Tame s (s.countWrite region) := .put rfl <| .refl _

theorem slotLost_tame (s : State) (w : SlotWrite) : Tame s (s.slotLost w) := by
  unfold State.slotLost
  split
  · exact .after (endLateGrant_tame _ _) <| endJob_tame _ _ _ _ _
  · exact .ite (endGrant_tame _ _) <| .refl _

theorem execJournalSlotWritten_goes (ok : Bool) (s : State) : Goes s (execJournalSlotWritten ok s) := by
  unfold execJournalSlotWritten
  split
  · exact .next <| .refl _
  · exact .ite (.next <| .refl _) <| .ite (.next <| .after (endLateGrant_tame _ _).kept <| .after (slotWritten_steady _ _).kept <|
      .after (countWrite_tame _ _).kept <| .put rfl <| .refl _) <| .ite (.next <| .after (raise_tame _ _ _).kept <|
      .after (countWrite_tame _ _).kept <| .put rfl (draw_tame _).kept) <| .next <| .after (slotLost_tame _ _).kept <|
      .after (raise_tame _ _ _).kept <| .after (countWrite_tame _ _).kept <| .put rfl (draw_tame _).kept

theorem readJournal_tame (s : State) : Tame s s.readJournal :=
  .after (tame_foldl _ (fun _ _ => raise_tame _ _ _) _ _) <| .put rfl <| .refl _

theorem execJournalRotation_goes (s : State) : Goes s (execJournalRotation s) := by
  unfold execJournalRotation
  refine .next ?_
  split
  · exact .ite (.put rfl <| .refl _) <| .refl _
  · exact .refl _

theorem execCommitRequest_goes (s : State) : Goes s (execCommitRequest s) := .next <| .ite (requestCommit_tame _).kept <| .refl _

theorem execCommitIntervalExpiry_goes (s : State) : Goes s (execCommitIntervalExpiry s) := by
  unfold execCommitIntervalExpiry
  refine .next ?_
  split
  · exact .ite (.put rfl <| .refl _) <| .refl _
  · exact .refl _

theorem refuseLoad_tame (s : State) (status cause page seq : Nat) : Tame s (s.refuseLoad status cause page seq) :=
  .after (raise_tame _ _ _) <| .put rfl <| .refl _

theorem openKey_steady (s : State) (i : Nat) : Steady s (s.openKey i) := by
  unfold State.openKey
  split
  · exact .refl _
  · exact .ite (.refl _) <| .after (.ite (setCounter_tame _ _ _).steady <| .refl _) <| setKey_steady _ _ _

theorem raiseQuota_kept (s : State) (d : Nat) : Kept s (s.raiseQuota d) := .ite (setCfg_kept _ _ _ _) <| .refl _

theorem acceptVault_kept (s : State) (root : Nat × Bytes) (status : Nat) : Kept s (s.acceptVault root status) := by
  unfold State.acceptVault
  extract_lets s1 s2 old v s3
  have h1 : Kept s s1 := kept_foldl _ (fun a i => (openKey_steady a i).kept) _ _
  have h2 : Kept s1 s2 := kept_foldl _ (fun a d => raiseQuota_kept a d) _ _
  clear_value s1 s2
  have h3 : Kept s s3 := .put rfl (h1.trans h2)
  split
  · exact .ite h3 (.after (beginSlot_tame _ _ _).kept h3)
  · exact h3

theorem loadPhase_kept (s : State) : Kept s s.loadPhase := .after (chooseWheel_tame _).kept <| bootEnd_kept _

theorem vloadImage_kept (s : State) : KeptOpt s s.vloadImage := .ite .none <| .some <| .put rfl <| loadPhase_kept _

theorem execVloadImage_goes (s : State) : Goes s (execVloadImage s) := .next <| (vloadImage_kept _).getD (.refl _)

theorem vloadEmpty_kept (s : State) : KeptOpt s s.vloadEmpty :=
  .ite .none <| .some <| .after (.ite (.after (acceptVault_kept _ _ _) <| .put rfl <| .refl _) (refuseLoad_tame _ _ _ _ _).kept) <|
    loadPhase_kept _

theorem execVloadEmpty_goes (s : State) : Goes s (execVloadEmpty s) := .next <| (vloadEmpty_kept _).getD (.refl _)

theorem vloadDone_kept (s : State) (list : List (Bytes × Bytes)) (bus : Option Nat) : Kept s (s.vloadDone list bus) := by
  unfold State.vloadDone
  split
  · exact (refuseLoad_tame _ _ _ _ _).kept
  · split
    · exact (refuseLoad_tame _ _ _ _ _).kept
    · split
      · exact (refuseLoad_tame _ _ _ _ _).kept
      · exact .after (acceptVault_kept _ _ _) <| .put rfl <| .refl _

theorem execVloadDone_goes (list : List (Bytes × Bytes)) (bus : Option Nat) (s : State) : Goes s (execVloadDone list bus s) :=
  .next <| .ite (vloadDone_kept _ _ _) <| .refl _

theorem dramEvent_tame (s : State) (kind : Nat) (n : Named) : Tame s (s.dramEvent kind n) := by
  unfold State.dramEvent
  split <;> exact .after (raise_tame _ _ _) <| .put rfl <| .refl _

theorem execPatrolScrubSlice_goes (found : List (Fin 3)) (s : State) : Goes s (execPatrolScrubSlice found s) := by
  unfold execPatrolScrubSlice
  refine .next ?_
  split
  · exact .ite (.refl _) <| .after (.ite (.put rfl <| .refl _) <| .refl _) <|
      .after (kept_foldl _ (fun _ _ => (dramEvent_tame _ _ _).kept) _ _) (endGrant_tame _ _).kept
  · exact .refl _

theorem execDramRetrain_goes (passed : Bool) (s : State) : Goes s (execDramRetrain passed s) := by
  unfold execDramRetrain
  refine .next <| .ite (.ite (.put rfl <| .refl _) (raise_tame _ _ _).kept) ?_
  split
  · exact .ite (.refl _) <| .after (.ite (.put rfl <| .refl _) <| .after (raise_tame _ _ _).kept <| .put rfl <|
      .refl _) (endGrant_tame _ _).kept
  · exact .refl _

theorem callPurge_tame (s : State) (d : Nat) : Tame s (s.callPurge d) := .after (request_tame _ _ _) <| .put rfl <| .refl _

theorem execExpansionPurgeSlice_goes (s : State) : Goes s (execExpansionPurgeSlice s) := by
  unfold execExpansionPurgeSlice
  refine .next ?_
  split
  · exact .ite (.refl _) <| .put rfl (endGrant_tame _ _).kept
  · exact .refl _

theorem execStatefulRebuild_goes (index : Nat) (s : State) : Goes s (execStatefulRebuild index s) := by
  unfold execStatefulRebuild
  refine .next ?_
  split
  · refine .ite (.refl _) ?_
    split
    · exact .ite (.refl _) <| .put rfl (setJob_tame _ _ _).kept
    · exact .ite (.after (addExpansion_tame _ _ _ _).kept <| .after (setCounter_tame _ _ _).kept (dropJob_tame _ _).kept) <| .refl _
  · exact .refl _

theorem reserveAll_steady (s : State) : Steady s s.reserveAll := by
  unfold State.reserveAll
  exact steady_foldl _ (fun a x => by
    split
    · exact .ite (reserve_steady _ _) <| .refl _
    · exact .refl _) _ _

theorem sweepKey_kept (s : State) (i : Nat) : Kept s (s.sweepKey i) := .after (destroyKey_kept _ _) (stopInternal_tame _ _ _).kept

theorem endSweep_kept (s : State) (d : Nat) : Kept s (s.endSweep d) :=
  .ite (.refl _) <| .ite (.after (kept_foldl _ (fun _ _ => .ite (.refl _) <| .ite (setCfg_kept _ _ _ _) <|
    .after (setQueue_tame _ _ _).kept <| disableQueue_kept _ _) _ _) (writeDom_tame _ _ _).kept) (writeDom_tame _ _ _).kept

theorem execAssemblySweep_goes (s : State) : Goes s (execAssemblySweep s) :=
  .next <| .ite (.refl _) <| .after (kept_foldl _ (fun _ _ => endSweep_kept _ _) _ _) <| .put rfl <|
    kept_foldl _ (fun _ _ => sweepKey_kept _ _) _ _

end Sys2Proof.Frame
end

section

/-! ### What the operations of `Machine/Entropy.lean` leave as it is -/

namespace Sys2Proof.Frame

open Sys2Proof Sys2Proof.Machine

theorem followSources_tame (s : State) : Tame s s.followSources :=
  .ite (.after (raise_tame _ _ _) <| .put rfl <| .refl _) <| .ite (.put rfl <| .refl _) <| .ite (.put rfl <| .refl _) <| .refl _

theorem suspend_tame (s : State) (i : Nat) : Tame s (s.suspend i) :=
  .after (request_tame _ _ _) <| .after (followSources_tame _) <| setSource_tame _ _ _

theorem rctFails_tame (s : State) (i : Nat) : Tame s (s.rctFails i) :=
  .after (.ite (.refl _) <| suspend_tame _ _) <| .after (raise_tame _ _ _) <| setSource_tame _ _ _

theorem aptFailure_tame (s : State) (i : Nat) : Tame s (s.aptFailure i) := .after (raise_tame _ _ _) <| setSource_tame _ _ _

theorem window_tame (s : State) (i : Nat) (raw : Bytes) : Tame s (s.window i raw) :=
  .ite (rctFails_tame _ _) <| .after (.ite (aptFailure_tame _ _) <| .ite (.put rfl <| .refl _) <| .refl _) <| setSource_tame _ _ _

theorem execNoiseWindow_goes (source : Fin 4) (raw : Bytes) (s : State) : Goes s (execNoiseWindow source raw s) :=
  .next <| .ite (window_tame _ _ _).kept <| .refl _

theorem execRctFailure_goes (source : Fin 4) (s : State) : Goes s (execRctFailure source s) :=
  .next <| .ite (rctFails_tame _ _).kept <| .refl _

theorem requalified_tame (s : State) (i : Nat) (passed : Bool) : Tame s (s.requalified i passed) :=
  .after (.ite (.after (followSources_tame _) <| setSource_tame _ _ _) <| .ite (.after (raise_tame _ _ _) <|
    setSource_tame _ _ _) <| setSource_tame _ _ _) <| endGrant_tame _ _

theorem execRequalificationAttempt_goes (source : Fin 4) (passed : Bool) (s : State) :
    Goes s (execRequalificationAttempt source passed s) := by
  unfold execRequalificationAttempt
  refine .next ?_
  split
  · exact .ite (requalified_tame _ _ _).kept <| .refl _
  · exact .refl _

theorem execRequalPeriodExpiry_goes (source : Fin 4) (s : State) : Goes s (execRequalPeriodExpiry source s) := by
  unfold execRequalPeriodExpiry
  refine .next ?_
  split
  · exact .ite (request_tame _ _ _).kept <| .refl _
  · exact .refl _

theorem reseedRoot_tame (s : State) (n : Nat) : Tame s (s.reseedRoot n) := .put rfl <| .refl _

theorem condition_tame (s : State) : Tame s s.condition :=
  .ite (.refl _) <| .ite (.after (raise_tame _ _ _) <| .put rfl <| .refl _) <| .ite (.put rfl <| .refl _) <|
    .after (.ite (reseedRoot_tame _ _) <| .refl _) <| .put rfl <| .refl _

theorem execConditionedBlock_goes (s : State) : Goes s (execConditionedBlock s) := .next (condition_tame _).kept

theorem execRootReseed_goes (s : State) : Goes s (execRootReseed s) := by
  unfold execRootReseed
  refine .next <| .ite (.refl _) ?_
  split <;> exact .ite (reseedRoot_tame _ _).kept <| .refl _

theorem execRootAgeExpiry_goes (s : State) : Goes s (execRootAgeExpiry s) := .next <| .ite (.put rfl <| .refl _) <| .refl _

theorem setMask_tame (s : State) (u : Nat) (m : MaskUnit) : Tame s (s.setMask u m) := .put rfl <| .refl _

theorem followMasks_tame (s : State) : Tame s s.followMasks := .ite (.put rfl <| .refl _) <| .refl _

theorem masksLost_tame (s : State) (u : Nat) : Tame s (s.masksLost u) :=
  .put rfl <| .after (setMask_tame _ _ _) <| tame_foldl _ (fun _ _ => setMask_tame _ _ _) _ _

theorem reseedMask_tame (s : State) (u : Nat) (bad : Bool) : Tame s (s.reseedMask u bad) :=
  .ite (setMask_tame _ _ _) <| .ite (.after (masksLost_tame _ _) <| mismatch_tame _ _) <| .after (followMasks_tame _) <|
    .after (setMask_tame _ _ _) <| serve_tame _ _ _

theorem execMaskUnitReseed_goes (unit : Fin 2 × Bool) (s : State) : Goes s (execMaskUnitReseed unit s) :=
  .next <| .ite (.refl _) <| .after (reseedMask_tame _ _ _).kept <| .ite (raise_tame _ _ _).kept <| .refl _

theorem execMaskGeneratorNotReady_goes (unit : Fin 2) (s : State) : Goes s (execMaskGeneratorNotReady unit s) := by
  unfold execMaskGeneratorNotReady
  refine .next ?_
  split
  · exact .ite (masksLost_tame _ _).kept <| .refl _
  · exact .refl _

theorem beginEntropy_tame (s0 : State) (study : Bool) : Tame s0 (s0.beginEntropy study) := .put rfl <| dropActivity_tame _ _

theorem takeBlock_tame (s : State) : Tame s s.takeBlock.2 := .put rfl <| .refl _

theorem installSeed_kept (s : State) : Kept s s.installSeed := by
  unfold State.installSeed
  dsimp only
  exact .after (advanceAll_tame _).kept <| .put rfl <| .after (writeLc_self_tame _ _).kept <| .put rfl (takeBlock_tame s).kept

theorem installKeys_tame (s : State) : Tame s s.installKeys := .put rfl <| .after (takeBlock_tame _) <| takeBlock_tame _

theorem entropyStep_tame (s : State) (n : Nat) : Tame s (s.entropyStep n) := .put rfl <| .refl _

theorem testSources_tame (s : State) (rct apt : Nat) : Tame s (s.testSources rct apt) :=
  .put rfl <| .after (entropyStep_tame _ _) <| tame_foldl _ (fun _ _ => .ite (.refl _) <| .ite (rctFails_tame _ _) <|
    .ite (.after (suspend_tame _ _) <| aptFailure_tame _ _) <| setSource_tame _ _ _) _ _

theorem testConditioner_tame (s : State) : Tame s s.testConditioner := by
  unfold State.testConditioner
  dsimp only
  exact .ite (.after (.ite (raise_tame _ _ _) <| .refl _) <| .put rfl <| .refl _) <| .after (entropyStep_tame _ _) <| .put rfl <|
    .refl _

theorem seedStep_kept (s : State) : Kept s s.seedStep :=
  .after (entropyStep_tame _ _).kept <| .after (.ite (installKeys_tame _).kept <| .refl _) <| .ite (installSeed_kept _) <| .refl _

theorem drawLineKey_tame (s : State) : Tame s s.drawLineKey := .ite (.put rfl <| rootBytes_tame _ _) <| .refl _

theorem rootStep_tame (s : State) : Tame s s.rootStep :=
  .after (entropyStep_tame _ _) <| .after (drawLineKey_tame _) <| .put rfl <| takeBlock_tame _

theorem instanceStep_tame (s : State) : Tame s s.instanceStep :=
  .after (entropyStep_tame _ _) <| tame_foldl _ (fun _ _ => instantiate_tame _ _) _ _

theorem seedMask_tame (s : State) (u : Nat) : Tame s (s.seedMask u) := .after (setMask_tame _ _ _) <| serve_tame _ _ _

theorem stepDone_tame (s : State) (n : Nat) : Tame s (s.stepDone n) := .put rfl <| .refl _

theorem readyStep_tame (s : State) : Tame s s.readyStep := by
  unfold State.readyStep
  dsimp only
  exact .after (.ite (.after (wakePending_tame _) <| .after (followSources_tame _) <| .after (changeMode_tame _ _ (by decide)) <|
    .put rfl <| .refl _) <| .after (followSources_tame _) <| .after (.ite (stepDone_tame _ _) <| .refl _) <| .put rfl <|
    .refl _) <| .after (seedMask_tame _ _) <| seedMask_tame _ _

theorem execEntropyStartupStep_goes (failed : Fin 16 × Fin 16) (s : State) : Goes s (execEntropyStartupStep failed s) := by
  unfold execEntropyStartupStep
  refine .next <| .ite (.refl _) ?_
  split
  · exact (entropyStep_tame _ _).kept
  · exact (testSources_tame _ _ _).kept
  · exact (testConditioner_tame _).kept
  · exact seedStep_kept _
  · exact (rootStep_tame _).kept
  · exact (instanceStep_tame _).kept
  · exact (readyStep_tame _).kept
  · exact .refl _

theorem execStartupLimitExpiry_goes (s : State) : Goes s (execStartupLimitExpiry s) :=
  .next <| .ite (.after (raise_tame _ _ _).kept <| .put rfl <| .refl _) <| .refl _

theorem beginStudy_tame (s : State) : Tame s s.beginStudy := .put rfl <| .refl _

theorem execStudyCaptureEnd_goes (captured : List (Nat × Bytes)) (s : State) : Goes s (execStudyCaptureEnd captured s) :=
  .next <| .ite (.put rfl <| .refl _) <| .refl _

theorem execStudySelect_goes (source : Fin 4) (s : State) : Goes s (execStudySelect source s) :=
  .next <| .ite (.put rfl <| setCfg_kept _ _ _ _) <| .refl _

theorem studyData_kept (s : State) : KeptRes s s.studyData := .ite .none <| .some <| .put rfl <| .refl _

theorem execStudyData_goes (s : State) : Goes s (execStudyData s) := by
  unfold execStudyData
  refine .next ?_
  cases hd : s.studyData with
  | none => exact .refl s
  | some r => exact studyData_kept s r hd

theorem studyExit_kept (s : State) : KeptOpt s s.studyExit :=
  .ite .none <| .some <| .after (beginEntropy_tame _ _).kept <| .put rfl <| .refl _

theorem execStudyExit_goes (s : State) : Goes s (execStudyExit s) := .next <| (studyExit_kept _).getD (.refl _)

theorem execGetRandom_goes (slot : Fin 4096) (s : State) : Goes s (execGetRandom slot s) :=
  runOp_goes _ _ _ _ (fun _ _ => (finish_tame _ _ _ _).kept)

theorem grantPr_tame (s : State) (d : Nat) : Tame s (s.grantPr d) := .put rfl <| .after (reseed_tame _ _) <| reseedRoot_tame _ _

theorem execGetRandomPr_goes (slot : Fin 4096) (s : State) : Goes s (execGetRandomPr slot s) :=
  runOp_goes _ _ _ _ (fun _ _ => (finish_tame _ _ _ _).kept)

end Sys2Proof.Frame
end

section

/-! ### What the operations of `Machine/Streams.lean` leave as it is -/

namespace Sys2Proof.Frame

open Sys2Proof Sys2Proof.Machine

theorem setStream_tame (s : State) (d id : Nat) (c : Machine.Stream) : Tame s (s.setStream d id c) := .put rfl <| .refl _

theorem unbindStream_tame (s : State) (d id : Nat) : Tame s (s.unbindStream d id) := .put rfl <| .refl _

theorem execStreamInit_goes (slot : Fin 4096) (s : State) : Goes s (execStreamInit slot s) := by
  unfold execStreamInit
  dsimp only
  exact runOp_goes _ _ _ _ (fun _ _ => by
    split
    · exact (assignDue_steady _).kept
    · exact .after (useMasks_tame _ _).kept <| .after (finish_tame _ _ _ _).kept (assignDue_steady _).kept)

theorem streamRun_steady (s : State) (slot : Nat) (final : Bool) (f : Machine.Stream → Job → Result) :
    Steady s (s.streamRun slot final f) := by
  unfold State.streamRun
  dsimp only
  split
  · exact assignDue_steady _
  · split
    · exact .after (finish_tame _ _ _ _).steady <| assignDue_steady _
    · exact .after (useMasks_tame _ _).steady <| .after (finish_tame _ _ _ _).steady <| assignDue_steady _

theorem execStreamUpdate_goes (slot : Fin 4096) (s : State) : Goes s (execStreamUpdate slot s) :=
  runOp_goes _ _ _ _ (fun _ _ => (streamRun_steady _ _ _ _).kept)

theorem execStreamFinal_goes (slot : Fin 4096) (s : State) : Goes s (execStreamFinal slot s) :=
  runOp_goes _ _ _ _ (fun _ _ => (streamRun_steady _ _ _ _).kept)

theorem execStreamDiscard_goes (slot : Fin 4096) (s : State) : Goes s (execStreamDiscard slot s) :=
  runOp_goes _ _ _ _ (fun _ _ => (finish_tame _ _ _ _).kept)

theorem releaseStream_tame (s : State) (j : Job) (r : Result) : Tame s (s.releaseStream j r) := by
  unfold State.releaseStream
  split
  · exact .refl _
  · exact .ite (unbindStream_tame _ _ _) <| setStream_tame _ _ _ _

end Sys2Proof.Frame
end

section

/-! ### What the operations of `Machine/Admit.lean` leave as it is -/

namespace Sys2Proof.Frame

open Sys2Proof Sys2Proof.Machine

theorem takeWindow_tame (s : State) (slot : Nat) : Tame s (s.takeWindow slot) := by
  unfold State.takeWindow
  split
  · exact .refl _
  · exact .ite (setJob_tame _ _ _) <| .refl _

theorem takeStaging_tame (s : State) (slot : Nat) : Tame s (s.takeStaging slot) := by
  unfold State.takeStaging
  split
  · exact .refl _
  · exact .ite (setJob_tame _ _ _) <| .refl _

theorem admitFailed_tame (s : State) (slot n : Nat) (j : Job) (st : Nat) : Tame s (s.admitFailed slot n j st) :=
  .after (.ite (violation_tame _ _ _ _) <| .refl _) <| setJob_tame _ _ _

theorem abortTargetJob_tame (s : State) (slot : Nat) (j : Job) : Tame s (s.abortTargetJob slot j) := by
  unfold State.abortTargetJob
  refine .after (setJob_tame _ _ _) ?_
  split
  · exact meetJob_tame _ _ _
  · exact .refl _

theorem execAbort_goes (slot : Fin 4096) (s : State) : Goes s (execAbort slot s) := by
  unfold execAbort
  refine .next ?_
  split
  · exact .ite (abortTargetJob_tame _ _ _).kept <| .refl _
  · exact .refl _

theorem admitJob_tame (s : State) (slot : Nat) (j : Job) : Tame s (s.admitJob slot j) :=
  .after (takeStaging_tame _ _) <| .after (takeWindow_tame _ _) <| .after (.ite (setStream_tame _ _ _ _) <| .refl _) <|
    setJob_tame _ _ _

theorem askReads_tame (s : State) (slot : Nat) : Tame s (s.askReads slot) := by
  unfold State.askReads
  split
  · exact .ite (askAll_tame _ _ _) <| .refl _
  · exact .refl _

theorem execStagingSpaceFreed_goes (slot : Fin 4096) (s : State) : Goes s (execStagingSpaceFreed slot s) := by
  unfold execStagingSpaceFreed
  refine .next ?_
  split
  · exact .ite (.after (askReads_tame _ _).kept <| .after (takeStaging_tame _ _).kept (takeWindow_tame _ _).kept) <| .refl _
  · exact .refl _

theorem clearOwn_tame (s : State) (n : Nat) (e : IntakeHeader) : Tame s (s.clearOwn n e) :=
  .ite (send_tame _ _) <| writeRefused_tame _ _ _

theorem admitHeader_kept (s : State) (n slot : Nat) (e : IntakeHeader) : Kept s (s.admitHeader n slot e) := by
  unfold State.admitHeader
  refine .after (askReads_tame _ _).kept <| .after (clearOwn_tame _ _ _).kept ?_
  split
  · exact .after (admitFailed_tame _ _ _ _ _).kept <| .put rfl (setQueue_tame _ _ _).kept
  · exact .after (.ite (setJob_tame _ _ _).kept (admitJob_tame _ _ _).kept) <| .put rfl (setQueue_tame _ _ _).kept

theorem execAdmission_goes (s : State) : Goes s (execAdmission s) := by
  unfold execAdmission
  refine .next <| .ite (.refl _) ?_
  split
  · split
    · exact admitHeader_kept _ _ _ _
    · exact .refl _
  · exact .refl _

theorem execSgEntryReturn_goes (slot : Fin 4096) (output : Bool) (entry : Bytes) (s : State) :
    Goes s (execSgEntryReturn slot output entry s) := by
  unfold execSgEntryReturn
  refine .next ?_
  split
  · exact .refl _
  · exact .ite (.refl _) <| .after (askReads_tame _ _).kept <| .after (setJob_tame _ _ _).kept (closeRetry_tame _ _).kept

theorem execInputDataReturn_goes (slot : Fin 4096) (aad : Bool) (data : Bytes) (s : State) :
    Goes s (execInputDataReturn slot aad data s) := by
  unfold execInputDataReturn
  refine .next ?_
  split
  · exact .refl _
  · exact .after (.ite (.refl _) <| .after (askReads_tame _ _).kept <|
      .after (setJob_tame _ _ _).kept (closeRetry_tame _ _).kept) (takeWindow_tame _ _).kept

theorem countProbe_tame (s : State) (j : Job) : Tame s (s.countProbe j) := by
  unfold State.countProbe
  exact tame_foldl _ (fun a x => by
    split
    · exact .ite (.put rfl <| .refl _) <| .put rfl <| .refl _
    · exact .refl _) _ _

theorem probe_tame (s : State) (slot : Nat) : Tame s (s.probe slot) := by
  unfold State.probe
  split
  · exact .refl _
  · split
    · exact .refl _
    · exact .ite (setJob_tame _ _ _) <| setJob_tame _ _ _

theorem execFetchEnd_goes (slot : Fin 4096) (s : State) : Goes s (execFetchEnd slot s) := by
  unfold execFetchEnd
  refine .next ?_
  split
  · exact .refl _
  · exact .ite (.refl _) <| .after (probe_tame _ _).kept <| .after (countProbe_tame _ _).kept <|
      .after (.ite (request_tame _ _ _).kept <| .refl _) <| .after (setJob_tame _ _ _).kept <| .after (onJob_tame _ _ _).kept <|
      .after (takeStaging_tame _ _).kept (takeWindow_tame _ _).kept

end Sys2Proof.Frame
end

section

/-! ### What the operations of `Machine/Tamper.lean` leave as it is -/

namespace Sys2Proof.Frame

open Sys2Proof Sys2Proof.Machine

theorem aoAlone_tame (s : State) (src : Nat) : Tame s (s.aoAlone src) :=
  .ite (.after (aoLog_tame _ _ _) <| eraseSeed_tame _) <| aoLog_tame _ _ _

theorem alarm_tame (s : State) (src : Nat) (n : Named) : Tame s (s.alarm src n) :=
  .ite (.refl _) <| .after (.ite (raise_tame _ _ _) <| aoAlone_tame _ _) <| .put rfl <| .refl _

theorem drawPatterns_tame (s : State) (differ : Bool) : Tame s (s.drawPatterns differ) := .ite (alarm_tame _ _ _) <| .refl _

theorem meshStep_tame (s : State) (samples : List (Bool × Bool)) : Tame s (s.meshStep samples) := .put rfl <| .refl _

theorem execMeshStep_goes (samples : List (Bool × Bool) × Bool) (s : State) : Goes s (execMeshStep samples s) :=
  .next <| .after (meshStep_tame _ _).kept (drawPatterns_tame _ _).kept

theorem execMeshAlarm_goes (mesh : Fin 5) (s : State) : Goes s (execMeshAlarm mesh s) :=
  .next <| .ite (alarm_tame _ _ _).kept <| .refl _

theorem setSense_tame (s : State) (i : Nat) (x : Sense) : Tame s (s.setSense i x) := .put rfl <| .refl _

theorem senseSample_tame (s : State) (i : Nat) (level : Bool) : Tame s (s.senseSample i level) :=
  .after (.ite (alarm_tame _ _ _) <| .refl _) <| setSense_tame _ _ _

theorem zeroiseSample_tame (s : State) (level : Bool) : Tame s (s.zeroiseSample level) := .put rfl <| .refl _

theorem passPeriod_tame (s : State) : Tame s s.passPeriod := .ite (.put rfl <| .refl _) <| .refl _

theorem execSenseSample_goes (input : Fin 5) (level : Bool) (s : State) : Goes s (execSenseSample input level s) :=
  .next <| .ite (.after (senseSample_tame _ _ _).kept (passPeriod_tame _).kept) <|
    .ite (senseSample_tame _ _ _).kept (zeroiseSample_tame _ _).kept

theorem execSenseAlarm_goes (input : Fin 4) (s : State) : Goes s (execSenseAlarm input s) := by
  unfold execSenseAlarm
  refine .next ?_
  split
  · exact .ite (alarm_tame _ _ _).kept <| .refl _
  · exact .refl _

theorem execChatterBinRoll_goes (s : State) : Goes s (execChatterBinRoll s) :=
  .next <| kept_foldl _ (fun _ _ => (setSense_tame _ _ _).kept) _ _

theorem execZeroiseRequest_goes (s : State) : Goes s (execZeroiseRequest s) := .next <| .ite (alarm_tame _ _ _).kept <| .refl _

theorem noteReading_tame (s : State) (k : Nat) (r : Int) : Tame s (s.noteReading k r) := by
  unfold State.noteReading
  split
  · exact .put rfl <| .refl _
  · exact .put rfl <| .refl _
  · exact .put rfl <| .refl _
  · exact .put rfl <| .refl _
  · exact .put rfl <| .refl _
  · exact .put rfl <| .refl _
  · exact .put rfl <| .refl _
  · exact .put rfl <| .refl _
  · exact .put rfl <| .refl _
  · exact .put rfl <| .refl _
  · exact .put rfl <| .refl _
  · exact .put rfl <| .refl _
  · exact .put rfl <| .refl _
  · exact .refl _

theorem execDetectorAlarm_goes (detector : Fin 16) (reading : Int) (s : State) : Goes s (execDetectorAlarm detector reading s) :=
  .next <| .ite (.after (alarm_tame _ _ _).kept (noteReading_tame _ _ _).kept) <| .refl _

theorem execAoTempAlarm_goes (temp : Int) (s : State) : Goes s (execAoTempAlarm temp s) :=
  .next <| .after (.ite (alarm_tame _ _ _).kept <| .ite (alarm_tame _ _ _).kept <| .refl _) <| .put rfl <| .refl _

theorem execVbatLow_goes (mv : BitVec 16) (s : State) : Goes s (execVbatLow mv s) :=
  .next <| .after (.ite (.ite (raise_tame _ _ _).kept (aoAlone_tame _ _).kept) <| .refl _) <| .put rfl <| .refl _

theorem loseCheck_tame (s : State) : Tame s s.loseCheck := .put rfl <| draw_tame _

theorem loseAo_tame (s : State) : Tame s s.loseAo := .ite (.of_codes rfl id) (.refl s)

theorem execVbatFail_goes (mv : BitVec 16) (s : State) : Goes s (execVbatFail mv s) :=
  .next <| .ite (.refl _) <| .after (loseAo_tame _).kept <| .after (alarm_tame _ _ _).kept <| .put rfl <| .refl _

theorem clearCalendar_tame (s : State) : Tame s s.clearCalendar := .put rfl <| .refl _

theorem execAoClock_goes (s : State) : Goes s (execAoClock s) := .next <| .after (alarm_tame _ _ _).kept (clearCalendar_tame _).kept

theorem execAoSupplySwitch_goes (s : State) : Goes s (execAoSupplySwitch s) := .next <| .put rfl <| .refl _

theorem execAoSupplyReturn_goes (s : State) : Goes s (execAoSupplyReturn s) := .next <| .put rfl <| .refl _

theorem beginFuse_tame (s : State) (mask : Nat) : Tame s (s.beginFuse mask) := .put rfl <| .refl _

theorem execFuseBurnStep_goes (ok : Bool) (s : State) : Goes s (execFuseBurnStep ok s) := by
  unfold execFuseBurnStep
  dsimp only
  split
  · exact .next <| .refl _
  · exact .next <| .ite (.refl _) <| .ite (.after (writeEraseMap_tame _).kept <| .put rfl <| .refl _) <|
      .after (raise_tame _ _ _).kept <| .put rfl <| .refl _

theorem execLockdownHoldClear_goes (s : State) : Goes s (execLockdownHoldClear s) := .next <| .ite (.put rfl <| .refl _) <| .refl _

theorem forced_tame (s : State) (src : Nat) : Tame s (s.forced src) := .ite (alarm_tame _ _ _) <| raise_tame _ _ _

theorem force_kept (s : State) (src : Nat) : KeptOpt s (s.force src) := .ite (.some (forced_tame _ _).kept) .none

theorem execForce_goes (source : Fin 192) (s : State) : Goes s (execForce source s) :=
  .next <| .ite ((force_kept _ _).getD (.refl _)) <| .refl _

end Sys2Proof.Frame
end

section

/-! ### What the operations of `Machine/SelfTest.lean` leave as it is -/

namespace Sys2Proof.Frame

open Sys2Proof Sys2Proof.Machine

theorem emptyVault_steady (s : State) : Steady s s.emptyVault := .put rfl <| .refl _

theorem zeroJournal_tame (s : State) : Tame s s.zeroJournal := .put rfl <| .refl _

theorem clearTenants_tame (s : State) : Tame s s.clearTenants := tame_foldl _ (fun _ _ => .ite (.refl _) <| writeDom_tame _ _ _) _ _

theorem clearLc_steady (s : State) : Steady s s.clearLc :=
  .put rfl <| .after (.ite (advanceAll_tame _).steady <| .refl _) <| .after (clearTenants_tame _).steady <|
    .after (zeroJournal_tame _).steady <| emptyVault_steady _

theorem promoteSeed_tame (s : State) : Tame s s.promoteSeed := .ite (.refl _) <| .ite (.put rfl <| .refl _) <| .put rfl <| .refl _

theorem loseRam_kept (s0 : State) : Kept s0 s0.loseRam := .put rfl (clearCalendar_tame _).kept

theorem domainBad_tame (s : State) (d : Nat) (bad0 bad1 : Bool) : Tame s (s.domainBad d bad0 bad1) :=
  .ite (.ite (raiseAt_tame _ _ _ _) <| .after (raise_tame _ _ _) <| setDom_tame _ _ _) <| .after (.ite (raise_tame _ _ _) <|
    .refl _) <| .ite (.after (setDom_tame _ _ _) <| .put rfl <| .refl _) <| .refl _

/-- The copies of the life-cycle record change places. -/
theorem readLc_tame (s : State) (bad0 bad1 : Bool) : Tame s (s.readLc bad0 bad1) := by
  unfold State.readLc
  refine .ite (.of_codes rfl ?_) (.refl s)
  rintro ⟨hm, hf, hl, ho⟩
  exact ⟨hm, hf, ho, hl⟩

theorem startImports_tame (s : State) : Tame s s.startImports := .put rfl <| .refl _

theorem execResetRecordsRead_goes (ramLost : Bool) (bad : List (Fin 256 × Bool × Bool)) (lcBad : (Bool × Bool) × Fin 3) (s : State)
    : Goes s (execResetRecordsRead ramLost bad lcBad s) :=
  .next <| .ite (.refl _) <| .after (.ite (raise_tame _ _ _).kept <| .refl _) <| .after (.ite (raise_tame _ _ _).kept <|
    .ite (raise_tame _ _ _).kept <| .refl _) <| .after (startImports_tame _).kept <|
    .after (kept_foldl _ (fun _ _ => (domainBad_tame _ _ _ _).kept) _ _) <| .after (writeEraseMap_tame _).kept <|
    .after (changeMode_tame _ _ (by decide)).kept <| .after (stepDone_tame _ _).kept <| .put rfl <| .after (.ite (.put rfl <|
    .refl _) <| .refl _) <| .after (.ite (.refl _) <| loseRam_kept _) <| .after (promoteSeed_tame _).kept <|
    .after (.ite (loseCheck_tame _).kept <| .refl _) (readLc_tame _ _ _).kept

theorem startFails_tame (s : State) (p : Nat) : Tame s (s.startFails p) :=
  .after (.ite (failPartition_tame _ _ _) <| raise_tame _ _ _) <| .put rfl <| .refl _

theorem startFailures_tame (s : State) (failed : List (Fin 52)) : Tame s (s.startFailures failed) :=
  tame_foldl _ (fun _ _ => startFails_tame _ _) _ _

theorem execMemoryBistEnd_goes (failed : List (Fin 52)) (s : State) : Goes s (execMemoryBistEnd failed s) :=
  .next <| .ite (.after (startFailures_tame _ _).kept (stepDone_tame _ _).kept) <| .refl _

theorem notePasses_tame (s : State) : Tame s s.notePasses :=
  tame_foldl _ (fun _ _ => tame_foldl _ (fun _ _ => setUnit_tame _ _ _ _) _ _) _ _

theorem execLogicBistEnd_goes (failed : List (Fin 52)) (s : State) : Goes s (execLogicBistEnd failed s) :=
  .next <| .ite (.after (startFailures_tame _ _).kept <| .after (beginEntropy_tame _ _).kept (stepDone_tame _ _).kept) <| .refl _

theorem execKnownAnswerTestsEnd_goes (failed : List (Fin 52)) (detectorBad : List (Fin 16)) (s : State) :
    Goes s (execKnownAnswerTestsEnd failed detectorBad s) :=
  .next <| .ite (.refl _) <| .after (.ite (.after (changeMode_tame _ _ (by decide)).kept <| .put rfl <| .refl _) <| .refl _) <|
    .after (kept_foldl _ (fun _ _ => (noteInjections_tame _ _ _ _).kept) _ _) <| .after (notePasses_tame _).kept <|
    .after (startFailures_tame _ _).kept (stepDone_tame _ _).kept

theorem intrude_steady (s : State) : Steady s s.intrude :=
  .ite (.after (zeroJournal_tame _).steady <| emptyVault_steady _) <| .after (clearTenants_tame _).steady <|
    .after (zeroJournal_tame _).steady <| .after (emptyVault_steady _) (writeLc_tame _ _ _ (by decide)).steady

theorem replay_tame (s : State) (e : Bytes) : Tame s (s.replay e) := .put rfl <| logFault_tame _ _ _ _

theorem copyLog_tame (s : State) : Tame s s.copyLog := .put rfl <| tame_foldl _ (fun _ _ => replay_tame _ _) _ _

theorem intrusions_steady (s : State) : Steady s s.intrusions :=
  .after (.ite (.after (zeroJournal_tame _).steady <| .put rfl <| .refl _) <| .refl _) <|
    .after (.ite (.after (raise_tame _ _ _).steady <| .put rfl <| intrude_steady _) <| .refl _) <|
    .ite (.after (raise_tame _ _ _).steady <| .put rfl <| .ite (intrude_steady _) <| .after (zeroJournal_tame _).steady <|
    emptyVault_steady _) <| .refl _

theorem execAoRecordsStepEnd_goes (s : State) : Goes s (execAoRecordsStepEnd s) :=
  .next <| .ite (.refl _) <| .after (copyLog_tame _).kept <| .after (.ite (.refl _) (raise_tame _ _ _).kept) <| .put rfl <|
    .after (intrusions_steady _).kept (stepDone_tame _ _).kept

theorem endWindow_tame (s : State) : Tame s s.endWindow := .after (extend_tame _ _ _) <| .put rfl <| .refl _

theorem closeWindow_tame (s : State) : Tame s s.closeWindow :=
  .after (readJournal_tame _) <| .put rfl <| .after (changeMode_tame _ _ (by decide)) <| .after (stepDone_tame _ _) <|
    endWindow_tame _

theorem patchReset_kept (s : State) : KeptOpt s s.patchReset := .ite (.some <| .put rfl <| .refl _) .none

theorem execPatchStageReset_goes (s : State) : Goes s (execPatchStageReset s) := .next <| (patchReset_kept _).getD (.refl _)

theorem patchData_kept (s : State) (data : Bytes) : KeptOpt s (s.patchData data) := .ite (.some <| .put rfl <| .refl _) .none

theorem execPatchData_goes (data : Bytes) (s : State) : Goes s (execPatchData data s) :=
  .next <| .ite ((patchData_kept _ _).getD (.refl _)) <| .refl _

theorem patchApply_kept (s : State) : KeptOpt s s.patchApply :=
  .ite .none <| .ite (.some <| .after (closeWindow_tame _).kept <| .put rfl <| .refl _) <| .some <|
    .after (raise_tame _ _ _).kept <| .put rfl <| .refl _

theorem execPatchApply_goes (s : State) : Goes s (execPatchApply s) := .next <| (patchApply_kept _).getD (.refl _)

theorem execPatchWindowTimeout_goes (s : State) : Goes s (execPatchWindowTimeout s) :=
  .next <| .ite (.ite (.after (raise_tame _ _ _).kept (endWindow_tame _).kept) (closeWindow_tame _).kept) <| .refl _

end Sys2Proof.Frame
end

section

/-! ### What the operations of `Machine/Modes.lean` leave as it is -/

namespace Sys2Proof.Frame

open Sys2Proof Sys2Proof.Machine

theorem doQuiesce_tame (s : State) : TameOpt s s.doQuiesce :=
  .ite (.some <| .after (writeStatus_tame _ _ _ _ _ _) (quiesceFor_tame _ _)) .none

theorem doResume_tame (s : State) : TameOpt s s.doResume := by
  unfold State.doResume
  refine .ite (.some <| .after (wakePending_tame _) <| .after (changeMode_tame _ _ ?_) <| .put rfl <| .refl s) .none
  split
  · decide
  · exact serviceMode_le s

/-- Idle is entered from a mode of R435. -/
theorem enterIdle_tame (s : State) : Tame s s.enterIdle := by
  unfold State.enterIdle
  refine .after (changeMode_tame _ _ (by decide)) (.of_codes rfl ?_)
  rintro ⟨hm, -, hl, ho⟩
  exact ⟨hm, hm, hl, ho⟩

theorem doIdle_tame (s : State) : TameOpt s s.doIdle := .ite (.some <| .put rfl <| .refl s) .none

theorem doCeremony_tame (s : State) : TameOpt s s.doCeremony :=
  .ite (.some <| .after (changeMode_tame _ _ (by decide)) <| .put rfl <| .refl s) .none

theorem doCeremonyExit_tame (s : State) : TameOpt s s.doCeremonyExit := .ite (.some (changeMode_tame _ _ (serviceMode_le s))) .none

theorem doWindowClose_tame (s : State) : TameOpt s s.doWindowClose := .ite (.some (closeWindow_tame s)) .none

theorem doAssemblyDone_tame (s : State) : TameOpt s s.doAssemblyDone := .ite (.some <| .put rfl <| .refl s) .none

theorem enterNext_steady (s : State) : Steady s s.enterNext :=
  .after (.ite (.after (reserveAll_steady _) <| .after (changeMode_tame _ _ (serviceMode_le _)).steady (stepDone_tame _ _).steady)
    <| .ite (enterIdle_tame _).steady <| .refl _) <| .put rfl <| .refl _

theorem execDrained_goes (s : State) : Goes s (execDrained s) := by
  unfold execDrained
  dsimp only
  exact .next <| .ite (.ite (.after (beginStudy_tame _).kept <| .after (changeMode_tame _ _ (by decide)).kept <| .put rfl <|
    .refl _) <| .put rfl <| .refl _) <| .refl _

theorem execIdleDelayExpiry_goes (s : State) : Goes s (execIdleDelayExpiry s) := by
  unfold execIdleDelayExpiry
  refine .next ?_
  split
  · exact .ite (enterIdle_tame _).kept <| .refl _
  · exact .refl _

theorem execWake_goes (s : State) : Goes s (execWake s) := .next (wake_tame _).kept

theorem execCeremonyTimeout_goes (s : State) : Goes s (execCeremonyTimeout s) :=
  .next <| .ite (.refl _) <| .ite (changeMode_tame _ _ (serviceMode_le _)).kept <| .ite (.put rfl <| .refl _) <| .refl _

theorem execPwrFailAssert_goes (s : State) : Goes s (execPwrFailAssert s) := by
  unfold execPwrFailAssert
  dsimp only
  exact .next <| .ite (.after (writeStatus_tame _ _ _ _ _ _).kept <| .after (quiesceFor_tame _ _).kept <| .put rfl <| .refl _) <|
    .ite (.put rfl <| .refl _) <| .put rfl <| .refl _

theorem execPwrFailDeassert_goes (s : State) : Goes s (execPwrFailDeassert s) := .next <| .put rfl <| .refl _

theorem tearSlot_tame (s : State) : Tame s s.tearSlot := by
  unfold State.tearSlot
  split
  · exact .put rfl <| draw_tame _
  · exact .refl _

theorem execCoreRailsRemoved_goes (s : State) : Goes s (execCoreRailsRemoved s) :=
  .next <| .ite (.refl _) <| .put rfl <| .after (setMode_tame _ _ (by decide)).kept <|
    .after (tearSlot_tame _).kept (writeEraseMap_tame _).kept

end Sys2Proof.Frame
end

section

/-! ### What the operations of `Machine/Grant.lean` leave as it is -/

namespace Sys2Proof.Frame

open Sys2Proof Sys2Proof.Machine

theorem noteCopy_tame (s : State) (n : Nat) (full : Bool) : Tame s (s.noteCopy n full) :=
  .ite (.after (raise_tame _ _ _) <| .put rfl <| .refl _) <| .ite (.put rfl <| .refl _) <| .refl _

theorem noteJob_steady (s : State) (n : Nat) : Steady s (s.noteJob n) := by
  unfold State.noteJob
  split
  · exact .refl _
  · refine .ite (.refl _) <| .ite (setJob_tame _ _ _).steady ?_
    split
    · exact .after (.ite (noteCopy_tame _ _ _).steady <| .after (noteCopy_tame _ _ _).steady <|
        reserve_steady _ _) (setJob_tame _ _ _).steady
    · exact .after (noteCopy_tame _ _ _).steady (setJob_tame _ _ _).steady

theorem noteJobs_steady (s : State) : Steady s s.noteJobs := steady_foldl _ (fun _ _ => noteJob_steady _ _) _ _

theorem reserveSecond_tame (s : State) (n : Nat) (v : Option (Nat × Nat)) (till : Nat) : Tame s (s.reserveSecond n v till) := by
  unfold State.reserveSecond
  split
  · exact .refl _
  · exact setUnit_tame _ _ _ _

theorem grantTo_tame (s : State) (n : Nat) (j : Job) (c u : Nat) (r : Reserved) : Tame s (s.grantTo n j c u r) :=
  .after (.ite (grantPr_tame _ _) <| .refl _) <| .after (reserveSecond_tame _ _ _ _) <| .after (.ite (.refl _) <|
    setUnit_tame _ _ _ _) <| .put rfl <| setJob_tame _ _ _

theorem noteGrant_tame (s : State) (key owner d : Nat) : Tame s (s.noteGrant key owner d) := .put rfl <| .refl _

theorem unusedRight_tame (s : State) (key : Nat) : Tame s (s.unusedRight key) := .put rfl <| .refl _

theorem startRight_kept (s : State) (col : Nat) : Kept s (s.startRight col) := by
  unfold State.startRight
  refine .ite (.put rfl <| .refl _) <| .ite (.after (unusedRight_tame _ _).kept <| .put rfl <| .refl _) ?_
  split
  · exact .after (unusedRight_tame _ _).kept <| .put rfl <| .refl _
  · split
    · exact .after (unusedRight_tame _ _).kept <| .put rfl <| .refl _
    · exact .after (noteGrant_tame _ _ _ _).kept <| .after (grantTo_tame _ _ _ _ _ _).kept <| .put rfl <| .refl _

theorem cellParity_kept (s : State) (col : Nat) : Kept s (s.cellParity col) := .after (raise_tame _ _ _).kept <| .put rfl <| .refl _

theorem execStartRightGrant_goes (cell : Fin 16 × Bool) (s : State) : Goes s (execStartRightGrant cell s) :=
  .next <| .ite (.ite (cellParity_kept _ _) <| startRight_kept _ _) <| .refl _

theorem execUnitIsolated_goes (cls : Fin 8) (unit : Fin 16 × Bool) (s : State) : Goes s (execUnitIsolated cls unit s) :=
  .next <| .ite (.after (.ite (mismatch_tame _ _).kept (beginTest_tame _).kept) (setUnit_tame _ _ _ _).kept) <| .refl _

theorem execMuntjacRecoveryJob_goes (slot : Fin 4096) (s : State) : Goes s (execMuntjacRecoveryJob slot s) := by
  unfold execMuntjacRecoveryJob
  refine .next ?_
  split
  · exact .refl _
  · exact .ite (.refl _) <| .after (setUnit_tame _ _ _ _).kept <| .after (count_tame _ _ _).kept (setJob_tame _ _ _).kept

theorem execStartWaitTimeout_goes (slot : Fin 4096) (s : State) : Goes s (execStartWaitTimeout slot s) := by
  unfold execStartWaitTimeout
  refine .next ?_
  split
  · exact .refl _
  · exact .ite (endJob_tame _ _ _ _ _).kept <| .refl _

theorem endStarved_tame (s : State) (slot : Nat) : Tame s (s.endStarved slot) :=
  .after (endJob_tame _ _ _ _ _) <| .put rfl <| .refl _

theorem execEntropyWaitExpiry_goes (slot : Fin 4096) (s : State) : Goes s (execEntropyWaitExpiry slot s) := by
  unfold execEntropyWaitExpiry
  refine .next ?_
  split
  · exact .refl _
  · exact .ite (.refl _) <| .ite (endStarved_tame _ _).kept <| .ite (endStarved_tame _ _).kept <| .refl _

end Sys2Proof.Frame
end

section

/-! ### What the operations of `Machine/Staging.lean` leave as it is -/

namespace Sys2Proof.Frame

open Sys2Proof Sys2Proof.Machine

theorem correct_tame (s : State) (slot : Nat) (j : Job) (src : Nat) : Tame s (s.correct slot j src) :=
  .ite (dramEvent_tame _ _ _) <| .ite (.after (raise_tame _ _ _) <| .put rfl <| .refl _) <| raise_tame _ _ _

theorem failCheckOn_tame (s : State) (slot : Nat) (unit : Option (Nat × Nat)) (src boundary : Nat) :
    Tame s (s.failCheckOn slot unit src boundary) := by
  unfold State.failCheckOn
  split
  · exact .refl _
  · refine .after (tame_foldl _ (fun _ _ => startWipe_tame _ _ _ _) _ _) <| .after (freeHolds_tame _ _ _) <|
      .after (onJob_tame _ _ _) ?_
    split
    · exact .after (.ite (endJob_tame _ _ _ _ _) <| .refl _) <| .after (.ite (moveInstance_tame _ _) <| .refl _) <|
        .ite (dramEvent_tame _ _ _) <| raise_tame _ _ _
    · exact .after (.ite (moveInstance_tame _ _) <| .refl _) <| .ite (dramEvent_tame _ _ _) <| raise_tame _ _ _

theorem failCheck_tame (s : State) (slot src boundary : Nat) : Tame s (s.failCheck slot src boundary) := by
  unfold State.failCheck
  split
  · exact .refl _
  · exact failCheckOn_tame _ _ _ _ _

theorem failStaging_steady (s : State) (slot : Nat) (j : Job) (st info : Nat) : Steady s (s.failStaging slot j st info) := by
  unfold State.failStaging
  refine .ite (.after (violation_tame _ _ _ _).steady (endJob_tame _ _ _ _ _).steady) <| .ite ?_ (endJob_tame _ _ _ _ _).steady
  split
  · exact .after (reserve_steady _ _) <| .after (.ite (count_tame _ _ _).steady <| .refl _) (endJob_tame _ _ _ _ _).steady
  · exact (endJob_tame _ _ _ _ _).steady

theorem useKey_tame (s : State) (slot fn : Nat) (x : Option (Nat × Key)) : Tame s (s.useKey slot fn x) := by
  unfold State.useKey
  split
  · exact useExpansion_tame _ _ _ _
  · exact .refl _

theorem drawFor_tame (s : State) (slot d n : Nat) (drbg : Bool) : Tame s (s.drawFor slot d n drbg) :=
  .ite (.after (onJob_tame _ _ _) <| serve_tame _ _ _) <| .refl _

theorem splitKey_tame (s : State) (slot : Nat) (masked : Bool) : Tame s (s.splitKey slot masked) := by
  unfold State.splitKey
  split
  · exact .ite (.refl _) <| .after (setUnit_tame _ _ _ _) <| draw_tame _
  · exact .refl _

theorem passStaging_kept (s : State) (slot : Nat) (j : Job) (spec : JobSpec) (key aux : Option (Nat × Key))
    (run : Option (Nat × Nat)) : Kept s (s.passStaging slot j spec key aux run) := by
  unfold State.passStaging
  dsimp only
  split
  · exact .after (finish_tame _ _ _ _).kept <| .after (splitKey_tame _ _ _).kept <| .after (drawFor_tame _ _ _ _ _).kept <|
      .after (useKey_tame _ _ _ _).kept <| .after (useKey_tame _ _ _ _).kept (setJob_tame _ _ _).kept
  · exact .after (finish_tame _ _ _ _).kept <| .after (splitKey_tame _ _ _).kept <| .after (drawFor_tame _ _ _ _ _).kept <|
      .after (useKey_tame _ _ _ _).kept <| .after (useKey_tame _ _ _ _).kept (setJob_tame _ _ _).kept
  · exact .after (finish_tame _ _ _ _).kept <| .after (splitKey_tame _ _ _).kept <| .after (drawFor_tame _ _ _ _ _).kept <|
      .after (useKey_tame _ _ _ _).kept <| .after (useKey_tame _ _ _ _).kept (setJob_tame _ _ _).kept
  · exact .after (replicate_tame _ _ _ _).kept <| .after (sweepKey_kept _ _) <| .after (onJob_tame _ _ _).kept <|
      .after (splitKey_tame _ _ _).kept <| .after (drawFor_tame _ _ _ _ _).kept <| .after (useKey_tame _ _ _ _).kept <|
      .after (useKey_tame _ _ _ _).kept (setJob_tame _ _ _).kept
  · exact .after (splitKey_tame _ _ _).kept <| .after (drawFor_tame _ _ _ _ _).kept <| .after (useKey_tame _ _ _ _).kept <|
      .after (useKey_tame _ _ _ _).kept (setJob_tame _ _ _).kept

theorem stageFirst_kept (s : State) (slot : Nat) (j : Job) : Kept s (s.stageFirst slot j) := by
  unfold State.stageFirst
  dsimp only
  split
  · exact (failStaging_steady _ _ _ _ _).kept
  · split
    · refine .after (failStaging_steady _ _ _ _ _).kept ?_
      split
      · exact (raise_tame _ _ _).kept
      · exact .refl _
    · split
      · exact (failStaging_steady _ _ _ _ _).kept
      · split
        · refine .after (failStaging_steady _ _ _ _ _).kept ?_
          split
          · exact (raise_tame _ _ _).kept
          · exact .refl _
        · refine .ite (failStaging_steady _ _ _ _ _).kept <| .ite (failStaging_steady _ _ _ _ _).kept ?_
          split
          · exact (failStaging_steady _ _ _ _ _).kept
          · exact .ite (restage_tame _ _ _).kept <| passStaging_kept _ _ _ _ _ _ _

theorem openHandles_steady (s : State) (j : Job) : Steady s (s.openHandles j) :=
  steady_foldl _ (fun _ _ => .ite (.refl _) <| openKey_steady _ _) _ _

theorem lookupHandles_tame (s : State) (j : Job) : Tame s (s.lookupHandles j) :=
  tame_foldl _ (fun _ _ => lookupHandle_tame _ _ _) _ _

theorem stage_kept (s : State) (slot : Nat) (j : Job) (failed : Option Nat) : Kept s (s.stage slot j failed) := by
  unfold State.stage
  split
  case _ src =>
    have h0 := (failCheck_tame s slot src (j.granted + 2)).kept
    have h1 : Kept s (if src = 0x7A ∧ j.isStream then (s.failCheck slot src (j.granted + 2)).dropStream j.domain j.hdr.streamId
        else s.failCheck slot src (j.granted + 2)) := .ite (.after (dropStream_tame _ _ _).kept h0) h0
    exact .ite (.after (failStaging_steady _ _ _ _ _).kept (dramEvent_tame _ _ _).kept) <|
      .ite (KeptOpt.getD (keptOpt_map fun x => .after (loseTraversal_steady _ _).kept h1) h1) h1
  · refine .ite (.after (stageFirst_kept _ _ _) <| .after (openHandles_steady _ _).kept (lookupHandles_tame _ _).kept) ?_
    split
    · exact (failStaging_steady _ _ _ _ _).kept
    · exact .ite (restage_tame _ _ _).kept <| .after (splitKey_tame _ _ _).kept <| .after (drawFor_tame _ _ _ _ _).kept
        (setJob_tame _ _ _).kept

theorem startPlain_tame (s : State) (slot op : Nat) : Tame s (s.startPlain slot op) := by
  unfold State.startPlain
  split
  · exact .ite (setJob_tame _ _ _) <| .refl _
  · exact .refl _

theorem execNop_goes (slot : Fin 4096) (s : State) : Goes s (execNop slot s) := .next (startPlain_tame _ _ _).kept

theorem execFence_goes (slot : Fin 4096) (s : State) : Goes s (execFence slot s) := .next (startPlain_tame _ _ _).kept

theorem execEcho_goes (slot : Fin 4096) (s : State) : Goes s (execEcho slot s) := .next (startPlain_tame _ _ _).kept

theorem endStaging_kept (s : State) (slot : Nat) (j : Job) (failed : Option Nat) : Kept s (s.endStaging slot j failed) := by
  unfold State.endStaging
  refine .ite (stage_kept _ _ _ _) ?_
  split
  · exact (failCheck_tame _ _ _ _).kept
  · exact .after (splitKey_tame _ _ _).kept (setJob_tame _ _ _).kept

theorem execStagingEnd_goes (slot : Nat) (failed : Option (Fin 192)) (s : State) : Goes s (execStagingEnd slot failed s) := by
  unfold execStagingEnd
  dsimp only
  refine .next ?_
  split
  · exact .refl _
  · refine .ite (.refl _) ?_
    split
    · split
      · exact .after (.ite (endStaging_kept _ _ _ _) <| .refl _) (correct_tame _ _ _ _).kept
      · exact (correct_tame _ _ _ _).kept
    · exact endStaging_kept _ _ _ _

theorem keepExpansion_tame (s : State) (slot i : Nat) (k : Key) (fn : Nat) : Tame s (s.keepExpansion slot i k fn) :=
  .after (.ite (.put rfl <| .refl _) <| .refl _) <| addExpansion_tame _ _ _ _

theorem failExpansion_tame (s : State) (slot : Nat) (e : Job) (src boundary : Nat) : Tame s (s.failExpansion slot e src boundary) :=
  .after (failCheckOn_tame _ _ _ _ _) <| .after (stopInternal_tame _ _ _) <| takeCheckUnit_tame _ _

theorem endExpansion_tame (s : State) (slot : Nat) (e : Job) (k : Key) (i : Nat) : Tame s (s.endExpansion slot e k i) := by
  unfold State.endExpansion
  dsimp only
  split
  · exact .after (failExpansion_tame _ _ _ _ _) <| .after (useMasks_tame _ _) <| .ite (cmAttempt_tame _) <| .refl _
  · split
    · exact .after (.ite (.after (probe_tame _ _) <| keepExpansion_tame _ _ _ _ _) <| addExpansion_tame _ _ _ _) <|
        .after (onJob_tame _ _ _) <| .after (stopInternal_tame _ _ _) <| .after (useMasks_tame _ _) <| .ite (cmAttempt_tame _) <|
        .refl _
    · exact .after (onJob_tame _ _ _) <| .after (stopInternal_tame _ _ _) <| .after (useMasks_tame _ _) <|
        .ite (cmAttempt_tame _) <| .refl _

end Sys2Proof.Frame
end

section

/-! ### What the operations of `Machine/Finish.lean` leave as it is -/

namespace Sys2Proof.Frame

open Sys2Proof Sys2Proof.Machine

theorem outputOf_tame (s : State) (j : Job) (out : Bytes) : Tame s (s.outputOf j out).2 := tame_snd_ite (draw_tame _) <| .refl _

theorem writeOut_tame (s : State) (slot : Nat) (j : Job) (out : Bytes) : Tame s (s.writeOut slot j out) :=
  .after (onJob_tame _ _ _) <| .after (sendOutput_tame _ _ _) <| outputOf_tame _ _ _

theorem writeEntry_steady (s : State) (slot : Nat) (j : Job) (r : Result) : Steady s (s.writeEntry slot j r) := by
  unfold State.writeEntry
  split
  · exact .refl _
  · exact .ite (.refl _) <| .after (.ite (leaveExpansion_tame _ _ _).steady <| .refl _) <|
      .after (replicate_tame _ _ _ _).steady <| .after (createKey_steady _ _ _) (onJob_tame _ _ _).steady

theorem retire_tame (s : State) (slot : Nat) (j : Job) (r : Result) (endBeat : Nat) : Tame s (s.retire slot j r endBeat) :=
  .after (countBlocks_tame _ _) <| .after (.ite (.after (dropRequests_tame _ _ _) <| .ite (endGrant_tame _ _) <| .refl _) <|
    .refl _) <| .after (tame_foldl _ (fun _ _ => startWipe_tame _ _ _ _) _ _) <| .after (freeHolds_tame _ _ _) <| onJob_tame _ _ _

theorem countRelease_tame (s : State) (j : Job) (r : Result) : Tame s (s.countRelease j r) :=
  .after (.ite (.refl _) <| countLost_tame _ _) <| tame_foldl _ (fun _ _ => count_tame _ _ _) _ _

theorem replaceKey_kept (s : State) (slot : Nat) (j : Job) (r : Result) : Kept s (s.replaceKey slot j r).1 := by
  unfold State.replaceKey
  split
  · exact .refl s
  · dsimp only
    split
    · exact .after (onJob_tame _ _ _).kept <| .after (replicate_tame _ _ _ _).kept <| sweepKey_kept _ _
    · exact .after (onJob_tame _ _ _).kept <| sweepKey_kept _ _

theorem countImport_tame (s : State) (d : Nat) : Tame s (s.countImport d) := .ite (writeDom_tame _ _ _) <| setDom_tame _ _ _

theorem noteEnvelope_tame (s : State) (j : Job) (r : Result) : Tame s (s.noteEnvelope j r) :=
  .ite (.refl _) <| .ite (countImport_tame _ _) <| .ite (.put rfl <| .refl _) <| .refl _

theorem beginCheck_tame (s : State) (slot : Nat) (j : Job) (r : Result) : Tame s (s.beginCheck slot j r) :=
  .after (setJob_tame _ _ _) <| .after (setJob_tame _ _ _) <| .after (tame_foldl _ (fun _ _ => startWipe_tame _ _ _ _) _ _) <|
    freeHolds_tame _ _ _

theorem outputRefused_tame (s : State) (slot : Nat) (j : Job) (endBeat : Nat) : Tame s (s.outputRefused slot j endBeat) :=
  .after (writeRefused_tame _ _ _) <| endJob_tame _ _ _ _ _

theorem releaseJob_kept (s : State) (slot : Nat) (j : Job) (r : Result) : Kept s (s.releaseJob slot j r) := by
  unfold State.releaseJob
  dsimp only
  refine .ite (endJob_tame _ _ _ _ _).kept <| .ite (outputRefused_tame _ _ _ _).kept ?_
  refine .after (retire_tame _ _ _ _ _).kept <| .after (noteEnvelope_tame _ _ _).kept <| .after (countRelease_tame _ _ _).kept <|
    .after (countExported_tame _ _ _).kept <| .after (releaseStream_tame _ _ _).kept <| .after (writeEntry_steady _ _ _ _).kept <|
    .after (replaceKey_kept _ _ _ _) <| .after (onJob_tame _ _ _).kept <| .after (writeOut_tame _ _ _ _).kept ?_
  exact .ite (zeroExposed_tame _ _).kept (.refl s)

theorem release_kept (s : State) (slot : Nat) (j : Job) (r : Result) (failed : Option Nat) :
    Kept s (s.release slot j r failed) := by
  unfold State.release
  split
  · exact (failCheck_tame _ _ _ _).kept
  · exact .ite (releaseJob_kept _ _ _ _) <| .ite (beginCheck_tame _ _ _ _).kept <|
      .after (releaseJob_kept _ _ _ _) (onJob_tame _ _ _).kept

theorem failSchedule_kept (s : State) (slot : Nat) (j : Job) (src : Nat) : Kept s (s.failSchedule slot j src) := by
  unfold State.failSchedule
  refine .ite (.refl _) <| .ite (failCheck_tame _ _ _ _).kept ?_
  split
  · exact release_kept _ _ _ _ _
  · exact .ite (.refl _) (failCheck_tame _ _ _ _).kept

theorem execRelease_goes (slot : Fin 4096) (failed : Option (Fin 192)) (s : State) : Goes s (execRelease slot failed s) := by
  unfold execRelease
  dsimp only
  refine .next ?_
  split
  · exact .refl _
  · refine .ite (.refl _) ?_
    split
    · split
      · exact (correct_tame _ _ _ _).kept
      · exact .refl _
    · refine .after (failSchedule_kept _ _ _ _) ?_
      split
      · exact (correct_tame _ _ _ _).kept
      · exact .refl _
    · split
      · refine .after (release_kept _ _ _ _ _) ?_
        split
        · exact (correct_tame _ _ _ _).kept
        · exact .refl _
      · split
        · exact (correct_tame _ _ _ _).kept
        · exact .refl _

theorem releaseChunk_tame (s : State) (slot : Nat) (j : Job) (r : Result) : Tame s (s.releaseChunk slot j r) :=
  .ite (outputRefused_tame _ _ _ _) <| .after (.ite (endJob_tame _ _ _ _ _) <| .ite (endJob_tame _ _ _ _ _) <|
    .after (askReads_tame _ _) <| .after (tame_foldl _ (fun _ _ => startWipe_tame _ _ _ _) _ _) <| .after (freeHolds_tame _ _ _) <|
    onJob_tame _ _ _) <| writeOut_tame _ _ _ _

theorem execChunkRelease_goes (slot : Fin 4096) (s : State) : Goes s (execChunkRelease slot s) := by
  unfold execChunkRelease
  refine .next ?_
  split
  · exact .refl _
  · split
    · exact .refl _
    · exact .ite (.refl _) (releaseChunk_tame _ _ _ _).kept

theorem saveFrame_tame (s : State) (slot : Nat) (j : Job) (x : Nat × Nat × Nat) : Tame s (s.saveFrame slot j x).2 :=
  tame_snd_ite (.after (setUnit_tame _ _ _ _) <| draw_tame _) <| .refl _

theorem endSlice_tame (s0 : State) (slot : Nat) (j0 : Job) (x : Nat × Nat × Nat) : Tame s0 (s0.endSlice slot j0 x) := by
  unfold State.endSlice
  refine .ite (.after (meetJob_tame _ _ _) <| .after (startWipe_tame _ _ _ _) <| .after (setJob_tame _ _ _) <|
    saveFrame_tame _ _ _ _) ?_
  split
  · exact .after (endJob_tame _ _ _ _ _) <| .after (startWipe_tame _ _ _ _) <| .after (setJob_tame _ _ _) <| saveFrame_tame _ _ _ _
  · exact .after (startWipe_tame _ _ _ _) <| .after (setJob_tame _ _ _) <| saveFrame_tame _ _ _ _

theorem execHbsSliceEnd_goes (slot : Nat) (slice : Fin 12 × Option (Fin 192)) (s : State) :
    Goes s (execHbsSliceEnd slot slice s) := by
  unfold execHbsSliceEnd
  dsimp only
  refine .next ?_
  split
  · exact .refl _
  · split
    · refine .ite (.refl _) ?_
      split
      · refine .ite ?_ (failCheckOn_tame _ _ _ _ _).kept
        split
        · exact .after (.ite (endSlice_tame _ _ _ _).kept <| .refl _) (correct_tame _ _ _ _).kept
        · exact (correct_tame _ _ _ _).kept
      · exact (endSlice_tame _ _ _ _).kept
    · exact .refl _

theorem freeUnit_tame (s : State) (c u : Nat) : Tame s (s.freeUnit c u) := by
  unfold State.freeUnit
  dsimp only
  split <;> exact setUnit_tame _ _ _ _

theorem execWipeEnd_goes (cls : Fin 8) (unit : Fin 16) (s : State) : Goes s (execWipeEnd cls unit s) :=
  .next <| .after (kept_foldl _ (fun _ _ => (onJob_tame _ _ _).kept) _ _) <| .put rfl <| .ite (freeUnit_tame _ _ _).kept <| .refl _

theorem execDestroyCompletion_goes (slot : Fin 4096) (s : State) : Goes s (execDestroyCompletion slot s) :=
  .next (onJob_tame _ _ _).kept

theorem countLife_tame (s : State) (j : Job) : Tame s (s.countLife j) := .ite (.put rfl <| .refl _) <| .refl _

theorem interruptFor_tame (s : State) (j : Job) : Tame s (s.interruptFor j) :=
  .ite (signal_tame _ _ _) <| .ite (.refl _) <| .after (.ite (queueMessage_tame _ _) <| .refl _) <| setQueue_tame _ _ _

theorem advanceCq_tame (s : State) (n : Nat) : Tame s (s.advanceCq n) := setQueue_tame _ _ _

theorem outputLost_tame (s : State) (slot : Nat) (j : Job) : Tame s (s.outputLost slot j) :=
  .after (writeRefused_tame _ _ _) <| .ite (setJob_tame _ _ _) <| overrule_tame _ _ _ _ _

end Sys2Proof.Frame
end

section

/-! ### What the operations of `Machine/Envelope.lean` leave as it is -/

namespace Sys2Proof.Frame

open Sys2Proof Sys2Proof.Machine

theorem envRun_tame (s : State) (slot : Nat) (j : Job) : Tame s (s.envRun slot j) := by
  unfold State.envRun
  split <;> exact .after (finish_tame _ _ _ _) <| onJob_tame _ _ _

theorem execImportEnvelope_goes (slot : Fin 4096) (s : State) : Goes s (execImportEnvelope slot s) :=
  runOp_goes _ _ _ _ (fun _ _ => .after (useMasks_tame _ _).kept (envRun_tame _ _ _).kept)

theorem endCheck_kept (s : State) (slot : Nat) (e : Job) (k : Key) : Kept s (s.endCheck slot e k) := by
  unfold State.endCheck
  dsimp only
  split
  · exact .after (onJob_tame _ _ _).kept <| .after (stopInternal_tame _ _ _).kept <| .after (takeCheckUnit_tame _ _).kept <|
      .after (useMasks_tame _ _).kept <| .ite (cmAttempt_tame _).kept <| .refl _
  · split
    · exact .after (onJob_tame _ _ _).kept <| .after (stopInternal_tame _ _ _).kept <| .after (takeCheckUnit_tame _ _).kept <|
        .after (useMasks_tame _ _).kept <| .ite (cmAttempt_tame _).kept <| .refl _
    · split
      · exact .after (leaveExpansion_tame _ _ _).kept <| .after (releaseJob_kept _ _ _ _) <| .after (onJob_tame _ _ _).kept <|
          .after (stopInternal_tame _ _ _).kept <| .after (takeCheckUnit_tame _ _).kept <| .after (useMasks_tame _ _).kept <|
          .ite (cmAttempt_tame _).kept <| .refl _
      · exact .after (releaseJob_kept _ _ _ _) <| .after (onJob_tame _ _ _).kept <| .after (stopInternal_tame _ _ _).kept <|
          .after (takeCheckUnit_tame _ _).kept <| .after (useMasks_tame _ _).kept <| .ite (cmAttempt_tame _).kept <| .refl _

theorem endRun_kept (s : State) (slot : Nat) (e : Job) (k : Key) : Kept s (s.endRun slot e k) := by
  unfold State.endRun
  split
  · exact (endExpansion_tame _ _ _ _ _).kept
  · exact endCheck_kept _ _ _ _

theorem execExpansionRun_goes (run : Fin 4096 × Option (Fin 192)) (s : State) : Goes s (execExpansionRun run s) := by
  unfold execExpansionRun
  refine .next ?_
  split
  · exact .refl _
  · split
    · exact .refl _
    · refine .ite (.refl _) ?_
      split
      · exact endRun_kept _ _ _ _
      · exact .ite (.after (.ite (endRun_kept _ _ _ _) <| .refl _) (correct_tame _ _ _ _).kept) (failExpansion_tame _ _ _ _ _).kept

theorem execAttest_goes (slot : Fin 4096) (s : State) : Goes s (execAttest slot s) := by
  unfold execAttest
  exact runOp_goes _ _ _ _ (fun _ _ => by
    split
    · exact .after (useMasks_tame _ _).kept (signBlocks_tame _ _ _ _ _ _ _ _ _ _ _ _).kept
    · exact (finish_tame _ _ _ _).kept)

end Sys2Proof.Frame
end

section

/-! ### What the operations of `Machine/Orders.lean` leave as it is -/

namespace Sys2Proof.Frame

open Sys2Proof Sys2Proof.Machine

theorem countOrder_tame (s : State) (d : Nat) (digest : Bytes) : Tame s (s.countOrder d digest) := .put rfl <| writeDom_tame _ _ _

theorem closeOrder_kept (s : State) (slot st info : Nat) : Kept s (s.closeOrder slot st info) := by
  unfold State.closeOrder
  split
  · exact .ite (.after (release_kept _ _ _ _ _) (setJob_tame _ _ _).kept) <| .refl _
  · exact .refl _

theorem endOrder_kept (s : State) (slot : Nat) (j : Job) (act : Action) (h : ∀ a n k p, KeptRes a (act a n k p)) :
    Kept s (s.endOrder slot j act) := by
  unfold State.endOrder
  split
  · exact closeOrder_kept _ _ _ _
  · split
    · exact closeOrder_kept _ _ _ _
    case _ st t ht => exact .after (closeOrder_kept _ _ _ _) <| .after (countOrder_tame _ _ _).kept <| h _ _ _ _ _ ht

theorem orderRow_goes (s : State) (slot action : Nat) (act : Action) (h : ∀ a n k p, KeptRes a (act a n k p)) :
    Goes s (s.orderRow slot action act) := by
  unfold State.orderRow
  refine .next ?_
  split
  · exact .ite (endOrder_kept _ _ _ _ h) (.refl s)
  · exact .refl s

theorem orderLc_tame (s : State) (slot lc : Nat) (h : lc ≤ 6) : Tame s (s.orderLc slot lc) := by
  unfold State.orderLc
  dsimp only
  exact .put rfl <| writeLc_tame s lc _ h

theorem actOwnership_kept (s : State) (slot : Nat) (j : Job) (p : Bytes) : KeptRes s (actOwnership s slot j p) :=
  .ite (.some <| .after (orderLc_tame _ _ _ (by decide)).kept (writeDom_tame _ _ _).kept) .none

theorem actLcSet_kept (s : State) (slot : Nat) (j : Job) (p : Bytes) : KeptRes s (actLcSet s slot j p) :=
  .ite .none <| .ite (.some (orderLc_tame _ _ _ (by decide)).kept) <| .ite (.some <|
    .put rfl (orderLc_tame _ _ _ (by decide)).kept) .none

theorem actDomainCreate_kept (s : State) (n : Nat) (j : Job) (p : Bytes) : KeptRes s (actDomainCreate s n j p) :=
  .ite (.some <| .after (instantiate_tame _ _).kept (writeDom_tame _ _ _).kept) .none

theorem advanceEpoch_steady (s : State) (d : Nat) (retire : Bool) : Steady s (s.advanceEpoch d retire) :=
  .after (instantiate_tame _ _).steady <| .after (callPurge_tame _ _).steady <| .put rfl (writeDom_tame _ _ _).steady

theorem orderAdvance_steady (s : State) (slot d : Nat) (retire : Bool) : Steady s (s.orderAdvance slot d retire) :=
  .after (onJob_tame _ _ _).steady <| advanceEpoch_steady _ _ _

theorem actDomainRetire_kept (s : State) (slot : Nat) (j : Job) (p : Bytes) : KeptRes s (actDomainRetire s slot j p) :=
  .ite (.some (orderAdvance_steady _ _ _ _).kept) .none

theorem actRosterSet_kept (s : State) (n : Nat) (j : Job) (p : Bytes) : KeptRes s (actRosterSet s n j p) :=
  .ite (.some (writeDom_tame _ _ _).kept) .none

theorem actEpochAdvance_kept (s : State) (slot : Nat) (j : Job) (p : Bytes) : KeptRes s (actEpochAdvance s slot j p) :=
  .some (orderAdvance_steady _ _ _ _).kept

theorem execOwnership_goes (slot : Fin 4096) (s : State) : Goes s (execOwnership slot s) :=
  orderRow_goes _ _ _ _ (fun _ _ _ _ => actOwnership_kept _ _ _ _)

theorem execLcSet_goes (slot : Fin 4096) (s : State) : Goes s (execLcSet slot s) :=
  orderRow_goes _ _ _ _ (fun _ _ _ _ => actLcSet_kept _ _ _ _)

theorem execDomainCreate_goes (slot : Fin 4096) (s : State) : Goes s (execDomainCreate slot s) :=
  orderRow_goes _ _ _ _ (fun _ _ _ _ => actDomainCreate_kept _ _ _ _)

theorem execDomainRetire_goes (slot : Fin 4096) (s : State) : Goes s (execDomainRetire slot s) :=
  orderRow_goes _ _ _ _ (fun _ _ _ _ => actDomainRetire_kept _ _ _ _)

theorem execRosterSet_goes (slot : Fin 4096) (s : State) : Goes s (execRosterSet slot s) :=
  orderRow_goes _ _ _ _ (fun _ _ _ _ => actRosterSet_kept _ _ _ _)

theorem execEpochAdvance_goes (slot : Fin 4096) (s : State) : Goes s (execEpochAdvance slot s) :=
  orderRow_goes _ _ _ _ (fun _ _ _ _ => actEpochAdvance_kept _ _ _ _)

theorem actDictWrite_kept (s : State) (n : Nat) (j : Job) (p : Bytes) : KeptRes s (actDictWrite s n j p) :=
  .ite (.some <| applyWrites_kept _ _ _) .none

theorem execDictWrite_goes (slot : Fin 4096) (s : State) : Goes s (execDictWrite slot s) :=
  orderRow_goes _ _ _ _ (fun _ _ _ _ => actDictWrite_kept _ _ _ _)

theorem actWheelLoad_kept (s : State) (n : Nat) (j : Job) (p : Bytes) : KeptRes s (actWheelLoad s n j p) :=
  .ite (.some <| .after (request_tame _ _ _).kept <| .put rfl <| .refl _) .none

theorem execWheelLoad_goes (slot : Fin 4096) (s : State) : Goes s (execWheelLoad slot s) :=
  orderRow_goes _ _ _ _ (fun _ _ _ _ => actWheelLoad_kept _ _ _ _)

theorem actFuseDisable_kept (s : State) (n : Nat) (j : Job) (p : Bytes) : KeptRes s (actFuseDisable s n j p) :=
  .ite (.some (beginFuse_tame _ _).kept) .none

theorem execFuseDisable_goes (slot : Fin 4096) (s : State) : Goes s (execFuseDisable slot s) :=
  orderRow_goes _ _ _ _ (fun _ _ _ _ => actFuseDisable_kept _ _ _ _)

theorem actForceSource_kept (s : State) (n : Nat) (j : Job) (p : Bytes) : KeptRes s (actForceSource s n j p) :=
  .ite (.some (forced_tame _ _).kept) .none

theorem execForceSource_goes (slot : Fin 4096) (s : State) : Goes s (execForceSource slot s) :=
  orderRow_goes _ _ _ _ (fun _ _ _ _ => actForceSource_kept _ _ _ _)

theorem actPatchMin_kept (s : State) (n : Nat) (j : Job) (p : Bytes) : KeptRes s (actPatchMin s n j p) :=
  .ite (.some <| .put rfl <| .refl _) .none

theorem execPatchMin_goes (slot : Fin 4096) (s : State) : Goes s (execPatchMin slot s) :=
  orderRow_goes _ _ _ _ (fun _ _ _ _ => actPatchMin_kept _ _ _ _)

theorem actEntropyStudy_kept (s : State) (n : Nat) (j : Job) (p : Bytes) : KeptRes s (actEntropyStudy s n j p) :=
  .ite (.some <| .put rfl <| .refl _) .none

theorem studyQuiesce_tame (s : State) : Tame s s.studyQuiesce :=
  .ite (.after (writeStatus_tame _ _ _ _ _ _) <| quiesceFor_tame _ _) <| .refl _

theorem execEntropyStudy_goes (slot : Fin 4096) (s : State) : Goes s (execEntropyStudy slot s) := by
  obtain ⟨t, ht, k⟩ := orderRow_goes s slot.val 0x0A actEntropyStudy (actEntropyStudy_kept)
  unfold execEntropyStudy
  rw [ht]
  exact .next (.after (studyQuiesce_tame t).kept k)

theorem sendNeighbour_tame (s : State) (q : Nat) : Tame s (s.sendNeighbour q) := by
  unfold State.sendNeighbour
  split
  · exact .ite (send_tame _ _) <| .refl _
  · exact .refl _

theorem newTable_tame (s : State) (p : Bytes) : Tame s (s.newTable p) :=
  .after (sendNeighbour_tame _ _) <| .after (sendNeighbour_tame _ _) <| .put rfl <| .refl _

theorem actHerdMembership_kept (s : State) (n : Nat) (j : Job) (p : Bytes) : KeptRes s (actHerdMembership s n j p) :=
  .ite (.some (newTable_tame _ _).kept) .none

theorem execHerdMembership_goes (slot : Fin 4096) (s : State) : Goes s (execHerdMembership slot s) :=
  orderRow_goes _ _ _ _ (fun _ _ _ _ => actHerdMembership_kept _ _ _ _)

theorem actCalendarSet_kept (s : State) (n : Nat) (j : Job) (p : Bytes) : KeptRes s (actCalendarSet s n j p) :=
  .ite (.some <| .put rfl <| .refl _) .none

theorem execCalendarSet_goes (slot : Fin 4096) (s : State) : Goes s (execCalendarSet slot s) :=
  orderRow_goes _ _ _ _ (fun _ _ _ _ => actCalendarSet_kept _ _ _ _)

theorem actAttestKey_kept (s : State) (slot : Nat) (j : Job) (p : Bytes) : KeptRes s (actAttestKey s slot j p) :=
  .ite (.some <| .put rfl <| .refl s) (keptRes_map fun _ => .put rfl <| .refl s)

theorem execAttestKey_goes (slot : Fin 4096) (s : State) : Goes s (execAttestKey slot s) :=
  orderRow_goes _ _ _ _ (fun _ _ _ _ => actAttestKey_kept _ _ _ _)

theorem actImportAuthority_kept (s : State) (n : Nat) (j : Job) (p : Bytes) : KeptRes s (actImportAuthority s n j p) :=
  .ite .none <| .ite (.some (writeDom_tame _ _ _).kept) <| .ite (.some (writeDom_tame _ _ _).kept) .none

theorem execImportAuthority_goes (slot : Fin 4096) (s : State) : Goes s (execImportAuthority slot s) :=
  orderRow_goes _ _ _ _ (fun _ _ _ _ => actImportAuthority_kept _ _ _ _)

theorem actImportKey_kept (s : State) (slot : Nat) (j : Job) (p : Bytes) : KeptRes s (actImportKey s slot j p) :=
  .ite (.some (writeDom_tame _ _ _).kept) (keptRes_map fun _ => (writeDom_tame _ _ _).kept)

theorem execImportKey_goes (slot : Fin 4096) (s : State) : Goes s (execImportKey slot s) :=
  orderRow_goes _ _ _ _ (fun _ _ _ _ => actImportKey_kept _ _ _ _)

theorem actHbsPartition_kept (s : State) (n : Nat) (j : Job) (p : Bytes) : KeptRes s (actHbsPartition s n j p) := by
  unfold actHbsPartition
  split
  · exact .ite (.some <| .after (sendAll_tame _ _ _).kept (applyPartition_steady _ _ _ _ _).kept) .none
  · exact .none

theorem execHbsPartition_goes (slot : Fin 4096) (s : State) : Goes s (execHbsPartition slot s) :=
  orderRow_goes _ _ _ _ (fun _ _ _ _ => actHbsPartition_kept _ _ _ _)

theorem execEpochSweep_goes (d : Fin 256) (s : State) : Goes s (execEpochSweep d s) :=
  .next <| .ite (.refl _) <| .after (.ite (endSweep_kept _ _) <| .refl _) <| kept_foldl _ (fun _ _ => sweepKey_kept _ _) _ _

end Sys2Proof.Frame
end

section

/-! ### What the operations of `Machine/Mctp.lean` leave as it is -/

namespace Sys2Proof.Frame

open Sys2Proof Sys2Proof.Machine

theorem raiseIbi_tame (s : State) : Tame s s.raiseIbi := .ite (send_tame _ _) <| .refl _

theorem sendMctp_tame (s : State) (dest tag : Nat) (msg : Bytes) : Tame s (s.sendMctp dest tag msg) :=
  .after (.ite (raiseIbi_tame _) <| .refl _) <| .put rfl <| .refl _

theorem mctpViolation_tame (s : State) : Tame s s.mctpViolation :=
  .after (violation_tame _ _ _ _) <| .after (raise_tame _ _ _) <| .put rfl <| .refl _

theorem answerI3c_tame (s : State) (dest tag : Nat) (resp : Bytes) : Tame s (s.answerI3c dest tag resp) := sendMctp_tame _ _ _ _

end Sys2Proof.Frame
end

section

/-! ### What the operations of `Machine/Dictionary.lean` leave as it is -/

namespace Sys2Proof.Frame

open Sys2Proof Sys2Proof.Machine

theorem refuseWith_tame (s : State) (code : Nat) : Tame s (refuseWith s code).2 := .refl _

theorem doneOr_kept {s : State} {o : Option State} (code : Nat) (h : KeptOpt s o) : Kept s (doneOr s code o).2 := by
  cases o with
  | none => exact .refl s
  | some t => exact h t rfl

theorem bootReset_kept (s : State) : KeptOpt s s.bootReset := .ite (.some <| .put rfl <| .refl _) .none

theorem bootData_kept (s : State) (data : Bytes) : KeptOpt s (s.bootData data) := .ite (.some <| .put rfl <| .refl _) .none

theorem measExtend_kept (s : State) (v : Bytes) : KeptOpt s (s.measExtend v) := .ite (.some (extend_tame _ _ _).kept) .none

theorem monClear_tame (s : State) (d v : Nat) : Tame s (s.monClear d v).2 := by
  unfold State.monClear
  split
  · exact refuseWith_tame _ _
  · exact tame_snd_ite (refuseWith_tame _ _) <| tame_foldl _ (fun _ _ => clearMonitor_tame _ _) _ _

theorem writeAction_kept (s : State) (d idx sub : Nat) (data : Bytes) : Kept s (s.writeAction d idx sub data).2 := by
  have hr := fun code => (refuseWith_tame s code).kept
  have hd := fun code {o} => doneOr_kept (s := s) (o := o) code
  unfold State.writeAction
  exact kept_snd_ite (hd _ (measExtend_kept _ _)) <|
    kept_snd_ite (kept_snd_ite (stageReset_tame _).kept (hd _ (stageData_kept _ _))) <|
    kept_snd_ite (countClear_tame _ _).kept <|
    kept_snd_ite (hd _ (retest_kept _ _)) <|
    kept_snd_ite (kept_snd_ite (hr _) (hd _ (.ite (vloadImage_kept _) (vloadEmpty_kept _)))) <|
    kept_snd_ite (hd _ (studyExit_kept _)) <|
    kept_snd_ite (hd _ (force_kept _ _)) <|
    kept_snd_ite (kept_snd_ite (hr _) (hd _ (.ite (patchReset_kept _) (.ite (patchData_kept _ _) (patchApply_kept _))))) <|
    kept_snd_ite (monClear_tame _ _ _).kept <|
    kept_snd_ite (kept_snd_ite (hr _) (hd _ (.ite (bootReset_kept _) (bootData_kept _ _)))) <|
    hr _

theorem vendorWrite_tame (s : State) (w : EntryWrite) : Tame s (s.vendorWrite w) :=
  .ite (.refl _) <| .ite (.after (advanceAll_tame _) <| writeLc_tame _ _ _ (by decide)) <| .ite (.put rfl <|
    .after (writeLc_tame _ _ _ (by decide)) <| .after (writeDom_tame _ _ _) <| draw_tame _) <| .refl _

theorem landWrite_kept (s : State) (x : Nat × EntryWrite) : Kept s (s.landWrite x) := by
  unfold State.landWrite
  split
  · exact .ite (writeAction_kept _ _ _ _ _) <| applyWrites_kept _ _ _
  · exact .ite (vendorWrite_tame _ _).kept <| .refl _

theorem landWrites_kept (s : State) : Kept s s.landWrites :=
  .after (kept_foldl _ (fun _ _ => landWrite_kept _ _) _ _) <| .put rfl <| .refl _

theorem readEntry_kept (s : State) (d : Nat) (r : Request) (e : Entry) : Kept s (s.readEntry d r e).after := by
  have h : ∀ (v : Bytes) (t : State), Kept s t →
      Kept s (if v.length ≤ r.offset then ({ result := 5, after := s } : Served)
        else { result := 0, valueLen := v.length, data := slice v r.offset (if r.len = 0 then 1024 else r.len), after := t }).after
          := by
    intro v t ht
    split
    · exact .refl s
    · exact ht
  unfold State.readEntry
  dsimp only
  split
  · split
    case _ v t ht => exact h v t (studyData_kept s _ ht)
    · exact .refl s
  · exact h _ s (.refl s)

theorem writeEntryBy_kept (s : State) (d : Nat) (r : Request) (e : Entry) : Kept s (s.writeEntryBy d r e).2 :=
  kept_snd_ite (refuseWith_tame _ _).kept <| kept_snd_ite (monClear_tame _ _ _).kept <| writeLate_kept _ _ _

theorem lockEntry_tame (s : State) (r : Request) (e : Entry) : Tame s (s.lockEntry r e).2 :=
  tame_snd_ite (.put rfl <| .refl _) <| refuseWith_tame _ _

theorem serveLocal_kept (s : State) (d : Nat) (open_ writes : Bool) (r : Request) :
    Kept s (s.serveLocal d open_ writes r).after := by
  unfold State.serveLocal
  split
  · dsimp only
    split
    · exact .refl s
    · split
      · exact writeLate_kept _ _ _
      · exact .refl s
  · split
    · exact .refl s
    · split
      · split
        · exact readEntry_kept _ _ _ _
        · exact .refl s
      · split
        · exact .refl s
        · split
          · exact .refl s
          · exact kept_snd_ite (writeEntryBy_kept _ _ _ _) (lockEntry_tame _ _ _).kept

theorem setBox_tame (s : State) (fn : Nat) (m : Mailbox) : Tame s (s.setBox fn m) := .put rfl <| .refl _

theorem answer_tame (s : State) (p : DictPath) (resp : Bytes) : Tame s (s.answer p resp) := by
  unfold State.answer
  split
  · exact .after (cause_tame _ _ _) <| setBox_tame _ _ _
  · split
    · exact .refl _
    · exact .after (answerI3c_tame _ _ _ _) <| .put rfl <| .refl _
  · split
    · exact .refl _
    · exact .after (sendHerd_tame _ _ _ _ _) <| .put rfl <| .refl _

theorem countRequest_tame (s : State) (p : DictPath) (r : Request) (result : Nat) : Tame s (s.countRequest p r result) :=
  .put rfl <| .refl _

theorem countMalformed_tame (s : State) (p : DictPath) : Tame s (s.countMalformed p) := by
  unfold State.countMalformed
  split
  · exact violation_tame _ _ _ _
  · exact mctpViolation_tame _
  · exact .refl _

theorem finishRequest_kept {s : State} {x : Served} (p : DictPath) (r : Request) (h : Kept s x.after) :
    Kept s (s.finishRequest p r x) := by
  have h2 : Kept s ((x.after.countRequest p r x.result).answer p (r.response x.result x.valueLen x.data)) :=
    .after (answer_tame _ _ _).kept <| .after (countRequest_tame _ _ _ _).kept h
  unfold State.finishRequest
  exact .ite (.after (countMalformed_tame _ _).kept <| .put rfl h2) (.put rfl h2)

theorem relayRequest_kept (s : State) (p : DictPath) (r : Request) (b : Bytes) : Kept s (s.relayRequest p r b) :=
  .ite (finishRequest_kept _ _ (.refl s)) (.put rfl (sendHerd_tame _ _ _ _ _).kept)

theorem serveRequest_kept (s : State) (p : DictPath) (b : Bytes) : Kept s (s.serveRequest p b) := by
  unfold State.serveRequest
  exact .ite (finishRequest_kept _ _ (.refl s)) <|
    .ite (.ite (finishRequest_kept _ _ (.refl s)) (relayRequest_kept _ _ _ _)) (finishRequest_kept _ _ (serveLocal_kept _ _ _ _ _))

theorem serveIf_kept (s : State) (p : DictPath) (op : Nat → Bool) : Kept s (s.serveIf p op) := by
  unfold State.serveIf
  split
  · exact .refl _
  · exact .ite (serveRequest_kept _ _ _) <| .refl _

theorem damageRecord_tame (s : State) : Tame s s.damageRecord := .after (raise_tame _ _ _) <| .put rfl <| .refl _

theorem execRead_goes (path : DictPath × Bool) (s : State) : Goes s (execRead path s) :=
  .next <| .after (serveIf_kept _ _ _) <| .ite (damageRecord_tame _).kept <| .refl _

theorem execWrite_goes (path : DictPath) (s : State) : Goes s (execWrite path s) := .next <| serveIf_kept _ _ _

theorem execLock_goes (path : DictPath) (s : State) : Goes s (execLock path s) := .next <| serveIf_kept _ _ _

theorem execDescribe_goes (path : DictPath) (s : State) : Goes s (execDescribe path s) := .next <| serveIf_kept _ _ _

theorem relayAnswered_tame (s : State) (k : Nat) (resp : Bytes) : Tame s (s.relayAnswered k resp) := by
  unfold State.relayAnswered
  split
  · exact .refl _
  · exact .after (answer_tame _ _ _) <| .after (countRequest_tame _ _ _ _) <| .put rfl <| .refl _

theorem relayExpires_tame (s : State) (k : Nat) : Tame s (s.relayExpires k) := by
  unfold State.relayExpires
  split
  · exact .ite (relayAnswered_tame _ _ _) <| .refl _
  · exact .refl _

theorem execRelayTimeout_goes (s : State) : Goes s (execRelayTimeout s) :=
  .next <| .after (relayExpires_tame _ _).kept (relayExpires_tame _ _).kept

theorem execMonClear_goes (by_ : Fin 256) (value : BitVec 32) (s : State) : Goes s (execMonClear by_ value s) :=
  .next <| .ite (monClear_tame _ _ _).kept <| .refl _

theorem execMeasExtend_goes (value : Bytes) (s : State) : Goes s (execMeasExtend value s) :=
  .next <| .ite ((measExtend_kept _ _).getD (.refl _)) <| .refl _

theorem execBootReset_goes (s : State) : Goes s (execBootReset s) := .next <| (bootReset_kept _).getD (.refl _)

theorem execBootData_goes (data : Bytes) (s : State) : Goes s (execBootData data s) :=
  .next <| .ite ((bootData_kept _ _).getD (.refl _)) <| .refl _

theorem sampleLevel_tame (s : State) (which : Nat) (a b : Int) : Tame s (s.sampleLevel which a b) := by
  unfold State.sampleLevel
  split <;> exact .after (sampleMonitor_tame _ _ _ _) <| .put rfl <| .refl _

theorem execMonitorSample_goes (which : Fin 5) (reading second : Int) (s : State) :
    Goes s (execMonitorSample which reading second s) :=
  .next <| .ite (sampleLevel_tame _ _ _ _).kept <| .refl _

theorem writeLife_kept (s : State) : Kept s s.writeLife := .put rfl <| .refl _

theorem execLifeRecordWrite_goes (s : State) : Goes s (execLifeRecordWrite s) := .next <| .ite (writeLife_kept _) <| .refl _

theorem countSecond_tame (s : State) : Tame s s.countSecond := .put rfl <| .refl _

theorem execCalendarSecond_goes (s : State) : Goes s (execCalendarSecond s) :=
  .next <| .after (.ite (countSecond_tame _).kept <| .refl _) <| .put rfl <| .refl _

end Sys2Proof.Frame
end

section

/-! ### What the operations of `Machine/Beat.lean` leave as it is -/

namespace Sys2Proof.Frame

open Sys2Proof Sys2Proof.Machine

theorem reserveDue_steady (s : State) : Steady s s.reserveDue :=
  .ite (.refl _) <| steady_foldl _ (fun _ _ => .ite (reserve_steady _ _) <| autoReserve_steady _ _) _ _

theorem beginBeat_steady (s : State) : Steady s s.beginBeat :=
  .after (beginTest_tame _).steady <| .after (drawBlockMasks_tame _).steady <| .after (reserveDue_steady _) <|
    .after (assignDue_steady _) <| .after (openRetrain_tame _).steady <| enterNext_steady _

end Sys2Proof.Frame
end

section

/-! ### What the operations of `Machine/Herd.lean` leave as it is -/

namespace Sys2Proof.Frame

open Sys2Proof Sys2Proof.Machine

theorem execPortTrained_goes (port : Fin 2) (s : State) : Goes s (execPortTrained port s) :=
  .next <| .ite (.refl _) <| .after (sendNeighbour_tame _ _).kept (setHerdPort_tame _ _ _).kept

theorem execPortLockLoss_goes (port : Fin 2) (s : State) : Goes s (execPortLockLoss port s) :=
  .next <| .ite (setHerdPort_tame _ _ _).kept <| .refl _

theorem frameFault_tame (s : State) : Tame s s.frameFault := .after (violation_tame _ _ _ _) <| raise_tame _ _ _

theorem retryLater_tame (s : State) (p : Nat) (up : Bool) : Tame s (s.retryLater p up) := setPeer_tame _ _ _

theorem closeSession_tame (s : State) (p : Nat) : Tame s (s.closeSession p) := .after (retryLater_tame _ _ _) <| setPeer_tame _ _ _

theorem frameFails_tame (s : State) (p : Nat) : Tame s (s.frameFails p) :=
  .after (.ite (closeSession_tame _ _) <| .refl _) <| .after (frameFault_tame _) <| setPeer_tame _ _ _

theorem takeFrame_kept (s : State) (p : Nat) (b : Bytes) (act : State → Nat → Bytes → State)
    (h : ∀ a q m, Kept a (act a q m)) : Kept s (s.takeFrame p b act) := by
  unfold State.takeFrame
  dsimp only
  refine .ite (.refl s) <| .ite (frameFails_tame _ _).kept ?_
  split
  · exact .after (h _ _ _) (setPeer_tame _ _ _).kept
  · exact (setPeer_tame _ _ _).kept

theorem forward_tame (s : State) (port : Nat) (b : Bytes) : Tame s (s.forward port b) :=
  .ite (frameFault_tame _) <| .ite (send_tame _ _) <| .refl _

theorem onFrame_kept (s : State) (port typ : Nat) (b : Bytes) (act : State → Nat → Bytes → State)
    (h : ∀ a q m, Kept a (act a q m)) : Kept s (s.onFrame port typ b act) := by
  unfold State.onFrame
  dsimp only
  split
  · exact .refl s
  · exact .ite (.refl s) <| .ite (frameFault_tame s).kept <| .ite (Tame.after (forward_tame _ _ _) (wake_tame s)).kept <|
      .ite (frameFault_tame s).kept <| .ite (.refl s) <| .after (takeFrame_kept _ _ _ act h) (wake_tame s).kept

theorem onNeighbour_tame (s : State) (port : Nat) (b : Bytes) : Tame s (s.onNeighbour port b) := by
  unfold State.onNeighbour
  split
  · exact .refl _
  · exact .ite (.refl _) <| .ite (frameFault_tame _) <| .after (.ite (setHerdPort_tame _ _ _) <| .after (.ite (.refl _) <|
      raise_tame _ _ _) <| setHerdPort_tame _ _ _) <| wake_tame _

theorem execNeighbour_goes (port : Fin 2) (frame : Bytes) (s : State) : Goes s (execNeighbour port frame s) :=
  .next (onNeighbour_tame _ _ _).kept

theorem hsSign_tame (s : State) (th : Bytes) : Tame s (s.hsSign th).2 := serve_tame _ _ _

theorem authFails_tame (s : State) (p : Nat) : Tame s (s.authFails p) :=
  .after (raise_tame _ _ _) <| .after (retryLater_tame _ _ _) <| setPeer_tame _ _ _

theorem formSession_tame (s : State) (p : Nat) (k : Bytes × Bytes × Bytes × Bytes) : Tame s (s.formSession p k) :=
  .after (sendHerd_tame _ _ _ _ _) <| setPeer_tame _ _ _

theorem sendHello_tame (s : State) (p : Nat) : Tame s (s.sendHello p) :=
  .after (sendHerd_tame _ _ _ _ _) <| .after (setPeer_tame _ _ _) <| serve_tame _ _ _

theorem onHello_tame (bad : Bool) (s : State) (p : Nat) (b : Bytes) : Tame s (State.onHello bad s p b) := by
  unfold State.onHello
  refine .ite (.refl _) <| .ite (authFails_tame _ _) <| .ite (mismatch_tame _ _) <| .ite (.after (authFails_tame _ _) <|
    serve_tame _ _ _) ?_
  split
  · rename_i t hp
    exact .of_snd hp (.after (hsSign_tame _ _) <| serve_tame _ _ _)
  · rename_i t hp
    have h1 : Tame _ t := .of_snd hp (.after (hsSign_tame _ _) <| serve_tame _ _ _)
    exact .after (sendHerd_tame _ _ _ _ _) <| .after (setPeer_tame _ _ _) h1

theorem onHelloReply_tame (s : State) (p : Nat) (b : Bytes) : Tame s (s.onHelloReply p b) := by
  unfold State.onHelloReply
  dsimp only
  refine .ite (.refl _) <| .ite (authFails_tame _ _) ?_
  split
  · rename_i t hp
    exact .of_snd hp (hsSign_tame _ _)
  · rename_i t hp
    have h1 : Tame _ t := .of_snd hp (hsSign_tame _ _)
    exact .after (formSession_tame _ _ _) <| .after (sendHerd_tame _ _ _ _ _) h1

theorem onFinish_tame (s : State) (p : Nat) (b : Bytes) : Tame s (s.onFinish p b) := by
  unfold State.onFinish
  dsimp only
  split
  · exact .refl _
  · exact .ite (.refl _) <| .ite (formSession_tame _ _ _) <| authFails_tame _ _

theorem execHello_goes (port : Fin 2 × Bool) (frame : Bytes) (s : State) : Goes s (execHello port frame s) :=
  .next <| onFrame_kept _ _ _ _ _ (fun _ _ _ => (onHello_tame _ _ _ _).kept)

theorem execHelloReply_goes (port : Fin 2) (frame : Bytes) (s : State) : Goes s (execHelloReply port frame s) :=
  .next <| onFrame_kept _ _ _ _ _ (fun _ _ _ => (onHelloReply_tame _ _ _).kept)

theorem execFinish_goes (port : Fin 2) (frame : Bytes) (s : State) : Goes s (execFinish port frame s) :=
  .next <| onFrame_kept _ _ _ _ _ (fun _ _ _ => (onFinish_tame _ _ _).kept)

theorem eachPeer_kept (s : State) (act : State → Nat → State) (h : ∀ a p, Kept a (act a p)) : Kept s (s.eachPeer act) :=
  kept_foldl act h _ s

theorem retryPeer_tame (s : State) (p : Nat) : Tame s (s.retryPeer p) := .ite (sendHello_tame _ _) <| .refl _

theorem execHerdRetry_goes (s : State) : Goes s (execHerdRetry s) :=
  .next <| eachPeer_kept _ _ (fun _ _ => (retryPeer_tame _ _).kept)

theorem rekeyPeer_tame (s : State) (p : Nat) : Tame s (s.rekeyPeer p) := .ite (sendHello_tame _ _) <| .refl _

theorem execHerdRekey_goes (s : State) : Goes s (execHerdRekey s) :=
  .next <| eachPeer_kept _ _ (fun _ _ => (rekeyPeer_tame _ _).kept)

theorem helloExpires_tame (s : State) (p : Nat) : Tame s (s.helloExpires p) := by
  unfold State.helloExpires
  split
  · exact .ite (retryLater_tame _ _ _) <| .refl _
  · exact .refl _

theorem execHerdHelloTimeout_goes (s : State) : Goes s (execHerdHelloTimeout s) :=
  .next <| eachPeer_kept _ _ (fun _ _ => (helloExpires_tame _ _).kept)

theorem loseIfSilent_tame (s : State) (p : Nat) : Tame s (s.loseIfSilent p) :=
  .ite (.after (raise_tame _ _ _) <| closeSession_tame _ _) <| .refl _

theorem execHerdPeerLost_goes (s : State) : Goes s (execHerdPeerLost s) :=
  .next <| eachPeer_kept _ _ (fun _ _ => (loseIfSilent_tame _ _).kept)

theorem execClose_goes (port : Fin 2) (frame : Bytes) (s : State) : Goes s (execClose port frame s) :=
  .next <| onFrame_kept _ _ _ _ _ (fun _ _ _ => (closeSession_tame _ _).kept)

theorem execHerdKeepaliveSend_goes (s : State) : Goes s (execHerdKeepaliveSend s) :=
  .next <| .ite (sendAll_tame _ _ _).kept <| .refl _

theorem onAnnounce_tame (s : State) (p : Nat) (b : Bytes) : Tame s (s.onAnnounce p b) := setPeer_tame _ _ _

theorem execAnnounce_goes (port : Fin 2) (frame : Bytes) (s : State) : Goes s (execAnnounce port frame s) :=
  .next <| onFrame_kept _ _ _ _ _ (fun _ _ _ => (onAnnounce_tame _ _ _).kept)

theorem resendPage_tame (s : State) (p d page : Nat) : Tame s (s.resendPage p d page) :=
  .after (tame_foldl _ (fun _ _ => sendHerd_tame _ _ _ _ _) _ _) <| tame_foldl _ (fun _ _ => sendHerd_tame _ _ _ _ _) _ _

theorem resyncSlice_tame (s : State) : Tame s s.resyncSlice := by
  unfold State.resyncSlice
  dsimp only
  split
  · exact .refl _
  · split
    · exact endGrant_tame _ _
    · exact .after (.ite (resendPage_tame _ _ _ _) <| .refl _) <| .after (setPeer_tame _ _ _) <| endGrant_tame _ _

theorem execHerdResyncSlice_goes (s : State) : Goes s (execHerdResyncSlice s) := .next (resyncSlice_tame _).kept

theorem replicaCreated_steady (s : State) (b : Bytes) : Steady s (s.replicaCreated b).2 :=
  steady_snd_ite (.refl _) <| steady_snd_ite (.refl _) <| createKey_steady _ _ _

theorem replicaDestroyed_kept (s : State) (b : Bytes) : Kept s (s.replicaDestroyed b).2 := by
  unfold State.replicaDestroyed
  dsimp only
  split
  · exact kept_snd_ite (sweepKey_kept _ _) <| .refl _
  · exact .refl _

theorem replicateResult_kept (s : State) (b : Bytes) : Kept s (s.replicateResult b).2 :=
  kept_snd_ite (.refl _) <| kept_snd_ite (.refl _) <| kept_snd_ite (replicaCreated_steady _ _).kept <|
    kept_snd_ite (replicaDestroyed_kept _ _) <| .refl _

theorem onReplicate_kept (s : State) (p : Nat) (b : Bytes) : Kept s (s.onReplicate p b) :=
  .after (sendHerd_tame _ _ _ _ _).kept <| .after (setPeer_tame _ _ _).kept <| replicateResult_kept _ _

theorem execReplicate_goes (port : Fin 2) (frame : Bytes) (s : State) : Goes s (execReplicate port frame s) :=
  .next <| onFrame_kept _ _ _ _ _ (fun _ _ _ => onReplicate_kept _ _ _)

theorem onReplicateAck_tame (s : State) (p : Nat) (b : Bytes) : Tame s (s.onReplicateAck p b) :=
  .ite (setPeer_tame _ _ _) <| .refl _

theorem execReplicateAck_goes (port : Fin 2) (frame : Bytes) (s : State) : Goes s (execReplicateAck port frame s) :=
  .next <| onFrame_kept _ _ _ _ _ (fun _ _ _ => (onReplicateAck_tame _ _ _).kept)

theorem checkPartition_steady (s : State) (r : Bytes) : Steady s (s.checkPartition r) := by
  unfold State.checkPartition
  split
  · exact .ite (partitionConflict_steady _ _ _) <| .refl _
  · exact .refl _

theorem onPartitionState_steady (s : State) (n : Nat) (b : Bytes) : Steady s (s.onPartitionState n b) :=
  .ite (steady_foldl _ (fun _ _ => checkPartition_steady _ _) _ _) <| .refl _

theorem execPartitionState_goes (port : Fin 2) (frame : Bytes) (s : State) : Goes s (execPartitionState port frame s) :=
  .next <| onFrame_kept _ _ _ _ _ (fun _ _ _ => (onPartitionState_steady _ _ _).kept)

theorem onRelayReq_tame (s : State) (p : Nat) (b : Bytes) : Tame s (s.onRelayReq p b) :=
  .ite (.put rfl <| .refl _) <| sendHerd_tame _ _ _ _ _

theorem execRelayReq_goes (port : Fin 2) (frame : Bytes) (s : State) : Goes s (execRelayReq port frame s) :=
  .next <| onFrame_kept _ _ _ _ _ (fun _ _ _ => (onRelayReq_tame _ _ _).kept)

theorem onRelayRsp_tame (s : State) (p : Nat) (b : Bytes) : Tame s (s.onRelayRsp p b) := by
  unfold State.onRelayRsp
  split
  · exact relayAnswered_tame _ _ _
  · exact .refl _

theorem execRelayRsp_goes (port : Fin 2) (frame : Bytes) (s : State) : Goes s (execRelayRsp port frame s) :=
  .next <| onFrame_kept _ _ _ _ _ (fun _ _ _ => (onRelayRsp_tame _ _ _).kept)

theorem onBeatSync_tame (s : State) (p : Nat) (p' : Bytes) : Tame s (s.onBeatSync p p') := .ite (sendHerd_tame _ _ _ _ _) <| .refl _

theorem execBeatSync_goes (port : Fin 2) (frame : Bytes) (s : State) : Goes s (execBeatSync port frame s) :=
  .next <| onFrame_kept _ _ _ _ _ (fun _ _ _ => (onBeatSync_tame _ _ _).kept)

theorem onBeatSyncReply_tame (s : State) (p : Nat) (b : Bytes) : Tame s (s.onBeatSyncReply p b) := by
  unfold State.onBeatSyncReply
  split
  · exact .ite (.refl _) <| .put rfl <| .refl _
  · exact .refl _

theorem execBeatSyncReply_goes (port : Fin 2) (frame : Bytes) (s : State) : Goes s (execBeatSyncReply port frame s) :=
  .next <| onFrame_kept _ _ _ _ _ (fun _ _ _ => (onBeatSyncReply_tame _ _ _).kept)

end Sys2Proof.Frame
end

section

/-! ### What the operations of `Machine/Links.lean` leave as it is -/

namespace Sys2Proof.Frame

open Sys2Proof Sys2Proof.Machine

theorem execPcieLinkUp_goes (speed : Fin 5) (width : Fin 4) (s : State) : Goes s (execPcieLinkUp speed width s) :=
  .next <| .ite (.refl _) <| .put rfl <| .refl _

theorem disableFunction_kept (s : State) (fn : Nat) (silent : Bool) : Kept s (s.disableFunction fn silent) :=
  kept_foldl _ (fun _ _ => .after (disableQueue_kept _ _) (setQueue_tame _ _ _).kept) _ _

theorem functionReset_kept (s : State) (fn : Nat) : Kept s (s.functionReset fn) :=
  .after (.ite (.refl _) <| .put rfl <| .refl _) <| .after (setBox_tame _ _ _).kept <| .after (setFunc_tame _ _ _).kept <|
    disableFunction_kept _ _ _

theorem execHotReset_goes (down : Bool) (s : State) : Goes s (execHotReset down s) :=
  .next <| .ite (.refl _) <| .after (.ite (raise_tame _ _ _).kept <| .refl _) <| .put rfl <|
    .after (kept_foldl _ (fun _ _ => disableQueue_kept _ _) _ _) <| .put rfl <| .refl _

theorem execFunctionLevelReset_goes (fn : Fin 256) (s : State) : Goes s (execFunctionLevelReset fn s) :=
  .next <| .ite (functionReset_kept _ _) <| .refl _

theorem execVfEnableChange_goes (enable : Bool) (num : Fin 256) (s : State) : Goes s (execVfEnableChange enable num s) :=
  .next <| .ite (.refl _) <| .after (kept_foldl _ (fun _ _ => functionReset_kept _ _) _ _) <| .put rfl <| .refl _

theorem execPowerStateChange_goes (fn : Fin 256) (d3hot bme : Bool) (s : State) : Goes s (execPowerStateChange fn d3hot bme s) :=
  .next <| .ite (.refl _) <| .after (.ite (.put rfl <| .refl _) <| .refl _) (setFunc_tame _ _ _).kept

theorem execBarAccessUnmapped_goes (fn : Fin 256) (s : State) : Goes s (execBarAccessUnmapped fn s) :=
  .next <| .ite (send_tame _ _).kept <| .refl _

theorem execAerErrorReceived_goes (kind : Fin 3) (s : State) : Goes s (execAerErrorReceived kind s) :=
  .next <| .ite (.refl _) <| .after (.ite (raise_tame _ _ _).kept <| .refl _) <| .put rfl <| .refl _

theorem execPtmRequest_goes (s : State) : Goes s (execPtmRequest s) :=
  .next <| .ite (.after (send_tame _ _).kept <| .put rfl <| .refl _) <| .refl _

theorem execPtmResponse_goes (time : BitVec 64) (s : State) : Goes s (execPtmResponse time s) :=
  .next <| .ite (.refl _) <| .put rfl <| .refl _

theorem execPtmDialogueTimeout_goes (s : State) : Goes s (execPtmDialogueTimeout s) :=
  .next <| .ite (.refl _) <| .put rfl <| .refl _

theorem execDoeObject_goes (object : Bytes) (s : State) : Goes s (execDoeObject object s) :=
  .next <| .ite (.refl _) <| .ite (send_tame _ _).kept <| .ite (.put rfl <| .refl _) <| .refl _

theorem setSpdm_tame (s : State) (t : Nat) (x : Spdm) : Tame s (s.setSpdm t x) := .put rfl <| .refl _

theorem sendSpdm_tame (s : State) (t : Nat) (dest : Nat × Nat) (sess : Option (Nat × Bytes)) (resp : Bytes) :
    Tame s (s.sendSpdm t dest sess resp) :=
  .ite (send_tame _ _) <| sendMctp_tame _ _ _ _

theorem spdmViolation_tame (s : State) (t : Nat) (dest : Nat × Nat) (raw : Bytes) : Tame s (s.spdmViolation t dest raw) := by
  unfold State.spdmViolation
  exact .after (violation_tame _ _ _ _) <| .after (raise_tame _ _ _) <| .put rfl <| sendSpdm_tame _ _ _ _ _

theorem spdmAnswer_tame (s : State) (t : Nat) (dest : Nat × Nat) (sess : Option Nat) (msg : Bytes) :
    Tame s (s.spdmAnswer t dest sess msg) :=
  .after (.ite (.put rfl <| .refl _) <| .refl _) <| .after (setSpdm_tame _ _ _) <| .after (sendSpdm_tame _ _ _ _ _) <|
    tame_snd_ite (.after (serve_tame _ _ _) <| tame_snd_ite (serve_tame _ _ _) <| .refl _) <| tame_snd_ite (serve_tame _ _ _) <|
    .refl _

theorem spdmServe_tame (s : State) (t : Nat) (dest : Nat × Nat) (secured : Bool) (raw : Bytes) (bad : Bool) :
    Tame s (s.spdmServe t dest secured raw bad) := by
  unfold State.spdmServe
  split
  · exact spdmViolation_tame _ _ _ _
  · exact .ite (spdmViolation_tame _ _ _ _) <| .ite (sendSpdm_tame _ _ _ _ _) <| .ite (.after (sendSpdm_tame _ _ _ _ _) <|
      mismatch_tame _ _) <| spdmAnswer_tame _ _ _ _ _

theorem execSpdmRequest_goes (request : Fin 2 × Bool) (s : State) : Goes s (execSpdmRequest request s) := by
  unfold execSpdmRequest
  refine .next <| .ite (.refl _) <| .ite (.ite (.refl _) <| .after (spdmServe_tame _ _ _ _ _ _).kept <| .put rfl <| .refl _) ?_
  split
  · exact .refl _
  · exact .ite (.refl _) <| .after (spdmServe_tame _ _ _ _ _ _).kept <| .put rfl <| .refl _

theorem execSpdmHeartbeatTimeout_goes (transport : Fin 2) (session : BitVec 16) (s : State) :
    Goes s (execSpdmHeartbeatTimeout transport session s) := by
  unfold execSpdmHeartbeatTimeout
  refine .next ?_
  split
  · exact .ite (setSpdm_tame _ _ _).kept <| .refl _
  · exact .refl _

theorem execIdeKm_goes (stream : Fin 9) (op : Fin 3) (first last : Fin 256) (s : State) :
    Goes s (execIdeKm stream op first last s) := by
  unfold execIdeKm
  refine .next <| .ite (.refl _) <| .ite (.put rfl <| .refl _) ?_
  split
  · exact .refl _
  · exact .put rfl <| .refl _

theorem execIdeTlpCheck_goes (stream : Fin 9) (s : State) : Goes s (execIdeTlpCheck stream s) := by
  unfold execIdeTlpCheck
  refine .next ?_
  split
  · exact .ite (.after (raise_tame _ _ _).kept <| .put rfl <| .refl _) <| .refl _
  · exact .refl _

end Sys2Proof.Frame
end

section

/-! ### What the operations of `Machine/Management.lean` leave as it is -/

namespace Sys2Proof.Frame

open Sys2Proof Sys2Proof.Machine

theorem cccReturns_goes (s : State) (b : Bytes) : Goes s (s.cccReturns b) := .next <| .ite (send_tame _ _).kept <| .refl _

theorem execEntdaa_goes (addr : Fin 128) (s : State) : Goes s (execEntdaa addr s) :=
  .next <| .ite (.after (send_tame _ _).kept <| .put rfl <| .refl _) <| .refl _

theorem execRstdaa_goes (s : State) : Goes s (execRstdaa s) := .next <| .ite (.put rfl <| .refl _) <| .refl _

theorem execSetnewda_goes (addr : Fin 128) (s : State) : Goes s (execSetnewda addr s) :=
  .next <| .ite (.put rfl <| .refl _) <| .refl _

theorem execGetpid_goes (s : State) : Goes s (execGetpid s) := cccReturns_goes _ _

theorem execGetbcr_goes (s : State) : Goes s (execGetbcr s) := cccReturns_goes _ _

theorem execGetdcr_goes (s : State) : Goes s (execGetdcr s) := cccReturns_goes _ _

theorem execGetstatus_goes (s : State) : Goes s (execGetstatus s) := cccReturns_goes _ _

theorem execGetmwl_goes (s : State) : Goes s (execGetmwl s) := cccReturns_goes _ _

theorem execGetmrl_goes (s : State) : Goes s (execGetmrl s) := cccReturns_goes _ _

theorem execSetmwl_goes (value : BitVec 16) (s : State) : Goes s (execSetmwl value s) :=
  .next <| .ite (.put rfl <| .refl _) <| .refl _

theorem execSetmrl_goes (value : BitVec 16) (s : State) : Goes s (execSetmrl value s) :=
  .next <| .ite (.put rfl <| .refl _) <| .refl _

theorem execEnec_goes (events : BitVec 8) (s : State) : Goes s (execEnec events s) := .next <| .ite (.put rfl <| .refl _) <| .refl _

theorem execDisec_goes (events : BitVec 8) (s : State) : Goes s (execDisec events s) :=
  .next <| .ite (.put rfl <| .refl _) <| .refl _

theorem vendorMessage_tame (s : State) (src tag : Nat) (b : Bytes) : Tame s (s.vendorMessage src tag b) :=
  .ite (mctpViolation_tame _) <| .ite (.after (mctpViolation_tame _) <| .after (answerI3c_tame _ _ _ _) <|
    countRequest_tame _ _ _ _) <| .put rfl <| .refl _

theorem controlMessage_tame (s : State) (src tag : Nat) (b : Bytes) : Tame s (s.controlMessage src tag b) :=
  .ite (.put rfl <| .refl _) <| sendMctp_tame _ _ _ _

theorem mctpMessage_tame (s : State) (src tag : Nat) (b : Bytes) : Tame s (s.mctpMessage src tag b) := by
  unfold State.mctpMessage
  split
  · exact controlMessage_tame _ _ _ _
  · exact .put rfl <| .refl _
  · exact .put rfl <| .refl _
  · exact vendorMessage_tame _ _ _ _
  · exact mctpViolation_tame _

theorem takePacket_tame (s : State) (p : Bytes) : Tame s (s.takePacket p) := by
  unfold State.takePacket
  split
  · exact .ite (.ite (.after (mctpViolation_tame _) <| .put rfl <| .refl _) <| .ite (.after (mctpMessage_tame _ _ _ _) <|
      .put rfl <| .refl _) <| .put rfl <| .refl _) <| mctpViolation_tame _
  · exact .ite (.after (.ite (.after (mctpViolation_tame _) <| .put rfl <| .refl _) <| .ite (.after (mctpMessage_tame _ _ _ _) <|
      .put rfl <| .refl _) <| .put rfl <| .refl _) <| .after (mctpViolation_tame _) <| .put rfl <| .refl _) <|
      .ite (.ite (.after (mctpViolation_tame _) <| .put rfl <| .refl _) <| .ite (.after (mctpMessage_tame _ _ _ _) <| .put rfl <|
      .refl _) <| .put rfl <| .refl _) <| .after (mctpViolation_tame _) <| .put rfl <| .refl _

theorem execMctpPacket_goes (packet : Bytes) (pecOk : Bool) (s : State) : Goes s (execMctpPacket packet pecOk s) :=
  .next <| .ite (.refl _) <| .ite (.after (takePacket_tame _ _).kept (wake_tame _).kept) (mctpViolation_tame _).kept

theorem execIbiPrivateRead_goes (s : State) : Goes s (execIbiPrivateRead s) := by
  unfold execIbiPrivateRead
  split
  · exact .next <| .refl _
  · exact .next <| .ite (.refl _) <| .after (.ite (.refl _) (raiseIbi_tame _).kept) <| .after (send_tame _ _).kept <| .put rfl <|
      .refl _

theorem controlReply_goes (s : State) (code : Nat) (f : State → Bytes → Bytes × State) (h : ∀ a b, Kept a (f a b).2) :
    Goes s (s.controlReply code f) := by
  unfold State.controlReply
  split
  · exact .next (.refl s)
  · exact .next <| .ite (.refl s) <| .after (sendMctp_tame _ _ _ _).kept <| .after (h _ _) <| .put rfl <| .refl s

theorem execSetEndpointId_goes (s : State) : Goes s (execSetEndpointId s) :=
  controlReply_goes _ _ _ (fun _ _ => kept_snd_ite (.refl _) <| kept_snd_ite (.put rfl <| .refl _) <| .refl _)

theorem execGetEndpointId_goes (s : State) : Goes s (execGetEndpointId s) := controlReply_goes _ _ _ (fun _ _ => .refl _)

theorem execGetMctpVersionSupport_goes (s : State) : Goes s (execGetMctpVersionSupport s) :=
  controlReply_goes _ _ _ (fun _ _ => .refl _)

theorem execGetMessageTypeSupport_goes (s : State) : Goes s (execGetMessageTypeSupport s) :=
  controlReply_goes _ _ _ (fun _ _ => .refl _)

theorem execGetVendorDefinedMessageSupport_goes (s : State) : Goes s (execGetVendorDefinedMessageSupport s) :=
  controlReply_goes _ _ _ (fun _ _ => kept_snd_ite (.refl _) <| kept_snd_ite (.refl _) <| .refl _)

end Sys2Proof.Frame
end

section

/-! ### What the operations of `Machine/Window.lean` leave as it is -/

namespace Sys2Proof.Frame

open Sys2Proof Sys2Proof.Machine

theorem submit_tame (s : State) (fn : Nat) : Tame s (s.submit fn) := .ite (violation_tame _ _ _ _) <| setBox_tame _ _ _

theorem writeBox_tame (s : State) (fn o : Nat) (v : Byte) : Tame s (s.writeBox fn o v) :=
  .ite (setBox_tame _ _ _) <| .ite (setBox_tame _ _ _) <| .ite (submit_tame _ _) <| .refl _

theorem writeHead_tame (s : State) (n o : Nat) (v : Byte) : Tame s (s.writeHead n o v) := .ite (setQueue_tame _ _ _) <| .refl _

theorem writeControl_tame (s : State) (fn k o : Nat) (v : Byte) : Tame s (s.writeControl fn k o v) := by
  unfold State.writeControl
  refine .ite (.after (.ite (control_tame _ _ _ _ (fun _ _ => restartQueue_tame _ _)) <| .refl _) <|
    .after (.ite (control_tame _ _ _ _ (fun _ _ => resetQueue_tame _ _)) <| .refl _) <|
    .ite (control_tame _ _ _ _ (fun _ _ => abortQueue_tame _ _)) <| .refl _) <| .ite ?_ (.refl _)
  split
  · exact writeHead_tame _ _ _ _
  · exact .refl _

theorem writeStatusByte_tame (s : State) (fn o : Nat) (v : Byte) : Tame s (s.writeStatusByte fn o v) :=
  .ite (setFunc_tame _ _ _) <| .ite (setFunc_tame _ _ _) <| .refl _

theorem writeMsix_tame (s : State) (fn i v : Nat) : Tame s (s.writeMsix fn i v) :=
  .ite (.refl _) <| .ite (.ite (setFunc_tame _ _ _) <| unmask_tame _ _ _) <| setFunc_tame _ _ _

theorem writeControlReg_tame (s : State) (fn offset v : Nat) : Tame s (s.writeControlReg fn offset v) :=
  .ite (setFunc_tame _ _ _) <| .ite (setFunc_tame _ _ _) <| .refl _

end Sys2Proof.Frame
end

section

/-! ### The commands that may be a device reset (R436) -/

namespace Sys2Proof.Frame

open Sys2Proof Sys2Proof.Machine

/-- From `s` to `t` the beat counter stays, or is cleared with the keys of the vault; the keys stay or are gone. -/
structure Resets (s t : State) : Prop where
  pending : t.pending = s.pending
  codes : Codes s → Codes t
  keys : t.vault.keys = s.vault.keys ∨ t.vault.keys = []
  beat : t.beat = s.beat ∨ (t.beat = 0 ∧ t.vault.keys = [])

variable {s b t : State}

theorem Resets.trans (h : Resets s b) (k : Resets b t) : Resets s t where
  pending := k.pending.trans h.pending
  codes := fun c => k.codes (h.codes c)
  keys := k.keys.elim (fun e => h.keys.imp e.trans e.trans) .inr
  beat := by
    obtain hb | hb := k.beat
    · refine h.beat.imp hb.trans fun ⟨h0, hk⟩ => ⟨hb.trans h0, ?_⟩
      exact k.keys.elim (·.trans hk) id
    · exact .inr hb

theorem Resets.after (k : Resets b t) (h : Resets s b) : Resets s t := h.trans k

theorem Tame.resets (h : Tame s t) : Resets s t := ⟨h.kept.pending, h.kept.codes, .inl h.keys, .inl h.kept.beat⟩

theorem Resets.refl (s : State) : Resets s s := (Tame.refl s).resets

theorem Resets.ite {c : Prop} [Decidable c] (h : Resets s t) (k : Resets s b) : Resets s (if c then t else b) := by
  split <;> assumption

theorem resets_foldl {α : Type} (f : State → α → State) (h : ∀ a x, Resets a (f a x)) (l : List α) (s : State) :
    Resets s (l.foldl f s) := by
  induction l generalizing s with
  | nil => exact .refl s
  | cons x r ih => exact (h s x).trans (ih _)

theorem clearLc_keys (s : State) : s.clearLc.vault.keys = [] := by
  have h : s.emptyVault.zeroJournal.clearTenants.vault.keys = [] := (clearTenants_tame _).keys
  unfold State.clearLc
  dsimp only
  split
  · exact (advanceAll_tame _).keys.trans h
  · exact h

theorem clearLc_resets (s : State) : Resets s s.clearLc :=
  ⟨(clearLc_steady s).kept.pending, (clearLc_steady s).kept.codes, .inr (clearLc_keys s), .inl (clearLc_steady s).kept.beat⟩

/-- A device reset clears the beat counter and empties the vault. -/
theorem deviceReset_resets (s : State) (cause : Nat) : Resets s (s.deviceReset cause) := by
  have h : Kept s (if s.sec.lcOrder.isSome then s.clearLc else s) := .ite (clearLc_steady s).kept (.refl s)
  refine ⟨h.pending, fun c => ?_, .inr rfl, .inr ⟨rfl, rfl⟩⟩
  obtain ⟨-, -, hl, ho⟩ := h.codes c
  exact ⟨(by decide : mReset ≤ 11), Nat.zero_le _, hl, ho⟩

theorem afterLcOrder_resets (s : State) (slot : Nat) : Resets s (s.afterLcOrder slot) := by
  unfold State.afterLcOrder
  exact .ite (.refl s) <| .ite (clearLc_resets s) <| .after (deviceReset_resets _ _) (clearLc_resets s)

theorem writeCompletion_resets (s : State) (slot : Nat) (j : Job) : Resets s (s.writeCompletion slot j) := by
  unfold State.writeCompletion
  dsimp only
  refine .after (finishLockdown_tame _).resets <| .after (afterLcOrder_resets _ _) <| .after (countLife_tame _ _).resets <|
    .ite (dropJob_tame _ _).resets <| .ite (Tame.resets ?_) (dropCompletion_tame _ _ _).resets
  exact .after (sampleMonitor_tame _ _ _ _) <| .after (interruptFor_tame _ _) <| .after (advanceCq_tame _ _) <|
    .after (dropJob_tame _ _) (send_tame _ _)

theorem ctrlAction_resets (s : State) (b : Nat) : ∀ t, s.ctrlAction b = some t → Resets s t := by
  have ht : ∀ {o : Option State}, TameOpt s o → ∀ t, o = some t → Resets s t := fun h t e => (h t e).resets
  unfold State.ctrlAction
  split
  · exact ht (doQuiesce_tame s)
  · exact ht (doResume_tame s)
  · exact ht (doIdle_tame s)
  · exact ht (doCeremony_tame s)
  · exact ht (doCeremonyExit_tame s)
  · exact ht (doWindowClose_tame s)
  · exact ht (doAssemblyDone_tame s)
  · intro t e
    unfold State.doSoftReset at e
    split at e
    · cases e
      exact deviceReset_resets s 2
    · cases e
  · exact fun t e => nomatch e

theorem ctrlAct_resets (s : State) (b : Nat) : Resets s (s.ctrlAct b) := by
  unfold State.ctrlAct
  split
  case _ t ht =>
    have h := ctrlAction_resets s b t ht
    exact .ite h <| h.trans <| Tame.resets <| .put rfl <| .refl t
  case _ => exact Tame.resets <| .put rfl <| .refl s

theorem ctrl_resets (s : State) (b : Nat) : Resets s (s.ctrl b) := by
  unfold State.ctrl
  dsimp only
  exact .ite (.refl s) <| .ite (Tame.resets <| .put rfl <| .refl s) <| .ite (Tame.resets <| .put rfl <| wake_tame s) (ctrlAct_resets s b)

theorem writeByte_resets (s : State) (fn o : Nat) (v : Byte) : Resets s (s.writeByte fn o v) := by
  unfold State.writeByte
  split
  · exact resets_foldl _ ctrl_resets _ _
  · exact (writeBox_tame _ _ _ _).resets
  · exact (writeControl_tame _ _ _ _ _).resets
  · exact (writeStatusByte_tame _ _ _ _).resets
  · exact .refl s

theorem writeBytes_resets (s : State) (fn o : Nat) (l : Bytes) : Resets s (s.writeBytes fn o l) := by
  induction l generalizing s o with
  | nil => exact .refl s
  | cons v r ih => exact .after (ih _ _) (writeByte_resets s fn o v)

theorem writeWindow_resets (s : State) (fn o : Nat) (data : Bytes) : Resets s (s.writeWindow fn o data) := by
  have h : Resets s ((doorbellWrites fn o data).foldl (fun a x => a.ringDoorbell fn x.1 x.2)
      (((s.wake.writeBytes fn o data).headRefused fn o data).foldl (fun a n => a.violation fn (some n)) (s.wake.writeBytes fn o data))) :=
    .after (tame_foldl _ (fun _ _ => ringDoorbell_tame _ _ _ _) _ _).resets <|
      .after (tame_foldl _ (fun _ _ => violation_tame _ _ _ _) _ _).resets <|
      .after (writeBytes_resets _ _ _ _) (wake_tame s).resets
  unfold State.writeWindow
  exact .ite h <| .after (violation_tame _ _ _ _).resets h

/-- A command completes, and the next state is reached by device resets at most. -/
def Ends (s : State) (o : Host.Outcome State Fault Refusal) : Prop :=
  ∃ t, o = .next t ∧ t.pending = s.pending ∧ (Codes s → Codes t) ∧ (t.beat = s.beat ∨ (t.beat = 0 ∧ t.vault.keys = []))

theorem Ends.next (h : Resets s t) : Ends s (.next t) := ⟨t, rfl, h.pending, h.codes, h.beat⟩

theorem Goes.ends {o : Host.Outcome State Fault Refusal} : Goes s o → Ends s o
  | ⟨t, ht, k⟩ => ⟨t, ht, k.pending, k.codes, .inl k.beat⟩

theorem execCompletionWrite_ends (slot : Fin 4096) (s : State) : Ends s (execCompletionWrite slot s) := by
  unfold execCompletionWrite
  refine .next ?_
  split
  · exact .refl s
  · exact .ite (.refl s) (writeCompletion_resets _ _ _)

theorem execPostedWriteRefused_ends (write : PostedWrite) (s : State) : Ends s (execPostedWriteRefused write s) := by
  unfold execPostedWriteRefused
  refine .next ?_
  split
  · exact .refl s
  · refine .ite (.refl s) ?_
    split
    · exact .after (finishLockdown_tame _).resets <| .after (afterLcOrder_resets _ _) <| .after (countLife_tame _ _).resets
        (dropCompletion_tame _ _ _).resets
    · exact (writeRefused_tame _ _ _).resets
    · exact .ite (outputLost_tame _ _ _).resets (writeRefused_tame _ _ _).resets

theorem execRegisterWrite_ends (fn : Fin 256) (space : RegSpace) (offset : Nat) (data : Bytes) (s : State) :
    Ends s (execRegisterWrite fn space offset data s) := by
  unfold execRegisterWrite
  dsimp only
  split
  · exact .next <| .ite (writeWindow_resets _ _ _ _) (.refl s)
  · exact .next <| .ite (.ite (Tame.after (writeMsix_tame _ _ _ _) (writeMsix_tame _ _ _ _)).resets (writeMsix_tame _ _ _ _).resets)
      (.refl s)
  · exact .next <| .ite (Tame.resets <| .put rfl <| .refl s) (.refl s)
  · exact .next <| .ite (writeControlReg_tame _ _ _ _).resets (.refl s)

theorem execPowerUp_ends (s : State) : Ends s (execPowerUp s) := by
  unfold execPowerUp
  exact .next <| .ite (.refl s) <| .after (deviceReset_resets _ _) (Tame.resets <| .put rfl <| .refl s)

theorem execPerstAssert_ends (s : State) : Ends s (execPerstAssert s) := by
  unfold execPerstAssert
  dsimp only
  exact .next <| .ite (Tame.resets <| .put rfl <| .refl s) <| .ite (Tame.resets <| .put rfl <| .refl s) <|
    .after (deviceReset_resets _ _) (Tame.resets <| .put rfl <| .refl s)

/-- Idle is left for the mode that it was entered from. -/
theorem leaveIdle_tame (s : State) :
    Tame s (({ s with mode := { s.mode with wakeBeat := none, held := [] } }).changeMode s.mode.cameFrom) := by
  have h : Tame s { s with mode := { s.mode with wakeBeat := none, held := [] } } := .put rfl (.refl s)
  exact h.trans (changeMode_of_codes fun c => c.2.1)

theorem execModeRevert_ends (s : State) : Ends s (execModeRevert s) := by
  unfold execModeRevert
  refine .next ?_
  split
  · exact .ite (.after (wakePending_tame _).resets <| .after (resets_foldl _ ctrlAct_resets _ _) (leaveIdle_tame s).resets) (.refl s)
  · exact .refl s

end Sys2Proof.Frame
end

section

/-! ### The beat boundary (R8, R454) -/

namespace Sys2Proof.Frame

open Sys2Proof Sys2Proof.Machine

theorem nextBeat_codes {s : State} (c : Codes s) : Codes s.nextBeat := c

/-- The state after a beat boundary: what is due at the end of the beat is done, and the next beat begins. -/
def boundary (s : State) : State := s.settleOwed.noteJobs.landWrites.nextBeat.beginBeat

theorem execBeatBoundary_next {s : State} (h : s.beat + 1 < 2 ^ 64) :
    exec .beatBoundary s = .next (boundary s) :=
  if_pos h

theorem execBeatBoundary_fault {s : State} (h : 2 ^ 64 ≤ s.beat + 1) : exec .beatBoundary s = .fault .beatCounterEnd :=
  if_neg (Nat.not_lt.mpr h)

/-- What takes effect at the end of a beat leaves the counter for `nextBeat` to advance. -/
theorem landed_kept (s : State) : Kept s s.settleOwed.noteJobs.landWrites :=
  .after (landWrites_kept _) <| .after (noteJobs_steady _).kept (settleOwed_tame s).kept

theorem boundary_beat (s : State) : (boundary s).beat = s.beat + 1 :=
  (beginBeat_steady _).kept.beat.trans (congrArg (· + 1) (landed_kept s).beat)

theorem boundary_pending (s : State) : (boundary s).pending = s.pending :=
  (beginBeat_steady _).kept.pending.trans (landed_kept s).pending

theorem boundary_codes {s : State} (c : Codes s) : Codes (boundary s) :=
  (beginBeat_steady _).kept.codes (nextBeat_codes ((landed_kept s).codes c))

theorem settleOwed_of_nil {s : State} (h : s.rings.owed = []) : s.settleOwed = s := by
  unfold State.settleOwed
  rw [h, List.foldl_nil, ← h]

theorem landWrites_of_nil {s : State} (h : s.dict.late = []) : s.landWrites = s := by
  unfold State.landWrites
  rw [h, List.foldl_nil, ← h]

theorem noteJobs_of_nil {s : State} (h : s.jobs.slots = []) : s.noteJobs = s := by
  unfold State.noteJobs State.slotsWhere
  rw [h]
  rfl

/-- Where no write waits, the boundary lands none. -/
theorem landed_of_nil {s : State} (hl : s.dict.late = []) (ho : s.rings.owed = []) :
    s.settleOwed.noteJobs.landWrites = s.noteJobs := by
  have h : s.noteJobs.dict.late = s.dict.late := congrArg (·.2.1) (noteJobs_steady s).still
  rw [settleOwed_of_nil ho, landWrites_of_nil (h.trans hl)]

/-- The mode, the rings and the vault. -/
def front (s : State) : Nat × RingState × VaultState := (s.mode.mode, s.rings, s.vault)

theorem serve_front (s : State) (i n : Nat) : front (s.serve i n).2 = front s := by
  unfold State.serve
  dsimp only
  split <;> rfl

theorem zeroiseUnits_front (l : List (Nat × Nat)) (s : State) : front (l.foldl State.zeroiseUnit s) = front s := by
  induction l generalizing s with
  | nil => rfl
  | cons x r ih => exact ih _

theorem beginTest_front (s : State) : front s.beginTest = front s := by
  unfold State.beginTest
  split
  · split
    case _ p _ _ _ _ =>
      have h := (serve_front ((partitionUnits p).foldl State.zeroiseUnit s) 261 32).trans (zeroiseUnits_front _ s)
      simp only [front, Prod.mk.injEq] at h ⊢
      exact h
    · rfl
  · rfl

theorem enterNext_of_zero {s : State} (h : s.mode.nextMode = 0) : s.enterNext = s := by
  have e : { s with mode := { s.mode with nextMode := 0 } } = s := by rw [← h]
  unfold State.enterNext
  rw [h, e, if_neg fun c => absurd c.1 (by decide), if_neg fun c => absurd c.1 (by decide)]

theorem openRetrain_of_none {s : State} (h : s.vault.retrainFrom = none) : s.openRetrain = s := by
  unfold State.openRetrain
  rw [h]
  rfl

theorem assignDue_of_nil {s : State} (h : s.jobs.slots = []) : s.assignDue = s := by
  unfold State.assignDue State.owedIndex
  rw [h]
  rfl

theorem reserveDue_of_nil {s : State} (h : s.vault.counters = []) : s.reserveDue = s := by
  unfold State.reserveDue
  rw [h, List.foldl_nil, ite_self]

/-- A beat begun with no job, no change of mode due, no training and no counter to reserve for. -/
theorem beginBeat_front {s : State} (hj : s.jobs.slots = []) (hm : s.mode.nextMode = 0) (hr : s.vault.retrainFrom = none)
    (hc : s.vault.counters = []) : front s.beginBeat = front s := by
  unfold State.beginBeat
  rw [enterNext_of_zero hm, openRetrain_of_none hr, assignDue_of_nil hj, reserveDue_of_nil hc, beginTest_front]
  rfl

theorem boundary_front {s : State} (hl : s.dict.late = []) (ho : s.rings.owed = []) (hj : s.jobs.slots = [])
    (hm : s.mode.nextMode = 0) (hr : s.vault.retrainFrom = none) (hc : s.vault.counters = []) :
    front (boundary s) = front s := by
  unfold boundary
  rw [landed_of_nil hl ho, noteJobs_of_nil hj]
  exact beginBeat_front (s := s.nextBeat) hj hm hr hc

theorem boundary_settings {s : State} (hl : s.dict.late = []) (ho : s.rings.owed = []) :
    (boundary s).settings = s.settings := by
  unfold boundary
  rw [landed_of_nil hl ho]
  exact (congrArg (·.1) (beginBeat_steady s.noteJobs.nextBeat).still).trans (congrArg (·.1) (noteJobs_steady s).still)

theorem boundary_counts (s : State) : (boundary s).jobs.admitted = 0
    ∧ (boundary s).jobs.offered = [] :=
  Prod.mk.inj (congrArg (·.2.2) (beginBeat_steady s.settleOwed.noteJobs.landWrites.nextBeat).still)

end Sys2Proof.Frame
end

section

/-! ### What one command does to the beat counter, the queue and the codes -/

namespace Sys2Proof.Frame

open Sys2Proof Sys2Proof.Machine

/-- Every command but the boundary completes. -/
theorem exec_ends (c : Instr) (s : State) (h : c ≠ .beatBoundary) : Ends s (exec c s) := by
  cases c with
  | doorbellWrite => exact (execDoorbellWrite_goes _ _ _ _).ends
  | headerReadReturn => exact (execHeaderReadReturn_goes _ _ _ _).ends
  | idleRescan => exact (execIdleRescan_goes _ _).ends
  | fetchResume => exact (execFetchResume_goes _ _).ends
  | parameterBlockReturn => exact (execParameterBlockReturn_goes _ _ _ _).ends
  | admission => exact (execAdmission_goes _).ends
  | sgEntryReturn => exact (execSgEntryReturn_goes _ _ _ _).ends
  | inputDataReturn => exact (execInputDataReturn_goes _ _ _ _).ends
  | stagingSpaceFreed => exact (execStagingSpaceFreed_goes _ _).ends
  | fetchEnd => exact (execFetchEnd_goes _ _).ends
  | startRightGrant => exact (execStartRightGrant_goes _ _).ends
  | expansionRun => exact (execExpansionRun_goes _ _).ends
  | stagingEnd => exact (execStagingEnd_goes _ _ _).ends
  | release => exact (execRelease_goes _ _ _).ends
  | chunkRelease => exact (execChunkRelease_goes _ _).ends
  | hbsSliceEnd => exact (execHbsSliceEnd_goes _ _ _).ends
  | wipeEnd => exact (execWipeEnd_goes _ _ _).ends
  | completionWrite => exact execCompletionWrite_ends _ _
  | destroyCompletion => exact (execDestroyCompletion_goes _ _).ends
  | intDelayExpiry => exact (execIntDelayExpiry_goes _ _).ends
  | msixUnmask => exact (execMsixUnmask_goes _ _ _).ends
  | startWaitTimeout => exact (execStartWaitTimeout_goes _ _).ends
  | entropyWaitExpiry => exact (execEntropyWaitExpiry_goes _ _).ends
  | dmaReadFailure => exact (execDmaReadFailure_goes _ _ _).ends
  | dmaRetry => exact (execDmaRetry_goes _ _).ends
  | completionTimeoutExpiry => exact (execCompletionTimeoutExpiry_goes _ _ _).ends
  | postedWriteRefused => exact execPostedWriteRefused_ends _ _
  | violationBucketLeak => exact (execViolationBucketLeak_goes _ _).ends
  | queueAbort => exact (execQueueAbort_goes _ _ _).ends
  | queueReset => exact (execQueueReset_goes _ _ _).ends
  | queueRestart => exact (execQueueRestart_goes _ _ _).ends
  | queueDone => exact (execQueueDone_goes _ _).ends
  | qEnable => exact (execQEnable_goes _ _ _ _).ends
  | registerWrite => exact execRegisterWrite_ends _ _ _ _ _
  | mlkemEncaps => exact (execMlkemEncaps_goes _ _).ends
  | mlkemCheckEk => exact (execMlkemCheckEk_goes _ _).ends
  | mlkemDecaps => exact (execMlkemDecaps_goes _ _).ends
  | mldsaSign => exact (execMldsaSign_goes _ _).ends
  | mldsaSignMu => exact (execMldsaSignMu_goes _ _).ends
  | mldsaVerify => exact (execMldsaVerify_goes _ _).ends
  | mldsaVerifyMu => exact (execMldsaVerifyMu_goes _ _).ends
  | fndsaSign => exact (execFndsaSign_goes _ _).ends
  | fndsaVerify => exact (execFndsaVerify_goes _ _).ends
  | slhdsaSign => exact (execSlhdsaSign_goes _ _).ends
  | slhdsaVerify => exact (execSlhdsaVerify_goes _ _).ends
  | hssSign => exact (execHssSign_goes _ _).ends
  | hssVerify => exact (execHssVerify_goes _ _).ends
  | hssReserve => exact (execHssReserve_goes _ _).ends
  | xmssSign => exact (execXmssSign_goes _ _).ends
  | xmssVerify => exact (execXmssVerify_goes _ _).ends
  | xmssReserve => exact (execXmssReserve_goes _ _).ends
  | hqcEncaps => exact (execHqcEncaps_goes _ _).ends
  | hqcDecaps => exact (execHqcDecaps_goes _ _).ends
  | cmEncaps => exact (execCmEncaps_goes _ _).ends
  | cmDecaps => exact (execCmDecaps_goes _ _).ends
  | rsaOaepEncrypt => exact (execRsaOaepEncrypt_goes _ _).ends
  | rsaOaepDecrypt => exact (execRsaOaepDecrypt_goes _ _).ends
  | rsaPssSign => exact (execRsaPssSign_goes _ _).ends
  | rsaPssVerify => exact (execRsaPssVerify_goes _ _).ends
  | rsaV15Sign => exact (execRsaV15Sign_goes _ _).ends
  | rsaV15Verify => exact (execRsaV15Verify_goes _ _).ends
  | ecdsaSign => exact (execEcdsaSign_goes _ _).ends
  | ecdsaVerify => exact (execEcdsaVerify_goes _ _).ends
  | ecdh => exact (execEcdh_goes _ _).ends
  | ecCheckPoint => exact (execEcCheckPoint_goes _ _).ends
  | eddsaSign => exact (execEddsaSign_goes _ _).ends
  | eddsaVerify => exact (execEddsaVerify_goes _ _).ends
  | xdh => exact (execXdh_goes _ _).ends
  | ecbEnc => exact (execEcbEnc_goes _ _).ends
  | ecbDec => exact (execEcbDec_goes _ _).ends
  | cbcEnc => exact (execCbcEnc_goes _ _).ends
  | cbcDec => exact (execCbcDec_goes _ _).ends
  | ctr => exact (execCtr_goes _ _).ends
  | gcmEnc => exact (execGcmEnc_goes _ _).ends
  | gcmDec => exact (execGcmDec_goes _ _).ends
  | gmacGen => exact (execGmacGen_goes _ _).ends
  | gmacVerify => exact (execGmacVerify_goes _ _).ends
  | ccmEnc => exact (execCcmEnc_goes _ _).ends
  | ccmDec => exact (execCcmDec_goes _ _).ends
  | xtsEnc => exact (execXtsEnc_goes _ _).ends
  | xtsDec => exact (execXtsDec_goes _ _).ends
  | cmacGen => exact (execCmacGen_goes _ _).ends
  | cmacVerify => exact (execCmacVerify_goes _ _).ends
  | kwWrap => exact (execKwWrap_goes _ _).ends
  | kwUnwrap => exact (execKwUnwrap_goes _ _).ends
  | digest => exact (execDigest_goes _ _).ends
  | xof => exact (execXof_goes _ _).ends
  | verifyDigest => exact (execVerifyDigest_goes _ _).ends
  | hmac => exact (execHmac_goes _ _).ends
  | kmac => exact (execKmac_goes _ _).ends
  | verifyMac => exact (execVerifyMac_goes _ _).ends
  | kdfCtr => exact (execKdfCtr_goes _ _).ends
  | hkdf => exact (execHkdf_goes _ _).ends
  | kdfOnestep => exact (execKdfOnestep_goes _ _).ends
  | chachapolyEnc => exact (execChachapolyEnc_goes _ _).ends
  | chachapolyDec => exact (execChachapolyDec_goes _ _).ends
  | asconEnc => exact (execAsconEnc_goes _ _).ends
  | asconDec => exact (execAsconDec_goes _ _).ends
  | asconHash => exact (execAsconHash_goes _ _).ends
  | asconXof => exact (execAsconXof_goes _ _).ends
  | muntjacRecoveryJob => exact (execMuntjacRecoveryJob_goes _ _).ends
  | hkemEncaps => exact (execHkemEncaps_goes _ _).ends
  | hkemDecaps => exact (execHkemDecaps_goes _ _).ends
  | csigSign => exact (execCsigSign_goes _ _).ends
  | csigVerify => exact (execCsigVerify_goes _ _).ends
  | generate => exact (execGenerate_goes _ _).ends
  | destroy => exact (execDestroy_goes _ _).ends
  | derive => exact (execDerive_goes _ _).ends
  | exportWrapped => exact (execExportWrapped_goes _ _).ends
  | importEnvelope => exact (execImportEnvelope_goes _ _).ends
  | attest => exact (execAttest_goes _ _).ends
  | query => exact (execQuery_goes _ _).ends
  | getRandom => exact (execGetRandom_goes _ _).ends
  | getRandomPr => exact (execGetRandomPr_goes _ _).ends
  | streamInit => exact (execStreamInit_goes _ _).ends
  | streamUpdate => exact (execStreamUpdate_goes _ _).ends
  | streamFinal => exact (execStreamFinal_goes _ _).ends
  | streamDiscard => exact (execStreamDiscard_goes _ _).ends
  | vaultExport => exact (execVaultExport_goes _ _).ends
  | vaultPrepare => exact (execVaultPrepare_goes _ _).ends
  | vaultCommit => exact (execVaultCommit_goes _ _).ends
  | nop => exact (execNop_goes _ _).ends
  | fence => exact (execFence_goes _ _).ends
  | echo => exact (execEcho_goes _ _).ends
  | abort => exact (execAbort_goes _ _).ends
  | ownership => exact (execOwnership_goes _ _).ends
  | lcSet => exact (execLcSet_goes _ _).ends
  | domainCreate => exact (execDomainCreate_goes _ _).ends
  | domainRetire => exact (execDomainRetire_goes _ _).ends
  | dictWrite => exact (execDictWrite_goes _ _).ends
  | wheelLoad => exact (execWheelLoad_goes _ _).ends
  | fuseDisable => exact (execFuseDisable_goes _ _).ends
  | forceSource => exact (execForceSource_goes _ _).ends
  | patchMin => exact (execPatchMin_goes _ _).ends
  | entropyStudy => exact (execEntropyStudy_goes _ _).ends
  | herdMembership => exact (execHerdMembership_goes _ _).ends
  | calendarSet => exact (execCalendarSet_goes _ _).ends
  | attestKey => exact (execAttestKey_goes _ _).ends
  | rosterSet => exact (execRosterSet_goes _ _).ends
  | importAuthority => exact (execImportAuthority_goes _ _).ends
  | importKey => exact (execImportKey_goes _ _).ends
  | hbsPartition => exact (execHbsPartition_goes _ _).ends
  | epochAdvance => exact (execEpochAdvance_goes _ _).ends
  | epochSweep => exact (execEpochSweep_goes _ _).ends
  | assemblySweep => exact (execAssemblySweep_goes _).ends
  | statefulRebuild => exact (execStatefulRebuild_goes _ _).ends
  | wheelBoundary => exact (execWheelBoundary_goes _).ends
  | powerCap => exact (execPowerCap_goes _ _).ends
  | stageReset => exact (execStageReset_goes _).ends
  | stageData => exact (execStageData_goes _ _).ends
  | countClear => exact (execCountClear_goes _ _).ends
  | vloadImage => exact (execVloadImage_goes _).ends
  | vloadEmpty => exact (execVloadEmpty_goes _).ends
  | vloadDone => exact (execVloadDone_goes _ _ _).ends
  | journalSlotWritten => exact (execJournalSlotWritten_goes _ _).ends
  | journalRotation => exact (execJournalRotation_goes _).ends
  | commitRequest => exact (execCommitRequest_goes _).ends
  | commitIntervalExpiry => exact (execCommitIntervalExpiry_goes _).ends
  | patrolScrubSlice => exact (execPatrolScrubSlice_goes _ _).ends
  | dramRetrain => exact (execDramRetrain_goes _ _).ends
  | expansionPurgeSlice => exact (execExpansionPurgeSlice_goes _).ends
  | copyAreaFreed => exact (execCopyAreaFreed_goes _ _).ends
  | noiseWindow => exact (execNoiseWindow_goes _ _ _).ends
  | rctFailure => exact (execRctFailure_goes _ _).ends
  | requalificationAttempt => exact (execRequalificationAttempt_goes _ _ _).ends
  | requalPeriodExpiry => exact (execRequalPeriodExpiry_goes _ _).ends
  | conditionedBlock => exact (execConditionedBlock_goes _).ends
  | rootReseed => exact (execRootReseed_goes _).ends
  | maskUnitReseed => exact (execMaskUnitReseed_goes _ _).ends
  | rootAgeExpiry => exact (execRootAgeExpiry_goes _).ends
  | entropyStartupStep => exact (execEntropyStartupStep_goes _ _).ends
  | startupLimitExpiry => exact (execStartupLimitExpiry_goes _).ends
  | studyCaptureEnd => exact (execStudyCaptureEnd_goes _ _).ends
  | studySelect => exact (execStudySelect_goes _ _).ends
  | studyData => exact (execStudyData_goes _).ends
  | studyExit => exact (execStudyExit_goes _).ends
  | meshStep => exact (execMeshStep_goes _ _).ends
  | meshAlarm => exact (execMeshAlarm_goes _ _).ends
  | senseSample => exact (execSenseSample_goes _ _ _).ends
  | senseAlarm => exact (execSenseAlarm_goes _ _).ends
  | chatterBinRoll => exact (execChatterBinRoll_goes _).ends
  | zeroiseRequest => exact (execZeroiseRequest_goes _).ends
  | detectorAlarm => exact (execDetectorAlarm_goes _ _ _).ends
  | aoTempAlarm => exact (execAoTempAlarm_goes _ _).ends
  | vbatLow => exact (execVbatLow_goes _ _).ends
  | vbatFail => exact (execVbatFail_goes _ _).ends
  | aoClock => exact (execAoClock_goes _).ends
  | aoSupplySwitch => exact (execAoSupplySwitch_goes _).ends
  | aoSupplyReturn => exact (execAoSupplyReturn_goes _).ends
  | fuseBurnStep => exact (execFuseBurnStep_goes _ _).ends
  | lockdownHoldClear => exact (execLockdownHoldClear_goes _).ends
  | force => exact (execForce_goes _ _).ends
  | shadowMismatch => exact (execShadowMismatch_goes _ _ _ _).ends
  | microTrapScrub => exact (execMicroTrapScrub_goes _ _ _ _).ends
  | rollingBistStart => exact (execRollingBistStart_goes _).ends
  | unitIsolated => exact (execUnitIsolated_goes _ _ _).ends
  | rollingBistEnd => exact (execRollingBistEnd_goes _ _).ends
  | unitRetest => exact (execUnitRetest_goes _ _).ends
  | maintRequest => exact (execMaintRequest_goes _ _ _).ends
  | maintGrant => exact (execMaintGrant_goes _).ends
  | maintOverdue => exact (execMaintOverdue_goes _ _).ends
  | patchStageReset => exact (execPatchStageReset_goes _).ends
  | patchData => exact (execPatchData_goes _ _).ends
  | patchApply => exact (execPatchApply_goes _).ends
  | patchWindowTimeout => exact (execPatchWindowTimeout_goes _).ends
  | windowClose => exact .next (ctrl_resets s _)
  | powerUp => exact execPowerUp_ends _
  | resetRecordsRead => exact (execResetRecordsRead_goes _ _ _ _).ends
  | memoryBistEnd => exact (execMemoryBistEnd_goes _ _).ends
  | logicBistEnd => exact (execLogicBistEnd_goes _ _).ends
  | aoRecordsStepEnd => exact (execAoRecordsStepEnd_goes _).ends
  | knownAnswerTestsEnd => exact (execKnownAnswerTestsEnd_goes _ _ _).ends
  | bootReset => exact (execBootReset_goes _).ends
  | bootData => exact (execBootData_goes _ _).ends
  | assemblyDone => exact .next (ctrl_resets s _)
  | quiesce => exact .next (ctrl_resets s _)
  | resume => exact .next (ctrl_resets s _)
  | drained => exact (execDrained_goes _).ends
  | softReset => exact .next (ctrl_resets s _)
  | idle => exact .next (ctrl_resets s _)
  | idleDelayExpiry => exact (execIdleDelayExpiry_goes _).ends
  | wake => exact (execWake_goes _).ends
  | modeRevert => exact execModeRevert_ends _
  | ceremony => exact .next (ctrl_resets s _)
  | ceremonyExit => exact .next (ctrl_resets s _)
  | ceremonyTimeout => exact (execCeremonyTimeout_goes _).ends
  | pwrFailAssert => exact (execPwrFailAssert_goes _).ends
  | pwrFailDeassert => exact (execPwrFailDeassert_goes _).ends
  | coreRailsRemoved => exact (execCoreRailsRemoved_goes _).ends
  | perstAssert => exact execPerstAssert_ends _
  | hotReset => exact (execHotReset_goes _ _).ends
  | functionLevelReset => exact (execFunctionLevelReset_goes _ _).ends
  | vfEnableChange => exact (execVfEnableChange_goes _ _ _).ends
  | powerStateChange => exact (execPowerStateChange_goes _ _ _ _).ends
  | barAccessUnmapped => exact (execBarAccessUnmapped_goes _ _).ends
  | aerErrorReceived => exact (execAerErrorReceived_goes _ _).ends
  | ptmRequest => exact (execPtmRequest_goes _).ends
  | ptmResponse => exact (execPtmResponse_goes _ _).ends
  | doeObject => exact (execDoeObject_goes _ _).ends
  | spdmRequest => exact (execSpdmRequest_goes _ _).ends
  | ideKm => exact (execIdeKm_goes _ _ _ _ _).ends
  | ideTlpCheck => exact (execIdeTlpCheck_goes _ _).ends
  | entdaa => exact (execEntdaa_goes _ _).ends
  | rstdaa => exact (execRstdaa_goes _).ends
  | setnewda => exact (execSetnewda_goes _ _).ends
  | getpid => exact (execGetpid_goes _).ends
  | getbcr => exact (execGetbcr_goes _).ends
  | getdcr => exact (execGetdcr_goes _).ends
  | getstatus => exact (execGetstatus_goes _).ends
  | getmwl => exact (execGetmwl_goes _).ends
  | getmrl => exact (execGetmrl_goes _).ends
  | setmwl => exact (execSetmwl_goes _ _).ends
  | setmrl => exact (execSetmrl_goes _ _).ends
  | enec => exact (execEnec_goes _ _).ends
  | disec => exact (execDisec_goes _ _).ends
  | mctpPacket => exact (execMctpPacket_goes _ _ _).ends
  | ibiPrivateRead => exact (execIbiPrivateRead_goes _).ends
  | setEndpointId => exact (execSetEndpointId_goes _).ends
  | getEndpointId => exact (execGetEndpointId_goes _).ends
  | getMctpVersionSupport => exact (execGetMctpVersionSupport_goes _).ends
  | getMessageTypeSupport => exact (execGetMessageTypeSupport_goes _).ends
  | getVendorDefinedMessageSupport => exact (execGetVendorDefinedMessageSupport_goes _).ends
  | read => exact (execRead_goes _ _).ends
  | write => exact (execWrite_goes _ _).ends
  | lock => exact (execLock_goes _ _).ends
  | describe => exact (execDescribe_goes _ _).ends
  | monClear => exact (execMonClear_goes _ _ _).ends
  | measExtend => exact (execMeasExtend_goes _ _).ends
  | monitorSample => exact (execMonitorSample_goes _ _ _ _).ends
  | lifeRecordWrite => exact (execLifeRecordWrite_goes _).ends
  | calendarSecond => exact (execCalendarSecond_goes _).ends
  | portTrained => exact (execPortTrained_goes _ _).ends
  | portLockLoss => exact (execPortLockLoss_goes _ _).ends
  | neighbour => exact (execNeighbour_goes _ _ _).ends
  | hello => exact (execHello_goes _ _ _).ends
  | helloReply => exact (execHelloReply_goes _ _ _).ends
  | finish => exact (execFinish_goes _ _ _).ends
  | announce => exact (execAnnounce_goes _ _ _).ends
  | replicate => exact (execReplicate_goes _ _ _).ends
  | replicateAck => exact (execReplicateAck_goes _ _ _).ends
  | partitionState => exact (execPartitionState_goes _ _ _).ends
  | relayReq => exact (execRelayReq_goes _ _ _).ends
  | relayRsp => exact (execRelayRsp_goes _ _ _).ends
  | beatSync => exact (execBeatSync_goes _ _ _).ends
  | beatSyncReply => exact (execBeatSyncReply_goes _ _ _).ends
  | close => exact (execClose_goes _ _ _).ends
  | herdKeepaliveSend => exact (execHerdKeepaliveSend_goes _).ends
  | herdPeerLost => exact (execHerdPeerLost_goes _).ends
  | herdRetry => exact (execHerdRetry_goes _).ends
  | herdRekey => exact (execHerdRekey_goes _).ends
  | herdHelloTimeout => exact (execHerdHelloTimeout_goes _).ends
  | relayTimeout => exact (execRelayTimeout_goes _).ends
  | herdResyncSlice => exact (execHerdResyncSlice_goes _).ends
  | beatBoundary => exact absurd rfl h
  | pcieLinkUp => exact (execPcieLinkUp_goes _ _ _).ends
  | maskGeneratorNotReady => exact (execMaskGeneratorNotReady_goes _ _).ends
  | ptmDialogueTimeout => exact (execPtmDialogueTimeout_goes _).ends
  | spdmHeartbeatTimeout => exact (execSpdmHeartbeatTimeout_goes _ _ _).ends

theorem Ends.of_next {s t : State} (h : Ends s (.next t)) :
    t.pending = s.pending ∧ (Codes s → Codes t) ∧ (t.beat = s.beat ∨ (t.beat = 0 ∧ t.vault.keys = [])) := by
  obtain ⟨_, ⟨⟩, h⟩ := h
  exact h

theorem exec_next {c : Instr} {s t : State} (h : exec c s = .next t) :
    t.pending = s.pending ∧ (Codes s → Codes t)
      ∧ (t.beat = s.beat ∨ (c = .beatBoundary ∧ s.beat + 1 < 2 ^ 64 ∧ t.beat = s.beat + 1) ∨ (t.beat = 0 ∧ t.vault.keys = [])) := by
  by_cases hc : c = .beatBoundary
  · subst hc
    by_cases hb : s.beat + 1 < 2 ^ 64
    · rw [execBeatBoundary_next hb, Host.Outcome.next.injEq] at h
      subst h
      exact ⟨boundary_pending s, boundary_codes, .inr (.inl ⟨rfl, hb, boundary_beat s⟩)⟩
    · rw [execBeatBoundary_fault (Nat.not_lt.mp hb)] at h
      cases h
  · have he := exec_ends c s hc
    rw [h] at he
    obtain ⟨hp, hk, hb⟩ := he.of_next
    exact ⟨hp, hk, hb.imp_right .inr⟩

theorem good_iff {s : State} : s.Good ↔ s.beat < 2 ^ 64 ∧ Codes s := .rfl

/-- The invariant does not speak of the queue of waiting commands. -/
theorem good_setPending {s : State} (h : s.Good) (l : List Instr) : { s with pending := l }.Good := by
  obtain ⟨hb, hc⟩ := good_iff.mp h
  exact good_iff.mpr ⟨hb, hc⟩

theorem exec_good {c : Instr} {s t : State} (hs : s.Good) (h : exec c s = .next t) : t.Good := by
  obtain ⟨hb, hc⟩ := good_iff.mp hs
  obtain ⟨-, hk, hbeat⟩ := exec_next h
  refine good_iff.mpr ⟨?_, hk hc⟩
  obtain hbeat | ⟨-, hlt, hbeat⟩ | ⟨hbeat, -⟩ := hbeat <;> rw [hbeat]
  · exact hb
  · exact hlt
  · decide

end Sys2Proof.Frame
end

section

/-! ### The scope: the reset state, the invariant and the beat counter (00_scope.md) -/

namespace Sys2Proof.Frame

open Sys2Proof Sys2Proof.Machine

theorem queue_reset (n : Nat) : (State.reset.queue n).state = .disabled := by
  simp [State.queue, State.reset, tget]

theorem bucket_reset (d : Nat) : State.reset.bucket d = 0 := by
  simp [State.bucket, State.reset, tget]

theorem cfgI_reset (idx sub : Nat) : State.reset.cfgI idx sub = dfltOf idx sub := by
  simp [State.cfgI, State.reset, tget]

theorem good_reset : State.reset.Good := by
  simp [State.Good, State.reset]

/-- Settles O51: the tables of the reset state are empty, so a queue, a bucket or an entry reads as its default. -/
theorem resetState : Obligations.ResetState :=
  ⟨rfl, rfl, rfl, rfl, queue_reset, bucket_reset, rfl, rfl, rfl, rfl, rfl, fun _ => rfl, rfl, rfl, rfl, cfgI_reset, rfl, good_reset⟩

/-- Settles O52: a step is one command run on the state without it, and every command keeps the invariant (`exec_good`). -/
theorem goodKept : Obligations.GoodKept := by
  intro s t hs h
  unfold step at h
  split at h
  · cases h
    exact hs
  · exact exec_good (good_setPending hs _) h

/-- Settles O53: `exec_ends` for every command but the boundary, and for the boundary what its parts leave as it is. -/
theorem commandsComplete : Obligations.CommandsComplete := by
  refine ⟨fun c s hc => ?_, fun s hb => ?_, fun s hb => execBeatBoundary_fault hb, fun c s t h => (exec_next h).1⟩
  · obtain ⟨t, ht, -⟩ := exec_ends c s hc
    exact ⟨t, ht⟩
  · obtain ⟨ha, hf⟩ := boundary_counts s
    refine ⟨_, execBeatBoundary_next hb, boundary_beat s, ha, hf, fun hl ho => ⟨boundary_settings hl ho, fun hj hm hr hc => ?_⟩⟩
    have h := boundary_front hl ho hj hm hr hc
    simp only [front, Prod.mk.injEq] at h
    exact h

/-- Settles O54, from what `exec_next` says of the counter. -/
theorem beatOnlyAdvances : Obligations.BeatOnlyAdvances := by
  intro c s t h
  obtain ⟨-, -, hbeat⟩ := exec_next h
  exact hbeat.imp_right (.imp_left fun ⟨hc, _, hb⟩ => ⟨hc, hb⟩)

end Sys2Proof.Frame
end

section

/-! ### Support: what the end of jobs, records and fault events leave as it is -/

namespace Sys2Proof.SlotWheel

open Sys2Proof Sys2Proof.Machine Sys2Proof.Laws

/-! #### What a view of the state sees of a fold or a choice of operations -/

section
variable {α β : Type} (p : State → β)

theorem foldl_keeps (f : State → α → State) (h : ∀ a x, p (f a x) = p a) (l : List α) (s : State) : p (l.foldl f s) = p s := by
  induction l generalizing s with
  | nil => rfl
  | cons x r ih => exact (ih _).trans (h s x)

theorem ite_keeps {c : Prop} [Decidable c] {t u : State} {b : β} (ht : p t = b) (hu : p u = b) : p (if c then t else u) = b := by
  split <;> assumption

end

/-- The state of every engine unit by its key: in use, isolating, isolated or unusable (R99). -/
def unitStates (s : State) (k : Nat) : Nat := ((tget s.jobs.units k).getD {}).state

/-- The mode, the kind of Quiesce, a study that is asked for, and the state of every unit: what the end of jobs leaves. -/
def stance (s : State) : Nat × Nat × Bool × (Nat → Nat) := (s.mode.mode, s.mode.quiesceKind, s.mode.studyPending, unitStates s)

/-- The same with all of the jobs and units and the always-on domain: what a device status record leaves. -/
def board (s : State) : JobState × AoState × Nat × Nat × Bool :=
  (s.jobs, s.ao, s.mode.mode, s.mode.quiesceKind, s.mode.studyPending)

theorem unit_state (s : State) (c u : Nat) : (s.unit c u).state = unitStates s (unitKey c u) := rfl

theorem units_of_jobs {s t : State} (h : t.jobs = s.jobs) : unitStates t = unitStates s := by
  unfold unitStates
  rw [h]

theorem units_of_stance {s t : State} (h : stance t = stance s) : unitStates t = unitStates s := by
  simp only [stance, Prod.mk.injEq] at h
  exact h.2.2.2

theorem stance_of_board {s t : State} (h : board t = board s) : stance t = stance s := by
  simp only [board, Prod.mk.injEq] at h
  obtain ⟨hj, -, hm, hq, hp⟩ := h
  simp only [stance, hm, hq, hp, units_of_jobs hj]

/-! #### Units -/

theorem unit_setUnit_eq (s : State) (c u c' u' : Nat) (v : EngineUnit) :
    (s.setUnit c u v).unit c' u' = if unitKey c' u' = unitKey c u then v else s.unit c' u' := by
  by_cases hk : unitKey c' u' = unitKey c u
  · have h := unit_setUnit s c u v
    rw [if_pos hk]
    simp only [State.unit] at h ⊢
    rw [hk, h]
  · rw [if_neg hk]
    simp only [State.unit, State.setUnit]
    split <;> simp [tget_tdel_other _ hk, tget_tput_other _ _ hk]

theorem unitStates_setUnit {s : State} {c u : Nat} {v : EngineUnit} (h : v.state = (s.unit c u).state) :
    unitStates (s.setUnit c u v) = unitStates s := by
  funext k
  by_cases hk : k = unitKey c u
  · rw [hk, ← unit_state, unit_setUnit, h, unit_state]
  · simp only [unitStates, State.setUnit]
    split <;> simp [tget_tdel_other _ hk, tget_tput_other _ _ hk]

theorem stance_setUnit {s : State} {c u : Nat} {v : EngineUnit} (h : v.state = (s.unit c u).state) :
    stance (s.setUnit c u v) = stance s := by
  have hu := unitStates_setUnit h
  simp only [stance, hu]
  rfl

/-! #### The end of a job (R13, R24, R40) -/

theorem startWipe_stance (s : State) (slot : Nat) (u : Nat × Nat) (b : Nat) : stance (s.startWipe slot u b) = stance s :=
  ite_keeps stance (stance_setUnit rfl) rfl

theorem wipes_stance (l : List (Nat × Nat)) (slot b : Nat) (s : State) :
    stance (l.foldl (fun a u => a.startWipe slot u b) s) = stance s :=
  foldl_keeps stance _ (fun _ _ => startWipe_stance _ _ _ _) l s

theorem setJob_stance (s : State) (n : Nat) (j : Job) : stance (s.setJob n j) = stance s := rfl

theorem onJob_stance (s : State) (n : Nat) (f : Job → Job) : stance (s.onJob n f) = stance s := by
  unfold State.onJob
  split <;> rfl

theorem countBlocks_stance (s : State) (j : Job) : stance (s.countBlocks j) = stance s := ite_keeps stance rfl rfl

theorem countLost_stance (s : State) (j : Job) : stance (s.countLost j) = stance s :=
  ite_keeps stance rfl (ite_keeps stance rfl rfl)

theorem sendOutput_stance (s : State) (slot : Nat) (l : List (Nat × Bytes)) : stance (s.sendOutput slot l) = stance s := by
  unfold State.sendOutput
  exact foldl_keeps stance _ (fun _ _ => by rfl) l s

theorem zeroExposed_stance (s : State) (slot : Nat) : stance (s.zeroExposed slot) = stance s := by
  unfold State.zeroExposed
  split
  · rfl
  · exact ite_keeps stance rfl (ite_keeps stance (sendOutput_stance _ _ _) rfl)

theorem dropCommit_stance (s : State) (slot : Nat) : stance (s.dropCommit slot) = stance s := ite_keeps stance rfl rfl

theorem endStream_stance (s : State) (j : Job) (lost : Bool) : stance (s.endStream j lost) = stance s := by
  unfold State.endStream
  dsimp only
  split <;> rfl

theorem endOwn_stance (s : State) (slot st info b : Nat) : stance (s.endOwn slot st info b) = stance s := by
  unfold State.endOwn
  split
  · rfl
  · rename_i j _
    have h : ∀ (u : State) (l : List (Nat × Nat)) (g : DmaRead → Bool) (j' : Job),
        stance (l.foldl (fun a x => a.startWipe slot x b)
          ((((((((u.setJob slot j').freeHolds slot b).countBlocks j').countLost j).zeroExposed slot).dropWaiting slot).dropCommit
            slot).dropReads g)) = stance u := fun u l g j' =>
      (wipes_stance l slot b _).trans <| (dropCommit_stance _ slot).trans <| (zeroExposed_stance _ slot).trans <|
        (countLost_stance _ j).trans <| (countBlocks_stance _ j').trans rfl
    exact ite_keeps stance ((endStream_stance _ _ _).trans (h _ _ _ _)) (h _ _ _ _)

theorem stopInternal_stance (s : State) (slot b : Nat) : stance (s.stopInternal slot b) = stance s := by
  unfold State.stopInternal
  split
  · rfl
  · exact wipes_stance _ slot b s

theorem takeCheckUnit_stance (s : State) (slot : Nat) : stance (s.takeCheckUnit slot) = stance s := by
  unfold State.takeCheckUnit
  split
  · split
    · exact ite_keeps stance ((setJob_stance _ _ _).trans (stance_setUnit rfl)) rfl
    · rfl
  · rfl

theorem endJob_stance (s : State) (slot st info b : Nat) : stance (s.endJob slot st info b) = stance s := by
  unfold State.endJob
  refine ite_keeps stance ?_ ?_
  · exact (endOwn_stance _ _ _ _ _).trans <| (stopInternal_stance _ _ _).trans <| takeCheckUnit_stance _ _
  · have h := (stopInternal_stance _ slot b).trans
      (ite_keeps stance (c := ((s.job? (slot - 4096)).map (fun j => j.phase == 6)).getD false = true)
        (takeCheckUnit_stance s (slot - 4096)) rfl)
    exact ite_keeps stance ((endOwn_stance _ _ _ _ _).trans h) h

theorem overrule_stance (s : State) (slot : Nat) (j : Job) (st info : Nat) : stance (s.overrule slot j st info) = stance s := by
  refine ite_keeps stance ?_ rfl
  unfold State.dropStream
  split <;> rfl

theorem meetJob_stance (s : State) (slot : Nat) (m : Meet) : stance (s.meetJob slot m) = stance s := by
  unfold State.meetJob
  split
  · rfl
  · cases m with
    | abort => exact ite_keeps stance (endJob_stance _ _ _ _ _) rfl
    | quiesce => exact ite_keeps stance (endJob_stance _ _ _ _ _) rfl
    | halt a => exact ite_keeps stance rfl (ite_keeps stance rfl (endJob_stance _ _ _ _ _))
    | alarm => exact ite_keeps stance (endJob_stance _ _ _ _ _) (overrule_stance _ _ _ _ _)
    | lockdown src => exact ite_keeps stance (endJob_stance _ _ _ _ _) (overrule_stance _ _ _ _ _)

theorem meetAll_stance (s : State) (l : List Nat) (m : Meet) : stance (s.meetAll l m) = stance s :=
  foldl_keeps stance _ (fun _ _ => meetJob_stance _ _ _) l s

/-! #### Device status records and the entry into Quiesce (R437, R438, R450) -/

theorem signal_board (s : State) (f v : Nat) : board (s.signal f v) = board s := ite_keeps board rfl rfl

theorem cause_board (s : State) (f b : Nat) : board (s.cause f b) = board s := ite_keeps board rfl (signal_board _ _ _)

theorem wakeHost_board (s : State) : board s.wakeHost = board s := ite_keeps board rfl rfl

theorem writeRecord_board (s : State) (r : Bytes) (c cls : Nat) (final : Bool) : board (s.writeRecord r c cls final) = board s := by
  unfold State.writeRecord
  split
  · rfl
  · refine (foldl_keeps board _ (fun a d => ?_) _ _).trans ((wakeHost_board _).trans rfl)
    refine ite_keeps board ((cause_board _ _ _).trans ?_) rfl
    exact ite_keeps board rfl rfl

theorem writeStatus_board (s : State) (c src cls : Nat) (final : Bool) (prev : Nat) :
    board (s.writeStatus c src cls final prev) = board s := writeRecord_board _ _ _ _ _

theorem setMode_jobs (s : State) (m : Nat) : (s.setMode m).jobs = s.jobs := ite_keeps State.jobs rfl rfl

theorem setMode_ao (s : State) (m : Nat) : (s.setMode m).ao = s.ao := ite_keeps State.ao rfl rfl

theorem setMode_study (s : State) (m : Nat) : (s.setMode m).mode.studyPending = s.mode.studyPending :=
  ite_keeps (·.mode.studyPending) rfl rfl

theorem changeMode_jobs (s : State) (m : Nat) : (s.changeMode m).jobs = s.jobs :=
  ite_keeps State.jobs rfl <| (congrArg (·.1) (writeStatus_board _ _ _ _ _ _)).trans (setMode_jobs s m)

theorem changeMode_ao (s : State) (m : Nat) : (s.changeMode m).ao = s.ao :=
  ite_keeps State.ao rfl <| (congrArg (·.2.1) (writeStatus_board _ _ _ _ _ _)).trans (setMode_ao s m)

theorem setMode_units (s : State) (m : Nat) : unitStates (s.setMode m) = unitStates s := units_of_jobs (setMode_jobs s m)

theorem quiesceFor_stance (s : State) (k : Nat) :
    stance (s.quiesceFor k) = (mQuiesce, k, s.mode.studyPending, unitStates s) := by
  refine (meetAll_stance _ _ _).trans ?_
  simp only [stance, setMode_mode, setMode_study, Prod.mk.injEq, true_and]
  exact setMode_units s mQuiesce

/-! #### Fault events that name no unit (R404, R410, R440) -/

theorem tget_mapValues {α : Type} (f : α → α) (l : List (Nat × α)) (k : Nat) :
    tget (l.map (fun x => (x.1, f x.2))) k = (tget l k).map f := by
  induction l with
  | nil => rfl
  | cons x r ih =>
    simp only [List.map_cons, tget]
    split <;> simp [ih]

theorem clamp_units (s : State) : unitStates s.clamp = unitStates s := by
  funext k
  have h : tget s.clamp.jobs.units k = _ :=
    tget_mapValues (fun x : EngineUnit => { x.zeroised with busy := false, wipeEnd := 0 }) s.jobs.units k
  simp only [unitStates, h]
  cases tget s.jobs.units k <;> rfl

theorem finishLockdown_units (s : State) : unitStates s.finishLockdown = unitStates s := by
  unfold State.finishLockdown
  split
  · rfl
  · refine ite_keeps unitStates ?_ rfl
    refine (foldl_keeps unitStates _ (fun _ _ => units_of_stance (stance_of_board (signal_board _ _ _))) _ _).trans ?_
    exact units_of_stance (stance_of_board (writeRecord_board _ _ _ _ _))

theorem lockdown_units (s : State) (src cls : Nat) : unitStates (s.lockdown src cls) = unitStates s :=
  (finishLockdown_units _).trans <| (clamp_units _).trans <| (units_of_stance (meetAll_stance _ _ _)).trans <| setMode_units _ _

theorem faultJob_units (s : State) (n : Nat) : unitStates (s.faultJob n) = unitStates s := by
  unfold State.faultJob
  split
  · rfl
  · exact ite_keeps unitStates (units_of_stance (endJob_stance _ _ _ _ _)) (ite_keeps unitStates rfl rfl)

theorem worsen_units (s : State) (cls : Nat) : unitStates (s.worsen cls) = unitStates s :=
  units_of_stance (meetAll_stance _ _ _)

theorem writeStatus_units (s : State) (c src cls : Nat) (final : Bool) (prev : Nat) :
    unitStates (s.writeStatus c src cls final prev) = unitStates s :=
  units_of_stance (stance_of_board (writeStatus_board _ _ _ _ _ _))

theorem quiesceFor_units (s : State) (k : Nat) : unitStates (s.quiesceFor k) = unitStates s :=
  congrArg (·.2.2.2) (quiesceFor_stance s k)

/-- The response to an event that names no unit leaves the state of every unit: what it does to jobs and to the mode is their end and
a drain. -/
theorem respond_units {n : Named} (hn : n.unit = none) (s : State) (src cls : Nat) :
    unitStates (s.respond src cls n) = unitStates s := by
  unfold State.respond
  extract_lets prev s1 s2 s3
  have h1 : unitStates s1 = unitStates s := by
    refine ite_keeps unitStates ?_ rfl
    cases n.slot
    · rfl
    · exact faultJob_units _ _
  have h2 : unitStates s2 = unitStates s := by
    have e : s2 = s1 := by simp only [s2, hn, ite_self]
    rw [e, h1]
  have h3 : unitStates s3 = unitStates s :=
    ite_keeps unitStates ((writeStatus_units _ _ _ _ _ _).trans <| (ite_keeps unitStates (setMode_units _ _) rfl).trans h2) h2
  have h4 : unitStates (if cls = 5 ∧ src ≠ 0x11 then s3.eraseSeed else s3) = unitStates s := ite_keeps unitStates h3 h3
  refine ite_keeps unitStates h3 (ite_keeps unitStates ?_ ?_)
  · exact ite_keeps unitStates h3 <| ite_keeps unitStates ((writeStatus_units _ _ _ _ _ _).trans h3) <|
      (writeStatus_units _ _ _ _ _ _).trans <| (quiesceFor_units _ _).trans h3
  · exact ite_keeps unitStates h4 <| ite_keeps unitStates (ite_keeps unitStates ((worsen_units _ _).trans h4) h4) <|
      (lockdown_units _ _ _).trans h4

theorem wake_jobs (s : State) : s.wake.jobs = s.jobs := ite_keeps State.jobs rfl rfl

theorem countFault_jobs (s : State) (src : Nat) : (s.countFault src).jobs = s.jobs := by
  unfold State.countFault
  split <;> rfl

theorem raise_units {n : Named} (hn : n.unit = none) (s : State) (src : Nat) :
    unitStates (s.raise src n) = unitStates s := by
  refine ite_keeps unitStates rfl ((respond_units hn _ _ _).trans ?_)
  exact units_of_jobs <| (wake_jobs _).trans <| ite_keeps State.jobs (countFault_jobs _ _) (countFault_jobs _ _)

theorem mismatch_units (s : State) (i : Nat) : unitStates (s.mismatch i) = unitStates s := by
  refine (raise_units rfl _ _).trans (ite_keeps unitStates ?_ rfl)
  unfold State.moveInstance
  dsimp only
  split <;> rfl

end Sys2Proof.SlotWheel
end

section

/-! ### Rolling self-test (R99, R391, R414, R418, R419) -/

namespace Sys2Proof.SlotWheel

open Sys2Proof Sys2Proof.Machine Sys2Proof.Laws

/-! #### Requests for the arbiter (R431) -/

theorem wake_maint (s : State) : s.wake.maint = s.maint := ite_keeps State.maint rfl rfl

theorem wake_domains (s : State) : s.wake.domains = s.domains := ite_keeps State.domains rfl rfl

theorem wake_selfTest (s : State) : s.wake.selfTest = s.selfTest := ite_keeps State.selfTest rfl rfl

theorem wake_of_awake {s : State} (h : s.mode.mode ≠ mIdle) : s.wake = s := if_neg fun c => h c.1

/-- The state with a request in the queue. -/
def queued (s : State) (act who : Nat) : State :=
  { s with maint := { s.maint with queue := queueRequest s.maint.queue { act := act, beat := s.beat, who := who } } }

theorem ask_of_free {s : State} {act who : Nat} (h : s.maint.queue.any (fun r => r.act == act && r.who == who) = false) :
    s.ask act who = (queued s act who).wake := by
  unfold State.ask
  rw [h]
  rfl

theorem request_of_free {s : State} {act who : Nat} (h : s.maintPending act who = false) :
    s.request act who = (queued s act who).wake := by
  obtain ⟨hq, hg⟩ := Bool.or_eq_false_iff.mp h
  unfold State.request
  rw [hg]
  exact ask_of_free hq

/-- A partition that is due is requested, and the rotation goes on behind it (R418). -/
theorem execRollingBistStart_requests {s : State} {p : Nat} (hperiod : s.cfg 0x6900 1 ≠ 0) (hserves : s.serves = true)
    (hdue : secBeats (s.cfg 0x6900 1) ≤ 42 * (s.beat - s.selfTest.lastRolling))
    (hnext : s.nextPartition s.selfTest.rollingNext = some p) (hfree : s.maintPending maRolling p = false) :
    execRollingBistStart s = .next (queued { s with selfTest :=
      { s.selfTest with rollingNext := (p + 1) % 42, lastRolling := s.beat } } maRolling p).wake := by
  unfold execRollingBistStart
  have hnot : ¬(s.cfg 0x6900 1 = 0 ∨ (!s.serves) = true ∨ 42 * (s.beat - s.selfTest.lastRolling) < secBeats (s.cfg 0x6900 1)) := by
    rw [hserves]
    rintro (h | h | h)
    · exact hperiod h
    · cases h
    · omega
  dsimp only
  rw [if_neg hnot, hnext]
  exact congrArg Host.Outcome.next (request_of_free hfree)

theorem retest_of_unusable {s : State} {v : Nat} (hp : partitionOf (v / 256) (v % 256) < 42)
    (hu : s.partitionUnusable (partitionOf (v / 256) (v % 256)) = true)
    (hfree : s.maint.queue.any (fun r => r.act == maRolling && r.who == partitionOf (v / 256) (v % 256)) = false) :
    s.retest v = some (queued { s with selfTest := { s.selfTest with
      retestState := 1, retestPartition := partitionOf (v / 256) (v % 256) } } maRolling (partitionOf (v / 256) (v % 256))).wake :=
  (if_pos ⟨hp, hu⟩).trans (congrArg some (ask_of_free hfree))

theorem retest_eq_none {s : State} {v : Nat}
    (h : 42 ≤ partitionOf (v / 256) (v % 256) ∨ s.partitionUnusable (partitionOf (v / 256) (v % 256)) = false) :
    s.retest v = none := by
  refine if_neg fun ⟨hp, hu⟩ => ?_
  obtain h | h := h
  · omega
  · rw [← State.partitionUnusable, h] at hu
    cases hu

/-! #### Isolation (R99, R415) -/

theorem zeroiseUnits_units (l : List (Nat × Nat)) (s : State) : unitStates (l.foldl State.zeroiseUnit s) = unitStates s :=
  foldl_keeps unitStates _ (fun _ _ => by exact unitStates_setUnit rfl) l s

theorem serve_jobs (s : State) (i n : Nat) : (s.serve i n).2.jobs = s.jobs := by
  unfold State.serve
  dsimp only
  exact ite_keeps (fun t : State => (t.setDrbg _ _).jobs) rfl rfl

/-- A test that begins zeroises its units and leaves each in its state. -/
theorem beginTest_units (s : State) : unitStates s.beginTest = unitStates s := by
  unfold State.beginTest
  split
  · split
    case _ p _ _ _ _ =>
      exact (units_of_jobs (serve_jobs _ 261 32)).trans (zeroiseUnits_units (partitionUnits p) s)
    · rfl
  · rfl

/-- A unit that is asked for and idle comes to be isolated, whether the test of its partition then begins or waits (R418). -/
theorem execUnitIsolated_isolates {s : State} {cls : Fin 8} {unit : Fin 16} (bad : Bool) (h1 : (s.unit cls.val unit.val).state = 1)
    (hi : s.idleUnit cls.val unit.val = true) :
    ∃ t, execUnitIsolated cls (unit, bad) s = .next t ∧ (t.unit cls.val unit.val).state = 2 := by
  unfold execUnitIsolated
  refine ⟨_, rfl, ?_⟩
  dsimp only
  rw [if_pos ⟨h1, hi⟩]
  have h2 : unitStates (s.setUnit cls.val unit.val ((s.unit cls.val unit.val).turn 2 s.beat)) (unitKey cls.val unit.val) = 2 := by
    rw [← unit_state, unit_setUnit]
    rfl
  rw [unit_state]
  refine Eq.trans (congrFun ?_ _) h2
  split
  · exact mismatch_units _ _
  · exact beginTest_units _

/-! #### The end of a test (R391, R418) -/

/-- The record of a test that has ended, before its units return or fail. -/
def testEnded (s : State) (retest passed : Bool) : State :=
  let s1 := s.endGrant maRolling
  { s1 with selfTest := { s1.selfTest with
      testing := none, testBegun := false, seed := [],
      retestState := if retest then (if passed then 3 else 4) else s1.selfTest.retestState,
      rollingPasses := if passed then bump 32 s1.selfTest.rollingPasses 1 else s1.selfTest.rollingPasses,
      rollingFails := if passed then s1.selfTest.rollingFails else bump 32 s1.selfTest.rollingFails 1 } }

theorem execRollingBistEnd_of_due {s : State} {p began : Nat} {retest : Bool} (ht : s.selfTest.testing = some (p, began, retest))
    (hb : s.selfTest.testBegun = true) (hd : began + 15625 ≤ s.beat) (passed : Bool) (n : Fin 17) (failed : Bool) :
    execRollingBistEnd (passed, n, failed) s = .next (
      let t := (testEnded s retest passed).noteInjections n.val failed p
      if passed then (t.returnUnits p retest).regain else t.failPartition p 0xB3) := by
  unfold execRollingBistEnd
  have hnot : ¬((!s.selfTest.testBegun || decide (s.beat < began + 15625)) = true) := by
    rw [hb]
    simpa using hd
  dsimp only
  rw [ht]
  dsimp only
  rw [if_neg hnot]
  rfl

theorem noteInjections_passed (s : State) (n d : Nat) :
    s.noteInjections n false d = { s with ao := { s.ao with detectorTests := bump 32 s.ao.detectorTests n } } := rfl

theorem noteInjections_failed_counts {s : State} (h : s.mode.mode ≠ mDormant) (n d : Nat) :
    countOf (s.noteInjections n true d).fault.counts 0x30 = bump 32 (countOf s.fault.counts 0x30) 1 := by
  have e := raise_counts { s with ao := { s.ao with detectorTests := bump 32 s.ao.detectorTests n } } 0x30 { detail := d } h
  exact (congrArg (countOf · 0x30) e).trans (countOf_countAdd_same _ _ _ _)

/-- Units that are set in turn to values in use and tested at `b` are so at the end, as is one that was so before. -/
theorem foldl_setUnit_returned {f : State → Nat × Nat → EngineUnit} {b : Nat}
    (hf : ∀ a x, (f a x).state = 0 ∧ (f a x).lastTest = b) (l : List (Nat × Nat)) (s : State) (u : Nat × Nat)
    (hu : u ∈ l ∨ (s.unit u.1 u.2).state = 0 ∧ (s.unit u.1 u.2).lastTest = b) :
    ((l.foldl (fun a x => a.setUnit x.1 x.2 (f a x)) s).unit u.1 u.2).state = 0
      ∧ ((l.foldl (fun a x => a.setUnit x.1 x.2 (f a x)) s).unit u.1 u.2).lastTest = b := by
  induction l generalizing s with
  | nil => exact hu.resolve_left List.not_mem_nil
  | cons x r ih =>
    refine ih _ ?_
    rw [unit_setUnit_eq]
    obtain hu | hu := hu
    · obtain rfl | hr := List.mem_cons.mp hu
      · exact .inr (by rw [if_pos rfl]; exact hf _ _)
      · exact .inl hr
    · right
      split
      · exact hf _ _
      · exact hu

/-- The units of a partition return to use, but for an unusable one after a test that is no retest (R418, R419). -/
theorem returnUnits_unit (s : State) (p : Nat) (retest : Bool) {u : Nat × Nat} (hu : u ∈ partitionUnits p)
    (hr : retest = true ∨ (s.unit u.1 u.2).state ≠ 3) :
    ((s.returnUnits p retest).unit u.1 u.2).state = 0 ∧ ((s.returnUnits p retest).unit u.1 u.2).lastTest = s.beat := by
  refine foldl_setUnit_returned (fun _ _ => by exact ⟨rfl, rfl⟩) _ s u (.inl (List.mem_filter.mpr ⟨hu, ?_⟩))
  simpa using hr

theorem returnUnits_quiet (s : State) (p : Nat) (retest : Bool) : Quiet s (s.returnUnits p retest) :=
  quiet_foldl _ (fun _ _ => setUnit_quiet _ _ _ _) _ s

theorem returnUnits_ao (s : State) (p : Nat) (retest : Bool) : (s.returnUnits p retest).ao = s.ao :=
  foldl_keeps State.ao _ (fun _ _ => by rfl) _ s

theorem regain_quiet (s : State) : Quiet s s.regain := by
  unfold State.regain
  split
  · exact changeMode_quiet _ _
  · exact quiet_refl s

theorem regain_ao (s : State) : s.regain.ao = s.ao := ite_keeps State.ao (changeMode_ao _ _) rfl

theorem regain_jobs (s : State) : s.regain.jobs = s.jobs := ite_keeps State.jobs (changeMode_jobs _ _) rfl

theorem regain_unit (s : State) (c u : Nat) : s.regain.unit c u = s.unit c u := by
  unfold State.unit
  rw [regain_jobs]

theorem returned_quiet (s : State) (p : Nat) (retest : Bool) : Quiet s (s.returnUnits p retest).regain :=
  quiet_trans (returnUnits_quiet _ _ _) (regain_quiet _)

theorem marks_quiet (l : List (Nat × Nat)) (src : Nat) (g : Prop) [Decidable g] (s : State) :
    Quiet s (l.foldl (fun a x => if g then a.markUnusable x.1 x.2 src else a) s) := by
  refine quiet_foldl _ (fun a x => ?_) l s
  split
  · exact markUnusable_quiet _ _ _ _
  · exact quiet_refl a

/-- A partition that fails raises its source, and what follows marks units. -/
theorem failPartition_raises (s : State) (p src : Nat) :
    Quiet (s.raise src { unit := (partitionUnits p).head?, detail := p }) (s.failPartition p src) := marks_quiet _ _ _ _

theorem failPartition_selfTest (s : State) (p src : Nat) : (s.failPartition p src).selfTest = s.selfTest :=
  (calm_selfTest (quiet_calm (failPartition_raises s p src))).trans (calm_selfTest (raise_calm _ _ _))

theorem raise_counts_other (s : State) {k src : Nat} (n : Named) (h : k ≠ src) :
    countOf (s.raise src n).fault.counts k = countOf s.fault.counts k := by
  by_cases hd : s.mode.mode = mDormant
  · rw [State.raise, State.raiseAt, if_pos hd]
  · rw [raise_counts _ _ _ hd, countOf_countAdd_other _ _ _ h]

theorem failPartition_counts (s : State) {k src : Nat} (p : Nat) (h : k ≠ src) :
    countOf (s.failPartition p src).fault.counts k = countOf s.fault.counts k := by
  rw [quiet_fault (failPartition_raises s p src), raise_counts_other _ _ h]

section
variable {s : State} {p began : Nat} {retest : Bool} (ht : s.selfTest.testing = some (p, began, retest))
  (hb : s.selfTest.testBegun = true) (hd : began + 15625 ≤ s.beat)
include ht hb hd

/-- A test that passes, with every injection path of its detectors passing (R391, R418). -/
theorem execRollingBistEnd_passes (n : Fin 17) : ∃ t, execRollingBistEnd (true, n, false) s = .next t ∧ t.selfTest.testing = none
    ∧ t.selfTest.rollingPasses = bump 32 s.selfTest.rollingPasses 1
    ∧ t.selfTest.retestState = (if retest then 3 else s.selfTest.retestState)
    ∧ t.ao.detectorTests = bump 32 s.ao.detectorTests n.val
    ∧ ∀ u ∈ partitionUnits p, retest = true ∨ (s.unit u.1 u.2).state ≠ 3 →
        (t.unit u.1 u.2).state = 0 ∧ (t.unit u.1 u.2).lastTest = s.beat := by
  refine ⟨_, execRollingBistEnd_of_due ht hb hd true n false, ?_⟩
  dsimp only
  rw [if_pos rfl, noteInjections_passed]
  generalize he : ({ testEnded s retest true with ao := _ } : State) = e
  have hst : ((e.returnUnits p retest).regain).selfTest = e.selfTest := calm_selfTest (quiet_calm (returned_quiet e p retest))
  refine ⟨?_, ?_, ?_, ?_, fun u hu hr => ?_⟩
  · rw [hst, ← he]; rfl
  · rw [hst, ← he]; rfl
  · rw [hst, ← he]; rfl
  · rw [regain_ao, returnUnits_ao, ← he]; rfl
  · rw [regain_unit]
    subst he
    exact returnUnits_unit _ p retest hu hr

/-- A test that fails (R418). -/
theorem execRollingBistEnd_fails (n : Fin 17) : ∃ t, execRollingBistEnd (false, n, false) s = .next t ∧ t.selfTest.testing = none
    ∧ t.selfTest.rollingFails = bump 32 s.selfTest.rollingFails 1
    ∧ t.selfTest.retestState = (if retest then 4 else s.selfTest.retestState) := by
  refine ⟨_, execRollingBistEnd_of_due ht hb hd false n false, ?_⟩
  dsimp only
  rw [if_neg Bool.false_ne_true, failPartition_selfTest, noteInjections_passed]
  exact ⟨rfl, rfl, rfl⟩

/-- A failed injection counts as an event of DETECTOR_TEST, whether the test passed or not (R391). -/
theorem execRollingBistEnd_counts_injection (passed : Bool) (n : Fin 17) (hm : s.mode.mode ≠ mDormant) :
    ∃ t, execRollingBistEnd (passed, n, true) s = .next t
      ∧ countOf t.fault.counts 0x30 = bump 32 (countOf s.fault.counts 0x30) 1 := by
  refine ⟨_, execRollingBistEnd_of_due ht hb hd passed n true, ?_⟩
  have hc := noteInjections_failed_counts (s := testEnded s retest passed) hm n.val p
  cases passed with
  | true => exact (congrArg (countOf ·.counts 0x30) (quiet_fault (returned_quiet _ p retest))).trans hc
  | false => exact (failPartition_counts _ p (by decide)).trans hc

end

/-- Settles O31: the rotation, the isolation of a unit, the end of a test and the retest, each by the lemma about its command. -/
theorem rollingTest : Obligations.RollingTest := by
  refine ⟨fun s p hperiod hserves hdue hnext hfree => ?_, fun s cls unit bad => execUnitIsolated_isolates bad,
    fun s p began retest ht hb hd n => ⟨execRollingBistEnd_passes ht hb hd n, execRollingBistEnd_fails ht hb hd n,
      fun passed hm => execRollingBistEnd_counts_injection ht hb hd passed n hm⟩, fun s v => ⟨fun hp hu hfree => ?_, fun h => ?_⟩⟩
  · refine ⟨_, execRollingBistStart_requests hperiod hserves hdue hnext hfree, ?_⟩
    rw [wake_maint, wake_selfTest]
    exact ⟨rfl, rfl, rfl⟩
  · refine ⟨_, congrArg (fun o : Option State => Host.Outcome.next (o.getD s)) (retest_of_unusable hp hu hfree), ?_⟩
    rw [Option.getD_some, wake_maint, wake_selfTest]
    exact ⟨rfl, rfl, rfl⟩
  · exact congrArg (fun o : Option State => Host.Outcome.next (o.getD s)) (retest_eq_none h)

end Sys2Proof.SlotWheel
end

section

/-! ### The slot wheel: boundaries, tiers and staging (R87, R89, R96, R98, R101, R104, R105) -/

namespace Sys2Proof.SlotWheel

open Sys2Proof Sys2Proof.Machine Sys2Proof.Laws

/-! #### What takes effect at position 0 (R87, R100, R101) -/

/-- The beat and the wheel. -/
def turning (s : State) : Nat × WheelState := (s.beat, s.wheel)

theorem turning_of_quiet {s t : State} (h : Quiet s t) : turning t = turning s := by
  simp only [turning, calm_beat (quiet_calm h), calm_wheel (quiet_calm h)]

theorem sampleOccupancy_turning (s : State) : turning s.sampleOccupancy = turning s :=
  foldl_keeps turning _ (fun _ _ => by rfl) _ s

theorem sendFragment_turning (s : State) (dst typ : Nat) (enc : Bool) (msg frag count : Nat) (data : Bytes) :
    turning (s.sendFragment dst typ enc msg frag count data) = turning s := by
  unfold State.sendFragment
  split <;> rfl

theorem sendFragments_turning (dst typ : Nat) (enc : Bool) (msg count k : Nat) (l : List Bytes) (s : State) :
    turning (s.sendFragments dst typ enc msg count k l) = turning s := by
  induction l generalizing s k with
  | nil => rfl
  | cons b r ih => exact (ih _ _).trans (sendFragment_turning _ _ _ _ _ _ _ _)

theorem beatSync_turning (s : State) : turning s.beatSync = turning s := by
  unfold State.beatSync
  split
  · exact ite_keeps turning rfl (sendFragments_turning _ _ _ _ _ _ _ _)
  · rfl

/-- A wheel that swaps (R100 step 7, R101): the staged image runs, in a tier chosen afresh, and the swap is counted. -/
def swapped (w : WheelState) (beat tier changes : Nat) : WheelState :=
  { w with image := some w.staged, source := 1, digest := w.stageDigest, borrower := [], tier := tier, tierNext := 0xFF, running := true,
           tierChanges := changes, swapState := 0, swapCount := bump 32 w.swapCount 1, swapBeat := beat, bootDigest := w.stageDigest }

/-- A wheel that takes the tier of a new power cap, where there is one (R98). -/
def retiered (w : WheelState) : WheelState :=
  if w.tierNext = 0xFF then w else { w with tier := w.tierNext, tierNext := 0xFF, tierChanges := bump 32 w.tierChanges 1 }

theorem swapWheel_turning (s : State) : ∃ tier changes, turning s.swapWheel = (s.beat, swapped s.wheel s.beat tier changes) :=
  ⟨_, _, turning_of_quiet (endStranded_quiet _)⟩

theorem newTier_turning (s : State) : turning s.newTier = (s.beat, retiered s.wheel) := by
  unfold State.newTier retiered
  split <;> rfl

/-- The state whose last position is held no more, and whose occupancy is sampled. -/
theorem sampled_turning (s : State) :
    turning { s.sampleOccupancy with wheel := { s.sampleOccupancy.wheel with holding := false } }
      = (s.beat, { s.wheel with holding := false }) := by
  have h := sampleOccupancy_turning s
  simp only [turning, Prod.mk.injEq] at h ⊢
  rw [h.1, h.2]
  exact ⟨rfl, rfl⟩

theorem atBoundary_swaps {s : State} (h : s.wheel.swapState = 3) :
    ∃ tier changes, turning s.atBoundary = (s.beat, swapped { s.wheel with holding := false } s.beat tier changes) := by
  obtain ⟨hb, hw⟩ := Prod.mk.inj (sampled_turning s)
  have h3 : s.sampleOccupancy.wheel.swapState = 3 := (congrArg (·.swapState) hw).trans h
  obtain ⟨tier, changes, hs⟩ := swapWheel_turning
    { s.sampleOccupancy with wheel := { s.sampleOccupancy.wheel with holding := false } }
  refine ⟨tier, changes, (beatSync_turning _).trans ?_⟩
  rw [if_pos h3, hs, hw, hb]

theorem atBoundary_retiers {s : State} (h : s.wheel.swapState ≠ 3) :
    turning s.atBoundary = (s.beat, retiered { s.wheel with holding := false }) := by
  obtain ⟨hb, hw⟩ := Prod.mk.inj (sampled_turning s)
  have h3 : ¬s.sampleOccupancy.wheel.swapState = 3 := fun e => h ((congrArg (·.swapState) hw).symm.trans e)
  refine (beatSync_turning _).trans ?_
  rw [if_neg h3, newTier_turning, hw, hb]

/-- What takes effect at position 0 moves neither the beat nor the wheel's offset. -/
theorem atBoundary_offset (s : State) : s.atBoundary.beat = s.beat ∧ s.atBoundary.wheel.offset = s.wheel.offset
    ∧ s.atBoundary.wheel.align = s.wheel.align := by
  by_cases h : s.wheel.swapState = 3
  · obtain ⟨tier, changes, hs⟩ := atBoundary_swaps h
    obtain ⟨hb, hw⟩ := Prod.mk.inj hs
    rw [hb, hw]
    exact ⟨rfl, rfl, rfl⟩
  · obtain ⟨hb, hw⟩ := Prod.mk.inj (atBoundary_retiers h)
    rw [hb, hw]
    unfold retiered
    split <;> exact ⟨rfl, rfl, rfl⟩

/-! #### The boundary and offset steps (R87, R89) -/

/-- A wheel that a step of the offset has moved (R89). -/
def stepped (s : State) (d : Int) (held : Bool) : State :=
  { s with wheel := { s.wheel with offset := s.wheel.offset + d, align := 0, holding := held } }

theorem position_eq (s : State) : s.position = (((s.beat : Int) + s.wheel.offset) % 4096).toNat := rfl

section
variable {s : State} (hr : s.wheel.running = true)
include hr

theorem execWheelBoundary_at_zero (hp : s.position = 0) (ha : s.wheel.align = 0) : execWheelBoundary s = .next s.atBoundary := by
  simp [execWheelBoundary, hr, hp, ha]

theorem execWheelBoundary_skips (hp : s.position = 4095) (ha : 0 < s.wheel.align) :
    execWheelBoundary s = .next (stepped s 1 false).atBoundary := by
  simp [execWheelBoundary, hr, hp, ha, stepped]

theorem execWheelBoundary_holds (hp : s.position = 0) (ha : s.wheel.align < 0) (hh : s.wheel.holding = false) :
    execWheelBoundary s = .next (stepped s (-1) true) := by
  simp [execWheelBoundary, hr, hp, ha, hh, stepped]

end

theorem position_skipped {s : State} (hp : s.position = 4095) : (stepped s 1 false).atBoundary.position = 0 := by
  obtain ⟨hb, ho, -⟩ := atBoundary_offset (stepped s 1 false)
  rw [position_eq] at hp ⊢
  rw [hb, ho]
  simp only [stepped]
  omega

theorem position_held {s : State} (hp : s.position = 0) : (stepped s (-1) true).position = 4095 := by
  rw [position_eq] at hp ⊢
  simp only [stepped]
  omega

/-- At position 0 a granted swap takes effect, and otherwise a pending tier. -/
theorem wheelBoundary_effects (s : State) (hr : s.wheel.running = true) (hp : s.position = 0) (ha : s.wheel.align = 0) :
    (s.wheel.swapState = 3 → ∃ t, exec .wheelBoundary s = .next t ∧ t.wheel.image = some s.wheel.staged ∧ t.wheel.source = 1
      ∧ t.wheel.swapState = 0 ∧ t.wheel.swapCount = bump 32 s.wheel.swapCount 1 ∧ t.wheel.bootDigest = s.wheel.stageDigest
      ∧ t.wheel.swapBeat = s.beat ∧ t.wheel.borrower = [])
    ∧ (s.wheel.swapState ≠ 3 → s.wheel.tierNext ≠ 0xFF → ∃ t, exec .wheelBoundary s = .next t ∧ t.wheel.tier = s.wheel.tierNext
      ∧ t.wheel.tierNext = 0xFF ∧ t.wheel.tierChanges = bump 32 s.wheel.tierChanges 1 ∧ t.wheel.image = s.wheel.image) := by
  refine ⟨fun h => ?_, fun h ht => ?_⟩ <;> refine ⟨_, execWheelBoundary_at_zero hr hp ha, ?_⟩
  · obtain ⟨tier, changes, hs⟩ := atBoundary_swaps h
    rw [(Prod.mk.inj hs).2]
    exact ⟨rfl, rfl, rfl, rfl, rfl, rfl, rfl⟩
  · rw [(Prod.mk.inj (atBoundary_retiers h)).2, retiered, if_neg ht]
    exact ⟨rfl, rfl, rfl, rfl⟩

/-- A step of the offset skips the last position of a revolution, or holds it for one more beat. -/
theorem wheelBoundary_steps (s : State) (hr : s.wheel.running = true) :
    (s.position = 4095 → 0 < s.wheel.align → ∃ t, exec .wheelBoundary s = .next t ∧ t.wheel.offset = s.wheel.offset + 1
      ∧ t.wheel.align = 0 ∧ t.position = 0)
    ∧ (s.position = 0 → s.wheel.align < 0 → s.wheel.holding = false → ∃ t, exec .wheelBoundary s = .next t
      ∧ t.wheel.offset = s.wheel.offset - 1 ∧ t.wheel.align = 0 ∧ t.wheel.holding = true ∧ t.position = 4095
      ∧ t.wheel.tier = s.wheel.tier ∧ t.wheel.swapState = s.wheel.swapState) := by
  refine ⟨fun hp ha => ?_, fun hp ha hh => ?_⟩
  · obtain ⟨-, ho, hl⟩ := atBoundary_offset (stepped s 1 false)
    exact ⟨_, execWheelBoundary_skips hr hp ha, ho, hl, position_skipped hp⟩
  · exact ⟨_, execWheelBoundary_holds hr hp ha hh, rfl, rfl, rfl, position_held hp, rfl, rfl⟩

/-! #### The power cap (R98, R104, R454) -/

theorem leNat_leBytes (n v : Nat) : leNat (leBytes n v) = v % 256 ^ n := by
  induction n generalizing v with
  | zero => simp [leBytes, leNat, Nat.mod_one]
  | succ n ih =>
    rw [leBytes, leNat, ih, BitVec.toNat_ofNat, Nat.pow_succ' (m := 256), Nat.mod_mul]

theorem entryAt_powerCap : entryAt 0x1201 1 = some (row 0x01 .u16 .rwl 320 80 320 "0.1 W") := rfl

theorem decode_u16 (v : BitVec 16) : Ty.u16.decode (leBytes 2 v.toNat) = v.toNat := by
  have h : leNat (leBytes 2 v.toNat) = v.toNat := (leNat_leBytes 2 _).trans (Nat.mod_eq_of_lt v.isLt)
  simp [Ty.decode, h]

/-- A power cap that lands is the new value of its entry, and its tier takes effect next. -/
theorem landWrite_powerCap (s : State) (v : BitVec 16) :
    s.landWrite (0, { idx := 0x1201, sub := 1, value := leBytes 2 v.toNat }) = (s.setCfg 0x1201 1 v.toNat).capChanged := by
  rw [← decode_u16 v]
  simp only [State.landWrite, State.applyWrites, List.foldl_cons, List.foldl_nil, entryAt_powerCap]
  rfl

theorem cfg_capChanged (s : State) (v : Nat) : (s.setCfg 0x1201 1 v).capChanged.cfg 0x1201 1 = v := by
  have h : (s.setCfg 0x1201 1 v).cfgI 0x1201 1 = v := cfgI_setCfg _ _ _ _
  exact (congrArg Int.toNat h).trans (Int.toNat_natCast v)

theorem capChanged_tierNext (s : State) (v : Nat) :
    (s.setCfg 0x1201 1 v).capChanged.wheel.tierNext = if s.tierFor v = s.wheel.tier then 0xFF else s.tierFor v := by
  have h : (s.setCfg 0x1201 1 v).cfg 0x1201 1 = v := cfg_capChanged s v
  unfold State.capChanged
  rw [h]
  rfl

theorem execPowerCap_accepts {s : State} {v : BitVec 16} (hw : s.writable = true) (hlo : 80 ≤ v.toNat) (hhi : v.toNat ≤ 320)
    (hl : s.dict.locked.contains (entryKey 0x1201 1) = false) :
    execPowerCap v s = .next (s.writeLate 0 { idx := 0x1201, sub := 1, value := leBytes 2 v.toNat }) := by
  have h : s.powerCap v.toNat = some (s.writeLate 0 { idx := 0x1201, sub := 1, value := leBytes 2 v.toNat }) :=
    if_pos ⟨hlo, hhi, by rw [hl]; rfl⟩
  rw [execPowerCap, if_pos hw, h, Option.getD_some]

theorem execPowerCap_refuses {s : State} {v : BitVec 16} (hw : s.writable = true) (hv : v.toNat < 80 ∨ 320 < v.toNat) :
    execPowerCap v s = .next s := by
  have h : s.powerCap v.toNat = none := if_neg fun ⟨hlo, hhi, _⟩ => by omega
  rw [execPowerCap, if_pos hw, h, Option.getD_none]

/-! #### Staging (R96, R100, R101, R105) -/

theorem execStageReset_waits {s : State} (hw : s.writable = true) (h : s.wheel.swapState = 3) :
    execStageReset s = .next (s.writeLate 0 { idx := 0x3001, sub := 1, value := [1#8] }) := by
  simp [execStageReset, hw, h]

theorem execStageReset_clears {s : State} (hw : s.writable = true) (h : s.wheel.swapState ≠ 3) :
    execStageReset s = .next s.stageReset := by
  simp [execStageReset, hw, h]

/-- A swap that is cancelled is asked for no more; the rest of the wheel stays (R101). -/
theorem cancelSwap_wheel (s : State) : s.cancelSwap.wheel = { s.wheel with swapState := 0 } := by
  unfold State.cancelSwap
  split <;> rfl

theorem stageReset_wheel (s : State) :
    s.stageReset.wheel = { s.wheel with swapState := 0, staged := [], stageCheck := 0, stageDigest := zeros 48 } :=
  congrArg (fun w : WheelState => { w with staged := [], stageCheck := 0, stageDigest := zeros 48 }) (cancelSwap_wheel s)

/-- Bytes below the length of a header are incomplete (R96). -/
theorem stageCheckOf_short {b : Bytes} (h1 : 1 ≤ b.length) (h2 : b.length < 64) : stageCheckOf b = 1 := by
  have hne : b.isEmpty = false := by
    cases b with
    | nil => simp at h1
    | cons => rfl
  simp [stageCheckOf, hne, h2]

/-- Bytes that do not complete a header are appended with the check and digest of the whole (R96). -/
theorem stageData_short {s : State} {data : Bytes} (h1 : 1 ≤ data.length) (hc : s.wheel.stageCheck ≠ 3)
    (hm : s.mode.mode ≠ mAssembly) (hl : s.wheel.staged.length + data.length < 64) :
    ∃ t, s.stageData data = some t ∧ t.wheel.staged = s.wheel.staged ++ data ∧ t.wheel.stageCheck = 1
      ∧ t.wheel.stageDigest = sha3_384 (s.wheel.staged ++ data) ∧ t.wheel.image = s.wheel.image := by
  have hlen : (s.wheel.staged ++ data).length = s.wheel.staged.length + data.length := List.length_append
  have hok : ¬(s.wheel.stageCheck = 3 ∨ (s.wheel.staged ++ data).length > 328704
      ∨ (64 ≤ (s.wheel.staged ++ data).length ∧ wheelHeaderOk (s.wheel.staged ++ data) = true
        ∧ field (s.wheel.staged ++ data) 16 4 < (s.wheel.staged ++ data).length)) := by
    rintro (h | h | ⟨h, -⟩)
    · exact hc h
    · omega
    · omega
  refine ⟨_, if_neg hok, rfl, stageCheckOf_short (by omega) (by omega), rfl, ?_⟩
  rw [if_neg hm]
  exact ite_keeps (·.wheel.image) (congrArg (·.image) (cancelSwap_wheel s)) rfl

theorem execStageData_appends {s t : State} {data : Bytes} (hw : s.writable = true) (h1 : 1 ≤ data.length) (h2 : data.length ≤ 1024)
    (hs : s.wheel.swapState ≠ 3) (ht : s.stageData data = some t) : execStageData data s = .next t := by
  simp [execStageData, hw, h1, h2, hs, ht]

/-! #### Counters (R105, R139) -/

theorem execCountClear_writable {s : State} (hw : s.writable = true) (i : BitVec 16) :
    execCountClear i s = .next (s.countClear i.toNat) := congrArg Host.Outcome.next (if_pos hw)

/-- A table that keeps the keys which pass a test. -/
theorem countOf_filter (f : Nat → Bool) (t : List (Nat × Nat)) (k : Nat) :
    countOf (t.filter (fun x => f x.1)) k = if f k then countOf t k else 0 := by
  induction t with
  | nil => simp [countOf, tget]
  | cons x r ih =>
    obtain ⟨i, n⟩ := x
    by_cases hi : i = k
    · subst hi
      cases hf : f i <;> simp_all [countOf, tget]
    · cases hf : f i <;> simp_all [countOf, tget]

theorem clearsCount_engine {k : Nat} (h : k ≤ 5 ∨ 0x51 ≤ k ∧ k ≤ 0x58) : clearsCount 0x3201 (entryKey 0x3201 k) = true := by
  have hd : (256 * 0x3201 + k) / 256 = 0x3201 := by omega
  have hm : (256 * 0x3201 + k) % 256 = k := by omega
  simp only [clearsCount, entryKey, hd, hm]
  simpa using h

theorem clearsCount_other (k : Nat) : clearsCount 0x3201 (entryKey 0x3211 k) = false := by
  have hd : ((256 * 0x3211 + k) / 256 == 0x3201) = false := beq_false_of_ne (by omega)
  simp only [clearsCount, entryKey, hd, Bool.false_and]

/-- COUNT_CLEAR of an engine's index clears its counters and no other index's (R105, R139). -/
theorem countClear_engine (s : State) :
    (∀ k, k ≤ 5 ∨ 0x51 ≤ k ∧ k ≤ 0x58 → countOf (s.countClear 0x3201).counts (entryKey 0x3201 k) = 0)
      ∧ ∀ k, countOf (s.countClear 0x3201).counts (entryKey 0x3211 k) = countOf s.counts (entryKey 0x3211 k) := by
  have h : ∀ k, countOf (s.countClear 0x3201).counts k = if !clearsCount 0x3201 k then countOf s.counts k else 0 :=
    countOf_filter (fun i => !clearsCount 0x3201 i) s.counts
  refine ⟨fun k hk => ?_, fun k => ?_⟩
  · rw [h, clearsCount_engine hk]
    rfl
  · rw [h, clearsCount_other]
    rfl

/-- Settles O24: the boundary and the offset steps by `atBoundary_swaps`, `atBoundary_retiers` and `atBoundary_offset`, the power cap by
what it is when it lands, staging and COUNT_CLEAR by what they leave of the wheel and the counters. -/
theorem wheelRows : Obligations.WheelRows := by
  refine ⟨wheelBoundary_effects, wheelBoundary_steps, fun s hw => ⟨fun v hlo hhi hl =>
    ⟨execPowerCap_accepts hw hlo hhi hl, ?_, ?_, ?_⟩, fun v => execPowerCap_refuses hw,
    execStageReset_waits hw, fun h => ?_, fun data h1 h2 hc hm hs hlen => ?_, ?_, ?_⟩⟩
  · rw [landWrite_powerCap, cfg_capChanged]
  · rw [landWrite_powerCap]
    rfl
  · rw [landWrite_powerCap, capChanged_tierNext]
  · refine ⟨_, execStageReset_clears hw h, ?_⟩
    rw [stageReset_wheel]
    exact ⟨rfl, rfl, rfl, rfl⟩
  · obtain ⟨t, ht, hwheel⟩ := stageData_short h1 hc hm hlen
    exact ⟨t, execStageData_appends hw h1 h2 hs ht, hwheel⟩
  · exact ⟨_, execCountClear_writable hw 0x4005, rfl, rfl, rfl, rfl⟩
  · exact ⟨_, execCountClear_writable hw 0x3201, countClear_engine s⟩

end Sys2Proof.SlotWheel
end

section

/-! ### Orders: their end, and what their actions change (R100, R329, R333, R334, R346, R373, R390, R428, R447, R470) -/

namespace Sys2Proof.SlotWheel

open Sys2Proof Sys2Proof.Machine Sys2Proof.Laws

/-! #### The end of an order (R23, R329, R330) -/

/-- `t` is `s` but for what `Quiet` lets differ; of that the mode and the states of the units stay too. -/
structure Settles (s t : State) : Prop where
  quiet : Quiet s t
  same : stance t = stance s

variable {s b t : State}

theorem Settles.refl (s : State) : Settles s s := ⟨quiet_refl s, rfl⟩

theorem Settles.trans (h : Settles s b) (k : Settles b t) : Settles s t := ⟨quiet_trans h.quiet k.quiet, k.same.trans h.same⟩

theorem Settles.after (k : Settles b t) (h : Settles s b) : Settles s t := h.trans k

theorem Settles.ite {c : Prop} [Decidable c] (h : Settles s t) (k : Settles s b) : Settles s (if c then t else b) := by
  split <;> assumption

theorem settles_foldl {α : Type} (f : State → α → State) (h : ∀ a x, Settles a (f a x)) (l : List α) (s : State) :
    Settles s (l.foldl f s) :=
  ⟨quiet_foldl f (fun a x => (h a x).quiet) l s, foldl_keeps stance f (fun a x => (h a x).same) l s⟩

theorem onJob_settles (s : State) (n : Nat) (f : Job → Job) : Settles s (s.onJob n f) := by
  refine ⟨?_, onJob_stance s n f⟩
  unfold State.onJob
  split
  · exact setJob_quiet _ _ _
  · exact quiet_refl s

theorem endJob_settles (s : State) (slot st info n : Nat) : Settles s (s.endJob slot st info n) :=
  ⟨endJob_quiet _ _ _ _ _, endJob_stance _ _ _ _ _⟩

theorem writeOut_settles (s : State) (slot : Nat) (j : Job) (out : Bytes) : Settles s (s.writeOut slot j out) := by
  have h : Settles s (s.outputOf j out).2 := by
    unfold State.outputOf
    split
    · exact ⟨draw_quiet s, rfl⟩
    · exact .refl s
  exact .after (onJob_settles _ _ _) <| .after ⟨sendOutput_quiet _ _ _, sendOutput_stance _ _ _⟩ h

theorem countRelease_settles (s : State) (j : Job) (r : Result) : Settles s (s.countRelease j r) := by
  unfold State.countRelease
  refine .after (.ite (.refl _) ⟨countLost_quiet _ _, countLost_stance _ _⟩) (settles_foldl _ (fun _ _ => ?_) _ s)
  exact ⟨count_quiet _ _ _, rfl⟩

theorem dropRequests_settles (s : State) (act who : Nat) : Settles s (s.dropRequests act who) :=
  ⟨⟨_, _, _, _, _, _, _, _, _, _, _, _, _, _, _, _, _, _, _, _, _, rfl⟩, rfl⟩

theorem endGrant_settles (s : State) (act : Nat) : Settles s (s.endGrant act) :=
  ⟨⟨_, _, _, _, _, _, _, _, _, _, _, _, _, _, _, _, _, _, _, _, _, rfl⟩, rfl⟩

theorem retire_settles (s : State) (slot : Nat) (j : Job) (r : Result) (n : Nat) : Settles s (s.retire slot j r n) :=
  .after ⟨countBlocks_quiet _ _, countBlocks_stance _ _⟩ <|
    .after (.ite (.after (dropRequests_settles _ _ _) <| .ite (endGrant_settles _ _) <| .refl _) <| .refl _) <|
    .after (settles_foldl _ (fun _ _ => ⟨startWipe_quiet _ _ _ _, startWipe_stance _ _ _ _⟩) _ _) <|
    .after ⟨freeHolds_quiet _ _ _, rfl⟩ <| onJob_settles _ _ _

/-- A result of a status and its detail alone writes no entry and replaces none (R40, R340). -/
theorem writeEntry_bare (s : State) (slot : Nat) (j : Job) (st info : Nat) :
    Settles s (s.writeEntry slot j { status := st, info := info }) := by
  unfold State.writeEntry
  split
  · exact .refl s
  · rw [if_pos (.inl rfl)]
    exact .refl s

theorem replaceKey_bare (s : State) (slot : Nat) (j : Job) (st info : Nat) :
    Settles s (s.replaceKey slot j { status := st, info := info }).1 := by
  have e : s.replaceKey slot j { status := st, info := info } = (s, j) := if_pos rfl
  rw [e]
  exact .refl s

section
variable {j : Job} (h : j.hdr.opcode = 0x1401)
include h

/-- An order is no envelope, and hands out no page of the vault. -/
theorem noteEnvelope_order (s : State) (r : Result) : Settles s (s.noteEnvelope j r) := by
  rw [State.noteEnvelope, if_pos (by rw [h]; decide)]
  exact .refl s

theorem countExported_order (s : State) (r : Result) : Settles s (s.countExported j r) := by
  rw [State.countExported, if_neg (by rw [h]; exact fun c => absurd c.1 (by decide))]
  exact .refl s

/-- The release of an order, which has a status and its detail alone (R23, R330). -/
theorem release_order (slot : Nat) (s : State) (st info : Nat) :
    Settles s (s.release slot j { status := st, info := info } none) := by
  unfold State.release
  dsimp only
  rw [if_pos (.inl (by rw [h]; decide))]
  unfold State.releaseJob
  refine .ite (endJob_settles _ _ _ _ _) ?_
  rw [if_neg (fun c => nomatch c)]
  exact .after (retire_settles _ _ _ _ _) <| .after (noteEnvelope_order h _ _) <| .after (countRelease_settles _ _ _) <|
    .after (countExported_order h _ _) <| .after (.refl _) <| .after (writeEntry_bare _ _ _ _ _) <|
    .after (replaceKey_bare _ _ _ _ _) <| .after (onJob_settles _ _ _) <| .after (writeOut_settles _ _ _ _) <|
    .ite ⟨zeroExposed_quiet _ _, zeroExposed_stance _ _⟩ (.refl s)

end

theorem closeOrder_settles {s : State} {slot : Nat} {j : Job} (hj : s.job? slot = some j) (h : j.hdr.opcode = 0x1401) (st info : Nat) :
    Settles s (s.closeOrder slot st info) := by
  unfold State.closeOrder
  rw [hj]
  exact .ite (.after (release_order (j := { j with schedLen := j.orderLen }) h slot _ st info) ⟨setJob_quiet _ _ _, rfl⟩) (.refl s)

theorem endOrder_passes {s u : State} {slot st : Nat} {j : Job} {act : Action} (hok : s.orderFailure j = none)
    (ha : act s slot j (orderPayload j.input) = some (st, u)) : s.endOrder slot j act
      = (u.countOrder j.domain (orderDigest j.input)).closeOrder slot st ((s.dom j.domain).orderCounter + 1) := by
  unfold State.endOrder
  simp only [hok, ha]

/-- The row of an order that passes with an action that succeeds (R329, R330). -/
theorem orderRow_passes {s u : State} {slot action st : Nat} {j : Job} {act : Action} (hp : OrderPasses s slot action j)
    (ha : act s slot j (orderPayload j.input) = some (st, u)) : s.orderRow slot action act
      = .next ((u.countOrder j.domain (orderDigest j.input)).closeOrder slot st ((s.dom j.domain).orderCounter + 1)) := by
  obtain ⟨hj, hphase, hop, hset, hdue, hok⟩ := hp
  rw [← endOrder_passes hok ha]
  unfold State.orderRow
  rw [hj]
  exact congrArg Host.Outcome.next (if_pos ⟨hphase, hop, hset, hdue⟩)

/-! #### Records of domains and generators (R324, R333, R334, R361) -/

theorem dom_of_domains (h : t.domains = s.domains) (d : Nat) : t.dom d = s.dom d := by
  unfold State.dom
  rw [h]

theorem dom_writeDom (s : State) (d : Nat) (r : DomRec) : (s.writeDom d r).dom d = r := dom_setDom _ d r

theorem instantiate_domains (s : State) (i : Nat) : (s.instantiate i).domains = s.domains := ite_keeps State.domains rfl rfl

theorem drbg_instantiate (s : State) (i : Nat) : ((s.instantiate i).drbg i).up = true := by
  unfold State.instantiate
  dsimp only
  split
  · exact congrArg Drbg.up (drbg_setDrbg _ i _)
  · exact congrArg Drbg.up (drbg_setDrbg s i _)

theorem request_domains (s : State) (act who : Nat) : (s.request act who).domains = s.domains :=
  ite_keeps State.domains rfl (ite_keeps State.domains rfl (wake_domains _))

theorem onJob_domains (s : State) (n : Nat) (f : Job → Job) : (s.onJob n f).domains = s.domains :=
  calm_domains (quiet_calm (onJob_settles s n f).quiet)

/-- An order that advances an epoch leaves the domain in its sweep (R334). -/
theorem dom_orderAdvance (s : State) (slot d : Nat) (retire : Bool) : ∃ seq, (s.orderAdvance slot d retire).dom d
    = { s.dom d with epoch := bump 32 (s.dom d).epoch 1, epochSeq := seq, dstate := 2,
                     retire := retire || ((s.dom d).dstate == 2 && (s.dom d).retire) } :=
  ⟨_, (dom_of_domains ((onJob_domains _ _ _).trans <| (instantiate_domains _ _).trans <| request_domains _ _ _) d).trans
    (dom_writeDom s d _)⟩

/-! #### Rosters and domains (R333, R334, R346) -/

theorem actOwnership_installs {p : Bytes} (h0 : byteAt p 0 = 0) (hr : rosterOk p = true) (s : State) (n : Nat) (j : Job) :
    ∃ u, actOwnership s n j p = some (0x00, u) ∧ u.lcState = 3 ∧ (u.dom 0).officers = rosterSlots p
      ∧ (u.dom 0).quorumM = byteAt p 1 := by
  refine ⟨_, if_pos ⟨h0, hr⟩, rfl, ?_⟩
  have hd : ∀ u : State, (u.orderLc n 3).dom 0 = u.dom 0 := fun _ => rfl
  rw [hd, dom_writeDom]
  exact ⟨rfl, rfl⟩

theorem actRosterSet_installs {p : Bytes} (h0 : byteAt p 0 = 0) (hr : rosterOk p = true) (s : State) (n : Nat) (j : Job) :
    ∃ u, actRosterSet s n j p = some (0x00, u) ∧ (u.dom j.domain).officers = rosterSlots p
      ∧ (u.dom j.domain).quorumM = byteAt p 1 ∧ (u.dom j.domain).orderCounter = (s.dom j.domain).orderCounter := by
  refine ⟨_, if_pos ⟨h0, hr⟩, ?_⟩
  rw [dom_writeDom]
  exact ⟨rfl, rfl, rfl⟩

theorem actDomainCreate_activates {s : State} {p : Bytes} (h1 : 1 ≤ byteAt p 0) (h0 : (s.dom (byteAt p 0)).dstate = 0)
    (hr : rosterOk p = true) (n : Nat) (j : Job) : ∃ u, actDomainCreate s n j p = some (0x00, u)
      ∧ (u.dom (byteAt p 0)).dstate = 1 ∧ (u.dom (byteAt p 0)).officers = rosterSlots p ∧ (u.drbg (byteAt p 0)).up = true := by
  refine ⟨_, if_pos ⟨h1, h0, hr⟩, ?_⟩
  rw [dom_of_domains (instantiate_domains _ _), dom_writeDom, drbg_instantiate]
  exact ⟨rfl, rfl, rfl⟩

theorem actDomainRetire_sweeps {s : State} {p : Bytes} (h1 : 1 ≤ byteAt p 0) (h0 : (s.dom (byteAt p 0)).dstate ≠ 0)
    (hz : allZero (p.drop 1) = true) (n : Nat) (j : Job) : ∃ u, actDomainRetire s n j p = some (0x01, u)
      ∧ (u.dom (byteAt p 0)).dstate = 2 ∧ (u.dom (byteAt p 0)).retire = true
      ∧ (u.dom (byteAt p 0)).epoch = bump 32 (s.dom (byteAt p 0)).epoch 1 := by
  obtain ⟨seq, hd⟩ := dom_orderAdvance s n (byteAt p 0) true
  refine ⟨_, if_pos ⟨h1, hz, h0⟩, ?_⟩
  rw [hd]
  exact ⟨rfl, rfl, rfl⟩

theorem actEpochAdvance_sweeps (s : State) (n : Nat) (j : Job) (p : Bytes) : ∃ u, actEpochAdvance s n j p = some (0x01, u)
    ∧ (u.dom j.domain).dstate = 2 ∧ (u.dom j.domain).epoch = bump 32 (s.dom j.domain).epoch 1 := by
  obtain ⟨seq, hd⟩ := dom_orderAdvance s n j.domain false
  refine ⟨_, rfl, ?_⟩
  rw [hd]
  exact ⟨rfl, rfl⟩

/-! #### The wheel, fuses, patches and the calendar (R100, R390, R428, R470) -/

theorem actWheelLoad_asks {s : State} {p : Bytes} (hc : s.wheel.stageCheck = 2) (hp : p = s.wheel.stageDigest) (hm : s.mode.mode ≠ mIdle)
    (hfree : s.maintPending maSwap 0 = false) (n : Nat) (j : Job) : actWheelLoad s n j p = some (0x00, { s with
      wheel := { s.wheel with swapState := 2 },
      maint := { s.maint with queue := queueRequest s.maint.queue { act := maSwap, beat := s.beat, who := 0 } } }) := by
  refine (if_pos ⟨hc, hp⟩).trans (congrArg (fun u => some (0x00, u)) ?_)
  exact (request_of_free (s := { s with wheel := { s.wheel with swapState := 2 } }) hfree).trans (wake_of_awake hm)

theorem actFuseDisable_unmonitors {s : State} {p : Bytes} (h0 : field p 0 2 ≠ 0) (h9 : field p 0 2 < 512) (hz : field p 2 2 = 0)
    (hf : field p 0 2 &&& s.ao.fused = 0) (n : Nat) (j : Job) : ∃ u, actFuseDisable s n j p = some (0x00, u)
      ∧ u.ao.unmonitored = s.ao.unmonitored ||| field p 0 2 ∧ u.ao.fused = s.ao.fused :=
  ⟨_, if_pos ⟨h0, h9, hz, hf⟩, rfl, rfl⟩

theorem actPatchMin_raises (s : State) (n : Nat) (j : Job) (p : Bytes) :
    (s.patch.minVersion < field p 0 4 → s.patch.status = 2 → field p 0 4 ≤ s.patch.version →
      actPatchMin s n j p = some (0x00, { s with patch := { s.patch with minVersion := field p 0 4 } }))
    ∧ (field p 0 4 ≤ s.patch.minVersion → actPatchMin s n j p = none) :=
  ⟨fun h hs hv => if_pos ⟨h, hs, hv⟩, fun h => if_neg fun c => absurd c.1 (Nat.not_lt.mpr h)⟩

/-- With its bit 0 clear the payload gives the time, whether the calendar was valid or not (R470). -/
theorem actCalendarSet_validates {p : Bytes} (hlo : -2000 ≤ calTrimOf p) (hhi : calTrimOf p ≤ 2000) (h8 : byteAt p 8 = 0)
    (hz : allZero (slice p 9 3) = true) (s : State) (n : Nat) (j : Job) : ∃ u, actCalendarSet s n j p = some (0x00, u)
      ∧ u.dict.calValid = true ∧ u.dict.calSeconds = field p 0 6 ∧ u.dict.calTrim = calTrimOf p := by
  have hb : bit (byteAt p 8) 0 = false := by rw [h8]; rfl
  refine ⟨_, if_pos ⟨hlo, hhi, by rw [h8]; decide, hz, .inl (by rw [hb]; rfl)⟩, rfl, ?_, rfl⟩
  dsimp only
  rw [hb]
  rfl

/-! #### Entropy study (R373, R447) -/

/-- A study that an order asks for is noted (R373). -/
def studyNoted (s : State) (p : Bytes) : State :=
  { s with entropy := { s.entropy with studyMask := byteAt p 0, studyKind := byteAt p 1, studySamples := field p 4 4 },
           mode := { s.mode with studyPending := true } }

/-- The same once the order is counted and over, before the device passes to Quiesce. -/
def studyOrdered (s : State) (slot : Nat) (j : Job) : State :=
  ((studyNoted s (orderPayload j.input)).countOrder j.domain (orderDigest j.input)).closeOrder slot 0x00
    ((s.dom j.domain).orderCounter + 1)

theorem execEntropyStudy_passes {s : State} {slot : Fin 4096} {j : Job} (hp : OrderPasses s slot.val 0x0A j)
    (hs : studyOk (orderPayload j.input) = true) : execEntropyStudy slot s = .next (studyOrdered s slot.val j).studyQuiesce := by
  unfold execEntropyStudy
  rw [orderRow_passes hp (u := studyNoted s (orderPayload j.input)) (st := 0x00) (if_pos hs)]
  rfl

/-- In Ceremony a pending study begins with Quiesce (R447). -/
theorem studyQuiesce_stance {s : State} (hp : s.mode.studyPending = true) (hm : s.mode.mode = mCeremony) :
    stance s.studyQuiesce = (mQuiesce, 1, true, unitStates s) := by
  unfold State.studyQuiesce
  rw [if_pos ⟨hp, hm⟩, stance_of_board (writeStatus_board _ _ _ _ _ _), quiesceFor_stance, hp]

theorem studyQuiesce_quiet (s : State) : Quiet s s.studyQuiesce := by
  unfold State.studyQuiesce
  split
  · exact quiet_trans (quiesceFor_quiet _ _) (writeStatus_quiet _ _ _ _ _ _)
  · exact quiet_refl s

theorem quiet_studyMask (h : Quiet s t) : t.entropy.studyMask = s.entropy.studyMask := by
  obtain ⟨_, _, _, _, _, _, _, _, _, _, _, _, _, _, _, _, _, _, _, _, _, rfl⟩ := h
  rfl

theorem countOrder_jobs (s : State) (d : Nat) (b : Bytes) : (s.countOrder d b).jobs = s.jobs := ite_keeps State.jobs rfl rfl

theorem countOrder_mode (s : State) (d : Nat) (b : Bytes) : (s.countOrder d b).mode = s.mode :=
  ite_keeps State.mode rfl rfl

theorem countOrder_entropy (s : State) (d : Nat) (b : Bytes) : (s.countOrder d b).entropy = s.entropy :=
  ite_keeps State.entropy rfl rfl

theorem countOrder_counter (s : State) (d : Nat) (b : Bytes) :
    ((s.countOrder d b).dom d).orderCounter = (s.dom d).orderCounter + 1 :=
  congrArg (·.orderCounter) (dom_writeDom s d { s.dom d with orderCounter := (s.dom d).orderCounter + 1 })

/-- The end of the order leaves what it has noted and counted, and the mode. -/
theorem studyOrdered_leaves {s : State} {slot : Nat} {j : Job} (hj : s.job? slot = some j) (hop : j.hdr.opcode = 0x1401) :
    (studyOrdered s slot j).mode.mode = s.mode.mode ∧ (studyOrdered s slot j).mode.studyPending = true
      ∧ (studyOrdered s slot j).entropy.studyMask = byteAt (orderPayload j.input) 0
      ∧ ((studyOrdered s slot j).dom j.domain).orderCounter = (s.dom j.domain).orderCounter + 1 := by
  have hju : ((studyNoted s (orderPayload j.input)).countOrder j.domain (orderDigest j.input)).job? slot = some j := by
    rw [State.job?, countOrder_jobs]
    exact hj
  obtain ⟨hquiet, hsame⟩ := closeOrder_settles hju hop 0x00 ((s.dom j.domain).orderCounter + 1)
  simp only [stance, Prod.mk.injEq, countOrder_mode] at hsame
  obtain ⟨hmode, -, hpending, -⟩ := hsame
  refine ⟨hmode, hpending, (quiet_studyMask hquiet).trans ?_,
    (congrArg (·.orderCounter) (dom_of_domains (calm_domains (quiet_calm hquiet)) _)).trans (countOrder_counter _ _ _)⟩
  rw [countOrder_entropy]
  rfl

/-- An ENTROPY_STUDY that passes in Ceremony (R329, R373, R447). -/
theorem entropyStudy_quiesces (s : State) (slot : Fin 4096) (j : Job) (hp : OrderPasses s slot.val 0x0A j)
    (hs : studyOk (orderPayload j.input) = true) (hm : s.mode.mode = mCeremony) : ∃ t, exec (.entropyStudy slot) s = .next t
      ∧ t.mode.mode = mQuiesce ∧ t.mode.quiesceKind = 1 ∧ t.mode.studyPending = true
      ∧ t.entropy.studyMask = byteAt (orderPayload j.input) 0
      ∧ (t.dom j.domain).orderCounter = (s.dom j.domain).orderCounter + 1 := by
  have hrow := execEntropyStudy_passes hp hs
  obtain ⟨hj, -, hop, -⟩ := hp
  obtain ⟨hmode, hpending, hmask, hcounter⟩ := studyOrdered_leaves hj hop
  have hquiet := studyQuiesce_quiet (studyOrdered s slot.val j)
  have hstance := studyQuiesce_stance hpending (hmode.trans hm)
  simp only [stance, Prod.mk.injEq] at hstance
  obtain ⟨hend, hkind, hstill, -⟩ := hstance
  exact ⟨_, hrow, hend, hkind, hstill, (quiet_studyMask hquiet).trans hmask,
    (congrArg (·.orderCounter) (dom_of_domains (calm_domains (quiet_calm hquiet)) _)).trans hcounter⟩

end Sys2Proof.SlotWheel
end

section

namespace Sys2Proof.SlotWheel

open Sys2Proof Sys2Proof.Machine

/-- Settles O22: each action by the lemma about it. -/
theorem orderActions : Obligations.OrderActions :=
  ⟨fun s n j _ h0 hr => ⟨actOwnership_installs h0 hr s n j, actRosterSet_installs h0 hr s n j⟩,
    fun _ n j _ h1 => ⟨fun h0 hr => actDomainCreate_activates h1 h0 hr n j, fun h0 hz => actDomainRetire_sweeps h1 h0 hz n j⟩,
    actEpochAdvance_sweeps, fun _ n j _ hc hp hm hfree => actWheelLoad_asks hc hp hm hfree n j,
    fun _ n j _ h0 h9 hz hf => actFuseDisable_unmonitors h0 h9 hz hf n j, actPatchMin_raises,
    fun s n j _ hlo hhi h8 hz => actCalendarSet_validates hlo hhi h8 hz s n j, entropyStudy_quiesces⟩

end Sys2Proof.SlotWheel
end

section

/-! ### Support: how a job row of the lattice engines ends its job -/

namespace Sys2Proof.Lattice

open Sys2Proof Sys2Proof.Machine Sys2Proof.Laws

/-- The model's tables, with value 0 at PSET 0, agree with the statements' from PSET 1 up. -/
theorem nth_eq_col {n : Nat} (h : 1 ≤ n) (l : List Nat) : nth l n = col l n :=
  if_neg (Nat.one_le_iff_ne_zero.mp h)

/-- The row of one operation runs its schedule where a job of it is staged. -/
theorem runOp_running {s : State} {n op : Nat} {j : Job} (h : s.running n op = some j) (f : State → Job → State) :
    s.runOp n op f = .next (f s j) := by
  simp only [State.runOp, h]

/-! #### The rows that the commands stand for (R38) -/

theorem exec_mlkemEncaps (slot : Fin 4096) (s : State) : exec (.mlkemEncaps slot) s = execMlkemEncaps slot s := rfl

theorem exec_mlkemCheckEk (slot : Fin 4096) (s : State) : exec (.mlkemCheckEk slot) s = execMlkemCheckEk slot s := rfl

theorem exec_mlkemDecaps (slot : Fin 4096) (s : State) : exec (.mlkemDecaps slot) s = execMlkemDecaps slot s := rfl

theorem exec_mldsaSign (slot : Fin 4096) (s : State) : exec (.mldsaSign slot) s = execMldsaSign slot s := rfl

theorem exec_mldsaSignMu (slot : Fin 4096) (s : State) : exec (.mldsaSignMu slot) s = execMldsaSignMu slot s := rfl

theorem exec_mldsaVerify (slot : Fin 4096) (s : State) : exec (.mldsaVerify slot) s = execMldsaVerify slot s := rfl

theorem exec_mldsaVerifyMu (slot : Fin 4096) (s : State) : exec (.mldsaVerifyMu slot) s = execMldsaVerifyMu slot s := rfl

theorem exec_fndsaSign (slot : Fin 4096) (s : State) : exec (.fndsaSign slot) s = execFndsaSign slot s := rfl

theorem exec_fndsaVerify (slot : Fin 4096) (s : State) : exec (.fndsaVerify slot) s = execFndsaVerify slot s := rfl

/-! #### Results -/

theorem bare_status (st : Nat) : Bare { status := st } st := ⟨rfl, rfl, rfl, rfl⟩

theorem when_false_bare (st : Nat) (r : Result) : Bare (Result.when false st r) st := bare_status st

/-- A released secret goes where TO_VAULT says (R40). -/
theorem vaultOrOut_secretOut (j : Job) (secret before : Bytes) : SecretOut j secret before (vaultOrOut j secret before) := by
  constructor
  case left =>
    intro hout
    rw [vaultOrOut, Header.tv, hout]
    exact ⟨rfl, rfl, rfl⟩
  case right =>
    intro hvault
    rw [vaultOrOut, Header.tv, hvault]
    exact ⟨rfl, rfl, rfl, rfl⟩

/-! #### Keys that the host supplies -/

theorem nullKey_iff (h : Header) : h.nullKey = true ↔ h.keyHandle = 0 := beq_iff_eq

theorem peerKey_of_null {j : Job} (h : j.hdr.nullKey = true) (len : Nat) : j.peerKey len = j.input.take len := if_pos h

/-- The key of an encapsulation is used where it comes from the vault or passes the modulus check (R120). -/
theorem ekUsable_iff (j : Job) (len : Nat) :
    (!j.hdr.nullKey || ekOk (j.peerKey len)) = true ↔ j.hdr.keyHandle ≠ 0 ∨ ekOk (j.input.take len) = true := by
  cases hnull : j.hdr.nullKey with
  | false =>
    have hvault : j.hdr.keyHandle ≠ 0 := fun h0 => absurd ((nullKey_iff _).mpr h0) (by simp [hnull])
    simp [hvault]
  | true => simp [(nullKey_iff _).mp hnull, peerKey_of_null hnull]

/-- The range check of an FN-DSA key fails at a coefficient of 12,289 or more (R150). -/
theorem fnPkOk_eq_false_iff (pset : Nat) (pk : Bytes) :
    fnPkOk pset pk = false ↔ (fnCoeffs pset pk).any (fun x => decide (12289 ≤ x)) = true := by
  simp [fnPkOk]

/-- A verification refuses the host's key and no other for its range (R150). -/
theorem fnKeyRefused_iff (h : Header) (pset : Nat) (pk : Bytes) : (h.nullKey && !fnPkOk pset pk) = true
    ↔ h.keyHandle = 0 ∧ (fnCoeffs pset pk).any (fun x => decide (12289 ≤ x)) = true := by
  rw [Bool.and_eq_true, Bool.not_eq_true', nullKey_iff, fnPkOk_eq_false_iff]

end Sys2Proof.Lattice
end

section

/-! ### ML-KEM: the rows of R118 to R121 -/

namespace Sys2Proof.Lattice

open Sys2Proof Sys2Proof.Machine Sys2Proof.Laws

variable {s : State} {slot : Fin 4096} {j : Job}

/-- R118, R120: an encapsulation releases its ciphertext and secret where its key passes. -/
theorem mlkemEncaps_ends (h : s.running slot.val 0x0101 = some j) :
    Ends (.mlkemEncaps slot) s slot.val j (nth [14, 20, 28] j.hdr.pset)
      (Result.when (!j.hdr.nullKey || ekOk (j.peerKey (publicLen 1 j.hdr.pset))) stInputRange
        (vaultOrOut j (mlkemSecret j.hdr.pset (j.peerKey (publicLen 1 j.hdr.pset)) (j.random 32))
          (mlkemCipher j.hdr.pset (j.peerKey (publicLen 1 j.hdr.pset)) (j.random 32)))) :=
  ends_masks h ((exec_mlkemEncaps slot s).trans (runOp_running h _))

/-- R120: a key check answers with its status alone. -/
theorem mlkemCheckEk_ends (h : s.running slot.val 0x0102 = some j) :
    Ends (.mlkemCheckEk slot) s slot.val j (nth [4, 5, 6] j.hdr.pset)
      { status := if ekOk j.input then stOk else stInputRange } :=
  ends_plain h ((exec_mlkemCheckEk slot s).trans (runOp_running h _))

/-- R121: a decapsulation releases the key that it recovers, whatever the ciphertext. -/
theorem mlkemDecaps_ends (h : s.running slot.val 0x0103 = some j) :
    Ends (.mlkemDecaps slot) s slot.val j (nth [18, 24, 34] j.hdr.pset)
      (vaultOrOut j (mlkemRecover j.hdr.pset j.secret j.input) []) :=
  ends_masks h ((exec_mlkemDecaps slot s).trans (runOp_running h _))

/-- The length of an encapsulation key (R114). -/
theorem publicLen_kem {pset : Nat} (h : 1 ≤ pset) : publicLen 1 pset = col [800, 1184, 1568] pset := nth_eq_col h _

end Sys2Proof.Lattice
end

section

namespace Sys2Proof.Lattice

open Sys2Proof Sys2Proof.Machine Sys2Proof.Laws

/-- Settles O1: each row by the lemma about its end; of an encapsulation's two results the key check chooses one. -/
theorem mlkemOperations : Obligations.MlkemOperations := by
  intro s slot j h1 _
  simp only [← publicLen_kem h1, ← nth_eq_col h1]
  refine ⟨fun h => ⟨_, mlkemEncaps_ends h, fun h0 hbad => ?refused, fun hgood => ?released⟩,
    fun h => ⟨_, mlkemCheckEk_ends h, bare_status _⟩, fun h => ⟨_, mlkemDecaps_ends h, vaultOrOut_secretOut _ _ _⟩⟩
  case refused =>
    have hnull := (nullKey_iff j.hdr).mpr h0
    rw [peerKey_of_null hnull, hnull, hbad]
    exact when_false_bare _ _
  case released =>
    rw [(ekUsable_iff j _).mpr hgood]
    exact vaultOrOut_secretOut _ _ _

end Sys2Proof.Lattice
end

section

/-! ### ML-DSA and FN-DSA: the rows of R123 to R130 and R146 to R150 -/

namespace Sys2Proof.Lattice

open Sys2Proof Sys2Proof.Machine Sys2Proof.Laws

variable {s : State} {slot : Fin 4096} {j : Job}

/-- R130, R134: ML-DSA signing of μ runs four attempts a block. -/
theorem dsaRun_endsInBlocks {c : Instr} {op e : Nat} {mu : Bytes} (h : s.running slot.val op = some j)
    (hrow : exec c s = .next (s.dsaRun slot.val j mu e)) :
    EndsInBlocks c s slot.val j 4 (dsaP j.hdr.pset) (dsaV j.hdr.pset) e 0 0
      (dsaPasses j.hdr.pset j.secret mu (dsaRnd j)) (dsaSignature j.hdr.pset j.secret mu (dsaRnd j)) :=
  endsInBlocks_of (m := 0) h (.inr hrow)

/-- R129: the verification schedule covers the message behind key and signature. -/
theorem mldsaVerify_ends (h : s.running slot.val 0x0203 = some j) :
    let rest := j.afterKey (publicLen 2 j.hdr.pset)
    let m := rest.drop (dsaSig j.hdr.pset)
    let pk := j.peerKey (publicLen 2 j.hdr.pset)
    Ends (.mldsaVerify slot) s slot.val j (dsaV j.hdr.pset + dsaE j.hdr j.pb m.length)
      { status := if dsaVerifies j.hdr.pset pk (dsaMu pk (messageRep j.hdr j.pb [] m)) (rest.take (dsaSig j.hdr.pset))
          then stOk else stVerifyFail } :=
  ends_plain h ((exec_mldsaVerify slot s).trans (runOp_running h _))

/-- R127: the input behind key and signature is μ. -/
theorem mldsaVerifyMu_ends (h : s.running slot.val 0x0204 = some j) :
    let rest := j.afterKey (publicLen 2 j.hdr.pset)
    Ends (.mldsaVerifyMu slot) s slot.val j (dsaV j.hdr.pset)
      { status := if dsaVerifies j.hdr.pset (j.peerKey (publicLen 2 j.hdr.pset)) (rest.drop (dsaSig j.hdr.pset))
          (rest.take (dsaSig j.hdr.pset)) then stOk else stVerifyFail } :=
  ends_plain h ((exec_mldsaVerifyMu slot s).trans (runOp_running h _))

/-- R147, R148: FN-DSA signing runs two attempts a block, all with one salt and each with a sampler input of its own. -/
theorem fndsaSign_endsInBlocks (h : s.running slot.val 0x0301 = some j) :
    let m := messageRep j.hdr j.pb [] j.input
    let key := fnKey j.hdr.pset j.secret
    EndsInBlocks (.fndsaSign slot) s slot.val j 2 (fnP j.hdr.pset) (fnV j.hdr.pset) (dsaE j.hdr j.pb j.hdr.inLen) 0 0
      (fun a => Config.primB .attemptOk [tag 3 j.hdr.pset, key, m, j.fnSalt, j.fnSampler a])
      (fun a => fnSignature j.hdr.pset key m j.fnSalt (j.fnSampler a)) :=
  endsInBlocks_of (m := 0) h (.inr ((exec_fndsaSign slot s).trans (runOp_running h _)))

/-- R150: the range of the host's key comes before the signature. -/
theorem fndsaVerify_ends (h : s.running slot.val 0x0302 = some j) :
    let rest := j.afterKey (publicLen 3 j.hdr.pset)
    let m := rest.drop (fnSig j.hdr.pset)
    let pk := j.peerKey (publicLen 3 j.hdr.pset)
    Ends (.fndsaVerify slot) s slot.val j (fnV j.hdr.pset + dsaE j.hdr j.pb m.length)
      { status := if j.hdr.nullKey && !fnPkOk j.hdr.pset pk then stInputRange
          else if fnVerifies j.hdr.pset pk (messageRep j.hdr j.pb [] m) (rest.take (fnSig j.hdr.pset)) then stOk
          else stVerifyFail } :=
  ends_plain h ((exec_fndsaVerify slot s).trans (runOp_running h _))

end Sys2Proof.Lattice
end

section

namespace Sys2Proof.Lattice

open Sys2Proof Sys2Proof.Machine Sys2Proof.Laws

/-- Settles O2: each row by the lemma about its end, with the model's tables for the statement's. -/
theorem latticeSignatures : Obligations.LatticeSignatures := by
  refine ⟨fun s slot j h1 _ => ?mldsaSigning, fun s slot j h1 _ h => ?fndsaSigning, fun s slot j =>
    ⟨fun h h1 _ => ?mldsaVerification, fun h h1 _ => ?muVerification, fun h h1 _ => ?fndsaVerification⟩⟩
  all_goals simp only [← nth_eq_col h1]
  case mldsaSigning =>
    exact ⟨fun h => dsaRun_endsInBlocks h ((exec_mldsaSign slot s).trans (runOp_running h _)),
      fun h => dsaRun_endsInBlocks h ((exec_mldsaSignMu slot s).trans (runOp_running h _))⟩
  case fndsaSigning => exact fndsaSign_endsInBlocks h
  case mldsaVerification => exact ⟨_, mldsaVerify_ends h, bare_status _⟩
  case muVerification => exact ⟨_, mldsaVerifyMu_ends h, bare_status _⟩
  case fndsaVerification =>
    refine ⟨_, fndsaVerify_ends h, ?_⟩
    simp only [fnKeyRefused_iff]
    exact bare_status _

end Sys2Proof.Lattice
end

section

/-! ### Composite pairs: the rows of R155 to R162 -/

namespace Sys2Proof.Composite

open Sys2Proof Sys2Proof.Machine Sys2Proof.Laws Sys2Proof.Lattice

/-! #### The rows that the commands stand for (R38) -/

theorem exec_hkemEncaps (slot : Fin 4096) (s : State) : exec (.hkemEncaps slot) s = execHkemEncaps slot s := rfl

theorem exec_hkemDecaps (slot : Fin 4096) (s : State) : exec (.hkemDecaps slot) s = execHkemDecaps slot s := rfl

theorem exec_csigSign (slot : Fin 4096) (s : State) : exec (.csigSign slot) s = execCsigSign slot s := rfl

theorem exec_csigVerify (slot : Fin 4096) (s : State) : exec (.csigVerify slot) s = execCsigVerify slot s := rfl

/-! #### The checks of a composite KEM (R157) -/

/-- Steps 2 and 3 of R157 on a result: a check that fails sets the status and leaves nothing else; with none, the secret goes
where TO_VAULT says. -/
def ClassicalChecked (j : Job) (PtBad : Prop) [Decidable PtBad] (ssCl secret before : Bytes) (r : Result) : Prop :=
  if PtBad then Bare r 0x34
  else if checksZero j = true ∧ allZero ssCl = true then Bare r 0x33
  else SecretOut j secret before r

/-- The model's result meets steps 2 and 3 where step 1 passes. -/
theorem hkemResult_classicalChecked (j : Job) {ptBad : Bool} {PtBad : Prop} [Decidable PtBad] (hpt : ptBad = true ↔ PtBad)
    (ssCl secret before : Bytes) :
    ClassicalChecked j PtBad ssCl secret before (hkemResult j false ptBad ssCl (vaultOrOut j secret before)) := by
  simp only [ClassicalChecked, hkemResult, ← hpt, ← Bool.and_eq_true, Bool.false_eq_true, if_false]
  by_cases hbad : ptBad = true
  · rw [if_pos hbad, if_pos hbad]
    exact bare_status _
  rw [if_neg hbad, if_neg hbad]
  by_cases hzero : (checksZero j && allZero ssCl) = true
  · rw [if_pos hzero, if_pos hzero]
    exact bare_status _
  · rw [if_neg hzero, if_neg hzero]
    exact vaultOrOut_secretOut _ _ _

/-- The model's result meets R157: step 1 comes first. -/
theorem hkemResult_checked (j : Job) {ekBad ptBad : Bool} {EkBad PtBad : Prop} [Decidable EkBad] [Decidable PtBad]
    (hek : ekBad = true ↔ EkBad) (hpt : ptBad = true ↔ PtBad) (ssCl secret before : Bytes) :
    let r := hkemResult j ekBad ptBad ssCl (vaultOrOut j secret before)
    if EkBad then Bare r 0x33 else ClassicalChecked j PtBad ssCl secret before r := by
  intro r
  by_cases hbad : EkBad
  · have hr : r = { status := stInputRange } := if_pos (hek.mpr hbad)
    rw [if_pos hbad, hr]
    exact bare_status _
  · have hpass : ekBad = false := Bool.eq_false_iff.mpr (mt hek.mp hbad)
    subst hpass
    rw [if_neg hbad]
    exact hkemResult_classicalChecked j hpt _ _ _

/-- Only a host's encapsulation key is checked (R157 step 1). -/
theorem ekRefused_iff (h : Header) (ek : Bytes) : (h.nullKey && !ekOk ek) = true ↔ h.keyHandle = 0 ∧ ekOk ek = false := by
  rw [Bool.and_eq_true, Bool.not_eq_true', nullKey_iff]

/-- Only the P-384 half of a composite KEM has a point to check (R157 step 2). -/
theorem pointRefused_iff (ps : Nat) (pk : Bytes) : (ps == 0x02 && !pointOk 2 pk) = true ↔ ps = 2 ∧ pointOk 2 pk = false := by
  rw [Bool.and_eq_true, Bool.not_eq_true', beq_iff_eq]

/-- The schedules of the composite KEM sets (R162). -/
theorem pairSched_kem {ps : Nat} (h1 : 1 ≤ ps) (h3 : ps ≤ 3) :
    pairSched ps false = col [143, 403, 423] ps ∧ pairSched ps true = col [73, 203, 213] ps := by
  obtain rfl | rfl | rfl : ps = 1 ∨ ps = 2 ∨ ps = 3 := by omega
  all_goals exact ⟨rfl, rfl⟩

/-! #### How the rows end -/

variable {s : State} {slot : Fin 4096} {j : Job}

/-- R155 to R157: an encapsulation combines a drawn ML-KEM message with an ephemeral classical agreement. -/
theorem hkemEncaps_ends (h : s.running slot.val 0x0F01 = some j) :
    let ps := j.hdr.pset
    let ek := (pubHalves j ps).1
    let pkCl := (pubHalves j ps).2
    let eph := clSecret ps ((j.random (32 + clKeyLen ps)).drop 32)
    let ctPq := mlkemCipher (pqHalf ps).2 ek (j.random 32)
    let ctCl := publicOf1 (clHalf ps).1 (clHalf ps).2 eph []
    let ssCl := clAgree ps eph pkCl
    Ends (.hkemEncaps slot) s slot.val j (pairSched ps false)
      (hkemResult j (j.hdr.nullKey && !ekOk ek) (ps == 0x02 && !pointOk 2 pkCl) ssCl
        (vaultOrOut j (hkemCombine ps (mlkemSecret (pqHalf ps).2 ek (j.random 32)) ssCl ctPq ctCl pkCl) (ctPq ++ ctCl))) :=
  ends_masks h ((exec_hkemEncaps slot s).trans (runOp_running h _))

/-- R155 to R157: a decapsulation reads the two ciphertexts one behind the other, and checks no encapsulation key. -/
theorem hkemDecaps_ends (h : s.running slot.val 0x0F02 = some j) :
    let ps := j.hdr.pset
    let ctPq := j.input.take (kemCt (pqHalf ps).2)
    let ctCl := j.input.drop (kemCt (pqHalf ps).2)
    let ssCl := clAgree ps (halves j).2 ctCl
    Ends (.hkemDecaps slot) s slot.val j (pairSched ps true)
      (hkemResult j false (ps == 0x02 && !pointOk 2 ctCl) ssCl
        (vaultOrOut j (hkemCombine ps (mlkemRecover (pqHalf ps).2 (halves j).1 ctPq) ssCl ctPq ctCl (pubHalves j ps).2) [])) :=
  ends_masks h ((exec_hkemDecaps slot s).trans (runOp_running h _))

/-- R159, R160, R162: the lattice half signs in blocks beside the classical half, and both stand behind the head. -/
theorem csigSign_endsInBlocks (h : s.running slot.val 0x0F03 = some j) :
    let ps := j.hdr.pset
    let lp := (pqHalf ps).2
    let mu := dsaMu (pubHalves j ps).1 (messageRep j.hdr j.pb (csigPrefix ps) j.input)
    let rnd := if j.hdr.has flDet then zeros 32 else j.random 32
    let sigCl := clSign ps (halves j).2 (csigClassical j.hdr j.pb j.input) (if j.hdr.has flDet then none else some (j.rand.drop 32))
    EndsInBlocks (.csigSign slot) s slot.val j 4 (dsaP lp) (dsaV lp) (csigE j.hdr j.pb j.hdr.inLen) (clLen ps false) 2
      (dsaPasses lp (halves j).1 mu rnd)
      (fun a => [1#8, u8 ps] ++ leBytes 2 (dsaSig lp) ++ dsaSignature lp (halves j).1 mu rnd a ++ sigCl) :=
  endsInBlocks_of h (.inl ((exec_csigSign slot s).trans (runOp_running h _)))

/-- What R161 asks of a composite signature over `m`: its head, and both halves at their fixed offsets. -/
def csigAccepts (j : Job) (sig m : Bytes) : Bool :=
  let ps := j.hdr.pset
  let lp := (pqHalf ps).2
  let pk := (pubHalves j ps).1
  byteAt sig 0 == 1 && byteAt sig 1 == ps && field sig 2 2 == dsaSig lp
    && dsaVerifies lp pk (dsaMu pk (messageRep j.hdr j.pb (csigPrefix ps) m)) (slice sig 4 (dsaSig lp))
    && clVerifies ps (pubHalves j ps).2 (csigClassical j.hdr j.pb m) (sig.drop (4 + dsaSig lp))

/-- The host's classical public key is a Weierstrass point off its curve (R161). -/
def csigPointRefused (j : Job) : Bool :=
  let cl := clHalf j.hdr.pset
  j.hdr.nullKey && cl.1 == 10 && !pointOk cl.2 (pubHalves j j.hdr.pset).2

/-- The status of a verification: the point comes before the signature (R161). -/
def csigStatus (j : Job) (sig m : Bytes) : Nat :=
  if csigPointRefused j then stPointInvalid else if csigAccepts j sig m then stOk else stVerifyFail

/-- R161: a verification runs its full schedule and answers with its status alone. -/
theorem csigVerify_ends (h : s.running slot.val 0x0F04 = some j) :
    let ps := j.hdr.pset
    let rest := j.afterKey (publicLen 15 ps)
    let m := rest.drop (csigLen ps)
    Ends (.csigVerify slot) s slot.val j (pairSched ps true + csigE j.hdr j.pb m.length)
      { status := csigStatus j (rest.take (csigLen ps)) m } :=
  ends_plain h ((exec_csigVerify slot s).trans (runOp_running h _))

/-! #### What a verification's status says (R161) -/

theorem csigAccepts_iff (j : Job) (sig m : Bytes) :
    let ps := j.hdr.pset
    let lp := (pqHalf ps).2
    let pk := (pubHalves j ps).1
    csigAccepts j sig m = true ↔ byteAt sig 0 = 1 ∧ byteAt sig 1 = ps ∧ field sig 2 2 = dsaSig lp
      ∧ dsaVerifies lp pk (dsaMu pk (messageRep j.hdr j.pb (csigPrefix ps) m)) (slice sig 4 (dsaSig lp)) = true
      ∧ clVerifies ps (pubHalves j ps).2 (csigClassical j.hdr j.pb m) (sig.drop (4 + dsaSig lp)) = true := by
  simp only [csigAccepts, Bool.and_eq_true, beq_iff_eq, and_assoc]

/-- Only a host's key is refused for its point. -/
theorem keyHandle_of_pointRefused (h : csigPointRefused j = true) : j.hdr.keyHandle = 0 := by
  simp only [csigPointRefused, Bool.and_eq_true] at h
  obtain ⟨⟨hnull, -⟩, -⟩ := h
  exact (nullKey_iff j.hdr).mp hnull

/-- The three ends of a verification. -/
theorem csigStatus_cases (j : Job) (sig m : Bytes) :
    csigStatus j sig m = 0x34 ∧ j.hdr.keyHandle = 0 ∨ csigStatus j sig m = 0x00 ∧ csigAccepts j sig m = true
      ∨ csigStatus j sig m = 0x30 := by
  by_cases hpoint : csigPointRefused j = true
  · exact .inl ⟨if_pos hpoint, keyHandle_of_pointRefused hpoint⟩
  rw [csigStatus, if_neg hpoint]
  by_cases hok : csigAccepts j sig m = true
  · exact .inr (.inl ⟨if_pos hok, hok⟩)
  · exact .inr (.inr (if_neg hok))

theorem csigAccepts_of_ok {sig m : Bytes} (h : csigStatus j sig m = 0x00) : csigAccepts j sig m = true := by
  obtain ⟨hpoint, -⟩ | ⟨-, hok⟩ | hfail := csigStatus_cases j sig m
  · omega
  · exact hok
  · omega

theorem csigStatus_of_not_ok {sig m : Bytes} (h : csigStatus j sig m ≠ 0x00) :
    csigStatus j sig m = 0x30 ∨ csigStatus j sig m = 0x34 ∧ j.hdr.keyHandle = 0 := by
  obtain hpoint | ⟨hok, -⟩ | hfail := csigStatus_cases j sig m
  · exact .inr hpoint
  · exact absurd hok h
  · exact .inl hfail

end Sys2Proof.Composite
end

section

namespace Sys2Proof.Composite

open Sys2Proof Sys2Proof.Machine Sys2Proof.Laws Sys2Proof.Lattice

/-- Settles O7: each row by the lemma about its end. R157's checks decide a KEM's result, the three statuses of R161 a
verification's. -/
theorem compositeOperations : Obligations.CompositeOperations := by
  refine ⟨fun s slot j h1 h3 => ?kem, fun s slot j => ⟨csigSign_endsInBlocks, fun h => ?verify⟩⟩
  case kem =>
    obtain ⟨hencaps, hdecaps⟩ := pairSched_kem h1 h3
    exact ⟨fun h => ⟨_, hencaps ▸ hkemEncaps_ends h, hkemResult_checked j (ekRefused_iff _ _) (pointRefused_iff _ _) _ _ _⟩,
      fun h => ⟨_, hdecaps ▸ hkemDecaps_ends h, hkemResult_classicalChecked j (pointRefused_iff _ _) _ _ _⟩⟩
  case verify =>
    exact ⟨_, csigVerify_ends h, bare_status _, fun hok => (csigAccepts_iff _ _ _).mp (csigAccepts_of_ok hok), csigStatus_of_not_ok⟩

end Sys2Proof.Composite
end

section

/-! ### SLH-DSA: the rows of R170 to R175 -/

namespace Sys2Proof.HashSig

open Sys2Proof Sys2Proof.Machine Sys2Proof.Laws Sys2Proof.Lattice

variable {s : State} {slot : Fin 4096} {j : Job}

theorem exec_slhdsaSign (slot : Fin 4096) (s : State) : exec (.slhdsaSign slot) s = execSlhdsaSign slot s := rfl

theorem exec_slhdsaVerify (slot : Fin 4096) (s : State) : exec (.slhdsaVerify slot) s = execSlhdsaVerify slot s := rfl

/-- R172: with DET the PK.seed of the key takes the place of the drawn bytes. -/
def slhOptRand (j : Job) : Bytes :=
  if j.hdr.has flDet then slice j.secret (2 * slhN j.hdr.pset) (slhN j.hdr.pset) else j.random (slhN j.hdr.pset)

/-- R172: a signing job is counted and releases its signature at the end of its schedule. -/
theorem slhdsaSign_ends (h : s.running slot.val 0x0401 = some j) :
    Ends (.slhdsaSign slot) s slot.val j (slhSign j.hdr.pset + slhE j.hdr j.pb j.hdr.inLen true)
      { status := stOk, bumps := [(entryKey 0x3221 1, 1)],
        out := primOut .sign [tag 4 j.hdr.pset, j.secret, messageRep j.hdr j.pb [] j.input, slhOptRand j] (slhSig j.hdr.pset) } :=
  ends_plain h ((exec_slhdsaSign slot s).trans (runOp_running h _))

/-- R175: a verification runs its full schedule and answers with its status alone. -/
theorem slhdsaVerify_ends (h : s.running slot.val 0x0402 = some j) :
    let rest := j.afterKey (publicLen 4 j.hdr.pset)
    let m := rest.drop (slhSig j.hdr.pset)
    Ends (.slhdsaVerify slot) s slot.val j (slhVerify j.hdr.pset + slhE j.hdr j.pb m.length false)
      { status := if Config.primB .verify [tag 4 j.hdr.pset, j.peerKey (publicLen 4 j.hdr.pset), messageRep j.hdr j.pb [] m,
          rest.take (slhSig j.hdr.pset)] then stOk else stVerifyFail } :=
  ends_plain h ((exec_slhdsaVerify slot s).trans (runOp_running h _))

end Sys2Proof.HashSig
end

section

namespace Sys2Proof.HashSig

open Sys2Proof Sys2Proof.Machine Sys2Proof.Lattice

/-- Settles O3: each row by the lemma about its end. -/
theorem slhdsaOperations : Obligations.SlhdsaOperations := fun _ _ _ =>
  ⟨fun h => ⟨_, slhdsaSign_ends h, rfl, rfl, rfl⟩, fun h => ⟨_, slhdsaVerify_ends h, bare_status _⟩⟩

end Sys2Proof.HashSig
end

section

/-! ### Reservations and one-time indices (R186 to R188) -/

namespace Sys2Proof.HashSig

open Sys2Proof Sys2Proof.Machine Sys2Proof.Laws Sys2Proof.Lattice

variable {s : State} {slot : Fin 4096} {j : Job} {i : Nat} {k : Key} {c : CounterState}

theorem exec_xmssReserve (slot : Fin 4096) (s : State) : exec (.xmssReserve slot) s = execXmssReserve slot s := rfl

/-- A key that can make no reservation is left as it is, and so is the rest of the device. -/
theorem reserve_of_not_canReserve (h : ∀ k, s.key? i = some k → s.canReserve i k = false) : s.reserve i = s := by
  unfold State.reserve
  split
  case h_1 => rfl
  case h_2 k hk => simp [h k hk]

/-- R179: only a KEY entry assigns one-time indices and reserves them. -/
theorem canReserve_of_not_key (s : State) (i : Nat) (h : k.state ≠ 1) : s.canReserve i k = false := by
  simp [State.canReserve, Key.counted, h]

theorem canReserve_of_ceil_rangeHi (s : State) (i : Nat) (h : k.rangeHi ≤ k.ceil) : s.canReserve i k = false := by
  have hspent : decide (k.ceil < k.rangeHi) = false := decide_eq_false (Nat.not_lt_of_le h)
  simp only [State.canReserve, hspent, Bool.and_false, Bool.false_and]

theorem finish_key? (s : State) (slot len : Nat) (r : Result) (i : Nat) : (s.finish slot len r).key? i = s.key? i := by
  unfold State.finish State.onJob
  split <;> rfl

/-- A RESERVE job for which no block is outstanding, the range has room and the copy area too, makes the reservation (R188). -/
theorem hbsReserve_eq (n : Nat) (hi : j.keyIndex = some i) (hk : s.key? i = some k) (hout : s.outstandingBlock i k = false)
    (hceil : k.ceil ≠ k.rangeHi) (hver : k.version ≠ 0xFFFFFFFF) (hcopy : s.copyFull k.domain (i / 32) = false) :
    s.hbsReserve n j = (s.reserve i).finish n 0 { status := stUncommitted, info := k.ceil } := by
  simp [State.hbsReserve, hi, hk, hout, hceil, hver, hcopy]

/-! #### A job that reserves for an entry that is no KEY -/

/-- An XMSS entry in state PUBLIC, with room in its range. -/
def publicEntry : Key :=
  { cls := 6, state := 2, gen := 1, domain := 0, pset := 1, version := 1,
    body := zeros 32 ++ leBytes 8 256 ++ leBytes 8 0 ++ leBytes 8 1024 ++ zeros 20 ++ leBytes 4 256 }

/-- Its counter values: what is reserved is committed. -/
def publicCounter : CounterState := { next := 5, ceilC := 256, ceilRound := 256 }

/-- An XMSS_RESERVE job in its schedule. -/
def reserveJob : Job :=
  { queue := 0, domain := 0, seq := 0, admitBeat := 0, age := 0, hdr := { opcode := 0x0603, pset := 1 }, phase := 5, keyIndex := some 0 }

/-- A device in Service that holds the entry and the job. -/
def publicReserve : State :=
  { beat := 2, mode := { mode := mService }, jobs := { slots := [(0, reserveJob)] },
    vault := { keys := [(0, publicEntry)], counters := [(0, publicCounter)] } }

/-- The job ends, and the entry is what it was. -/
theorem publicReserve_keeps : ∃ t, exec (.xmssReserve 0) publicReserve = .next t ∧ t.key? 0 = some publicEntry := by
  have hrun : publicReserve.running (0 : Fin 4096).val 0x0603 = some reserveJob := by decide
  have hres : publicReserve.reserve 0 = publicReserve := reserve_of_not_canReserve fun k hk => by
    obtain rfl : publicEntry = k := Option.some.inj hk
    exact canReserve_of_not_key _ _ (by decide)
  refine ⟨_, (exec_xmssReserve 0 _).trans (runOp_running hrun _), ?_⟩
  rw [hbsReserve_eq (i := 0) (k := publicEntry) _ rfl rfl (by decide) (by decide) (by decide) (by decide), finish_key?, hres]
  rfl

end Sys2Proof.HashSig
end

section

namespace Sys2Proof.HashSig

open Sys2Proof Sys2Proof.Machine

/-- Refutes O4: the clause on a reservation does not ask that the entry is a KEY, and only a KEY entry reserves. In `publicReserve` the
entry is PUBLIC, with CEIL below RANGE_HI and nothing outstanding: XMSS_RESERVE leaves it as it is, where the clause has VERSION and CEIL
advance. -/
theorem not_statefulSignatures : ¬ Obligations.StatefulSignatures := by
  rintro ⟨-, -, hreserve⟩
  obtain ⟨-, -, hblock, -⟩ := hreserve publicReserve 0 reserveJob 0 publicEntry publicCounter (.xmssReserve 0) rfl rfl rfl (.inr rfl)
    (.inr ⟨by decide, rfl⟩)
  obtain ⟨t, q, r, hnext, -, -, -, -, hkey⟩ := hblock (by decide) (by decide) (by decide) (by decide)
  obtain ⟨u, hu, hkeeps⟩ := publicReserve_keeps
  obtain rfl : u = t := Host.Outcome.next.inj (hu.symm.trans hnext)
  have hversion : publicEntry.version = publicEntry.version + 1 := congrArg Key.version (Option.some.inj (hkeeps.symm.trans hkey))
  omega

end Sys2Proof.HashSig
end

section

/-! ### Sealed frames (R496, R497) -/

namespace Sys2Proof.HerdLink

open Sys2Proof Sys2Proof.Machine

variable {s : State} {x : Peer} {h m : Bytes}

theorem primOut_length (f : Prim) (args : List Bytes) (n : Nat) : (primOut f args n).length = n := by
  simp [primOut]

/-! #### GCM's cipher undoes itself -/

/-- The bytes that CTR adds to `n` bytes of data (R259). -/
def keystream (key iv : Bytes) (n : Nat) : Bytes := (List.range (ceilDiv n 16)).flatMap (fun i => aesBlock key (ctrBlock iv i))

theorem ctrOut_eq (key iv data : Bytes) : ctrOut key iv data = xorBytes data (keystream key iv data.length) := rfl

theorem le_keystream_length (key iv : Bytes) (n : Nat) : n ≤ (keystream key iv n).length := by
  have hblocks : n ≤ ceilDiv n 16 * 16 := by
    unfold ceilDiv
    omega
  have hlen : (keystream key iv n).length = ceilDiv n 16 * 16 := by
    simp only [keystream, List.length_flatMap, aesBlock, primOut_length, List.map_const', List.length_range, List.sum_replicate_nat]
  rwa [hlen]

theorem xorBytes_length {data ks : Bytes} (hlen : data.length ≤ ks.length) : (xorBytes data ks).length = data.length := by
  simp [xorBytes, hlen]

theorem xorBytes_cancel {data ks : Bytes} (hlen : data.length ≤ ks.length) : xorBytes (xorBytes data ks) ks = data := by
  apply List.ext_getElem
  · simp [xorBytes, hlen]
  · intro n h1 h2
    simp only [xorBytes, List.getElem_zipWith, BitVec.xor_assoc, BitVec.xor_self, BitVec.xor_zero]

theorem gcmCipher_length (key iv data : Bytes) : (gcmCipher key iv data).length = data.length :=
  xorBytes_length (le_keystream_length _ _ _)

theorem gcmCipher_gcmCipher (key iv data : Bytes) : gcmCipher key iv (gcmCipher key iv data) = data := by
  rw [gcmCipher, ctrOut_eq, gcmCipher_length]
  exact xorBytes_cancel (le_keystream_length _ _ _)

/-! #### What is read of a frame's head -/

theorem slice_append_left {a : Bytes} (b : Bytes) {off len : Nat} (hin : off + len ≤ a.length) :
    slice (a ++ b) off len = slice a off len := by
  rw [slice, slice, List.drop_append_of_le_length (by omega), List.take_append_of_le_length (by simp; omega)]

theorem field_append_left {a : Bytes} (b : Bytes) {off len : Nat} (hin : off + len ≤ a.length) :
    field (a ++ b) off len = field a off len := by
  rw [field, field, slice_append_left b hin]

theorem slice_append_right (a b : Bytes) (off len : Nat) : slice (a ++ b) (a.length + off) len = slice b off len := by
  rw [slice, List.drop_length_add_append, slice]

theorem byteAt_append_left {a : Bytes} (b : Bytes) {i : Nat} (hin : i < a.length) : byteAt (a ++ b) i = byteAt a i := by
  rw [byteAt, byteAt, List.getD_eq_getElem?_getD, List.getD_eq_getElem?_getD, List.getElem?_append_left hin]

/-! #### A frame that a peer has sealed -/

/-- The frame of a payload under a head, sealed with the keys that this device opens the peer's frames with (R497). -/
def sealedFrame (x : Peer) (h m : Bytes) : Bytes := h ++ gcmSeal x.keyRx (frameIv x.saltRx (field h 16 8)) (frameAad h) m

theorem gcmSeal_length (key iv aad m : Bytes) : (gcmSeal key iv aad m).length = m.length + 16 := by
  simp [gcmSeal, primOut_length, gcmCipher_length]

theorem sealedFrame_length (x : Peer) (hh : h.length = 32) (m : Bytes) : (sealedFrame x h m).length = m.length + 48 := by
  rw [sealedFrame, List.length_append, gcmSeal_length, hh]
  omega

/-- Such a frame passes once its counter is new and its epoch current. -/
theorem frameAccepted_sealedFrame (hh : h.length = 32) (hctr : x.ctrRx < field h 16 8) (hepoch : field h 8 4 = s.herd.epoch) (m : Bytes) :
    s.frameAccepted x (sealedFrame x h m) = true := by
  have hbody : (sealedFrame x h m).drop 32 = gcmSeal x.keyRx (frameIv x.saltRx (field h 16 8)) (frameAad h) m :=
    List.drop_left' hh
  have hhead : (sealedFrame x h m).take 32 = h := List.take_left' hh
  have hlen : (gcmSeal x.keyRx (frameIv x.saltRx (field h 16 8)) (frameAad h) m).length - 16 = m.length := by
    rw [gcmSeal_length]
    omega
  have hcount : field (sealedFrame x h m) 16 8 = field h 16 8 := field_append_left _ (by omega)
  have hep : field (sealedFrame x h m) 8 4 = field h 8 4 := field_append_left _ (by omega)
  simp only [State.frameAccepted, hbody, hhead, hlen, hcount, hep, hepoch]
  rw [gcmSeal, List.take_left' (gcmCipher_length _ _ _), List.drop_left' (gcmCipher_length _ _ _)]
  simp [hctr]

/-- Its payload is what was sealed. -/
theorem framePlain_sealedFrame (hh : h.length = 32) (m : Bytes) : framePlain x (sealedFrame x h m) = m := by
  have hlen : (sealedFrame x h m).length - 48 = m.length := by
    rw [sealedFrame_length x hh]
    omega
  have hcount : field (sealedFrame x h m) 16 8 = field h 16 8 := field_append_left _ (by omega)
  have hbody : slice (sealedFrame x h m) 32 m.length = gcmCipher x.keyRx (frameIv x.saltRx (field h 16 8)) m := by
    rw [slice, sealedFrame, List.drop_left' hh, gcmSeal, List.take_left' (gcmCipher_length _ _ _)]
  simp only [framePlain, hlen, hcount, hbody, gcmCipher_gcmCipher]

/-! #### From the frame to its message -/

variable {port typ p : Nat} {b : Bytes}

theorem herdDead_of_serves (hs : s.herdServes = true) : s.herdDead = false := by
  simp only [State.herdServes, Bool.or_eq_true, beq_iff_eq] at hs
  obtain ((((hm | hm) | hm) | hm) | hm) | hm := hs <;> rw [State.herdDead, hm] <;> decide

/-- R498: a frame from a member for this device is taken. -/
theorem onFrame_of_frameFor (hf : FrameFor s port typ p b) (act : State → Nat → Bytes → State) :
    s.onFrame port typ b act = s.wake.takeFrame p b act := by
  obtain ⟨hup, husable, htyp, hok, hpos, hsrc, hother, hmember, hserves⟩ := hf
  subst hsrc
  have hbarred : ¬ (byteAt b 2 = byteAt b 3 ∨ s.herd.members.length ≤ byteAt b 2) := by omega
  simp [State.onFrame, hpos, hup, husable, htyp, hok, hserves, herdDead_of_serves hserves, hbarred]

/-- A message of one fragment is whole with it (R496). -/
theorem assemble_single (x : Peer) (msg : Nat) (data : Bytes) : assemble x msg 0 1 data = ({ x with frags := none }, some data) := rfl

/-- R496, R497: a sealed frame that passes and holds its whole message is acted upon, with the peer alone changed before. -/
theorem takeFrame_single (henc : sealedType (byteAt b 1) = true) (hup : (s.peer p).up = true)
    (hacc : s.frameAccepted (s.peer p) b = true) (hfrag : byteAt b 14 = 0) (hcount : byteAt b 15 = 1)
    (act : State → Nat → Bytes → State) : ∃ y, s.takeFrame p b act = act (s.setPeer p y) p (framePlain (s.peer p) b) := by
  simp only [State.takeFrame, henc, hup, hacc, hfrag, hcount, assemble_single, Bool.not_true, Bool.and_false, Bool.false_eq_true, if_false,
    if_true]
  exact ⟨_, rfl⟩

end Sys2Proof.HerdLink
end

section

/-! ### One-time indices of jobs, and the latch of a partition conflict (R187, R195) -/

namespace Sys2Proof.HerdLink

open Sys2Proof Sys2Proof.Machine Sys2Proof.Laws Sys2Proof.HashSig
open Sys2Proof.SlotWheel (wake_of_awake)

variable {s : State} {p slot i : Nat} {j : Job} {k : Key} {c : CounterState} {m : Bytes}

theorem refreshTraversal_key? (s : State) (n i : Nat) : (s.refreshTraversal n).key? i = s.key? i := by
  unfold State.refreshTraversal
  split
  · split <;> rfl
  · rfl

theorem refreshTraversal_counter? (s : State) (n i : Nat) : (s.refreshTraversal n).counter? i = s.counter? i := by
  unfold State.refreshTraversal
  split
  · split <;> rfl
  · rfl

/-- A key whose whole range is reserved makes no automatic reservation. -/
theorem autoReserve_of_ceil_rangeHi (hk : s.key? i = some k) (hceil : k.rangeHi ≤ k.ceil) : s.autoReserve i = s := by
  have hres : s.reserve i = s := reserve_of_not_canReserve fun q hq => by
    obtain rfl : k = q := Option.some.inj (hk.symm.trans hq)
    exact canReserve_of_ceil_rangeHi _ _ hceil
  unfold State.autoReserve
  split
  · exact ite_eq_right_iff.mpr fun _ => hres
  · rfl

/-- R187: a job that is owed its index takes NEXT, and NEXT advances by one. -/
theorem assign_counter? (hj : s.job? slot = some j) (hwants : j.wants = true) (hi : j.keyIndex = some i) (hc : s.counter? i = some c)
    (hk : s.key? i = some k) (hceil : k.rangeHi ≤ k.ceil) : (s.assign slot).counter? i = some { c with next := c.next + 1 } := by
  simp only [State.assign, hj, hwants, hi, hc]
  refine (congrArg (State.counter? · i) (autoReserve_of_ceil_rangeHi (k := k) ?_ hceil)).trans ?_
  · exact (refreshTraversal_key? _ _ _).trans hk
  · exact (refreshTraversal_counter? _ _ _).trans (counter_setCounter _ _ _)

theorem lose_counter? (s : State) (n i : Nat) : (s.lose n).counter? i = s.counter? i := rfl

/-- R195: the latch leaves NEXT at what it is once the jobs of the key that are owed an index have taken theirs. -/
theorem partitionConflict_next (s : State) (i : Nat) (k : Key) :
    ((s.partitionConflict i k).counter? i).map (·.next) = ((s.assignKey i).counter? i).map (·.next) := by
  unfold State.partitionConflict
  dsimp only
  split
  case h_1 hnone => rw [hnone]
  case h_2 c hc =>
    rw [lose_counter?, counter_setCounter, hc]
    rfl

/-- The key that a record of a PARTITION_STATE names (R195). -/
def namedKey (s : State) (m : Bytes) : Option (Nat × Key) :=
  s.vault.keys.find? (fun x => x.2.state == 1 && stateful x.2.cls && x.2.partEpoch != 0 && x.2.pkHash == m.take 32)

/-- R505: a PARTITION_STATE of one record that names a key with the same epoch and another digest latches it. -/
theorem onPartitionState_conflict (hfull : s.herdFull = true) (hlen : m.length = 52) (hnamed : namedKey s m = some (i, k))
    (hepoch : k.partEpoch = field m 32 4) (hdigest : k.partDigest ≠ slice m 36 16) :
    s.onPartitionState p m = s.partitionConflict i k := by
  have hwhole : slice m 0 52 = m := List.take_of_length_le (by simp [hlen])
  have hone : s.onPartitionState p m = s.checkPartition m := by
    simp [State.onPartitionState, hfull, hlen, hwhole]
  rw [namedKey] at hnamed
  simp [hone, State.checkPartition, hnamed, hepoch, hdigest]

theorem exec_partitionState (port : Fin 2) (b : Bytes) (s : State) : exec (.partitionState port b) s = execPartitionState port b s := rfl

/-! #### A conflict that is found while a job is owed its index -/

/-- A partitioned XMSS key of epoch 1 whose whole range is reserved. -/
def splitKey : Key :=
  { cls := 6, state := 1, gen := 1, domain := 0, pset := 1, version := 1, attrs := 2 ^ aHerd,
    body := zeros 32 ++ leBytes 8 1024 ++ leBytes 8 0 ++ leBytes 8 1024 ++ leBytes 4 1 ++ zeros 16 ++ leBytes 4 256 }

/-- Its counter values: the whole range is committed, and indices 0 to 4 are taken. -/
def splitCounter : CounterState := { next := 5, ceilC := 1024, ceilRound := 1024 }

/-- An XMSS_SIGN job in staging that has passed the test of R187 and has no index yet. -/
def owedJob : Job :=
  { queue := 0, domain := 0, seq := 0, admitBeat := 0, age := 0, hdr := { opcode := 0x0601, pset := 1 }, phase := 5, granted := 10,
    keyIndex := some 0, key := some splitKey, wants := true }

/-- A peer in session. -/
def sessionPeer : Peer :=
  { state := 2, up := true, keyRx := List.replicate 32 1#8, keyTx := List.replicate 32 2#8, saltRx := zeros 4, saltTx := zeros 4 }

/-- A device in Service, at position 0 of a Herd of two, in session with the other member, with the key and the job. -/
def splitState : State :=
  { beat := 10, mode := { mode := mService }, jobs := { slots := [(0, owedJob)] },
    vault := { keys := [(0, splitKey)], counters := [(0, splitCounter)] },
    herd := { members := [deviceIdBytes, zeros 32], ports := [(0, { up := true, usable := true, neighbour := 1 })],
              peers := [(1, sessionPeer)] } }

/-- The record of a peer that holds another partition table for the epoch of the key. -/
def splitRecord : Bytes := splitKey.pkHash ++ (leBytes 4 1 ++ List.replicate 16 1#8)

/-- The head of the peer's PARTITION_STATE. -/
def splitHead : Bytes := frameHeader 0x13 1 0 7 3 52 0 1 0 1 1

/-- The peer's PARTITION_STATE. -/
def splitFrame : Bytes := sealedFrame sessionPeer splitHead splitRecord

theorem splitKey_pkHash_length : splitKey.pkHash.length = 32 := primOut_length _ _ _

theorem splitRecord_length : splitRecord.length = 52 := by
  rw [splitRecord, List.length_append, splitKey_pkHash_length]
  rfl

theorem slice_splitRecord (off len : Nat) :
    slice splitRecord (32 + off) len = slice (leBytes 4 1 ++ List.replicate 16 1#8) off len := by
  rw [← splitKey_pkHash_length]
  exact slice_append_right _ _ _ _

theorem splitState_namedKey : namedKey splitState splitRecord = some (0, splitKey) := by
  have hhash : splitRecord.take 32 = splitKey.pkHash := List.take_left' splitKey_pkHash_length
  refine List.find?_cons_of_pos ?_
  rw [hhash, beq_self_eq_true, Bool.and_true]
  decide

/-- The record has the epoch of the key and another digest. -/
theorem splitRecord_conflicts : splitKey.partEpoch = field splitRecord 32 4 ∧ splitKey.partDigest ≠ slice splitRecord 36 16 := by
  constructor
  · rw [field, slice_splitRecord 0]
    decide
  · rw [slice_splitRecord 4]
    decide

theorem splitFrame_byteAt {i : Nat} (hi : i < 32) : byteAt splitFrame i = byteAt splitHead i := byteAt_append_left _ hi

theorem splitFrame_ok : frameOk splitFrame = true := by
  have hlen : splitFrame.length = 100 := by rw [splitFrame, sealedFrame_length _ rfl, splitRecord_length]
  have hfield (off len : Nat) (hin : off + len ≤ 32) : field splitFrame off len = field splitHead off len := field_append_left _ hin
  have hreserved : slice splitFrame 24 8 = slice splitHead 24 8 := slice_append_left _ (by decide)
  simp only [frameOk, hlen, hreserved, splitFrame_byteAt, hfield, Nat.reduceLT, Nat.reduceAdd, Nat.reduceLeDiff]
  decide

theorem splitFrame_frameFor : FrameFor splitState (0 : Fin 2).val 0x13 1 splitFrame := by
  have hpos : splitState.herdPos = some 0 := by simp [State.herdPos, splitState, memberIndex]
  rw [FrameFor, hpos]
  simp only [splitFrame_byteAt, Nat.reduceLT]
  exact ⟨rfl, rfl, by decide, splitFrame_ok, by decide, by decide, by decide, by decide, rfl⟩

theorem splitFrame_accepted : splitState.frameAccepted (splitState.peer 1) splitFrame = true :=
  frameAccepted_sealedFrame rfl (by decide) (by decide) _

theorem splitFrame_plain : framePlain (splitState.peer 1) splitFrame = splitRecord := framePlain_sealedFrame rfl _

/-- The frame is the only fragment of its message. -/
theorem splitFrame_single : byteAt splitFrame 14 = 0 ∧ byteAt splitFrame 15 = 1 :=
  ⟨splitFrame_byteAt (by decide), splitFrame_byteAt (by decide)⟩

/-- The key is latched behind the index of the job, which is 5. -/
theorem splitState_next : ∃ t, exec (.partitionState 0 splitFrame) splitState = .next t ∧ (t.counter? 0).map (·.next) = some 6 := by
  obtain ⟨hfrag, hcount⟩ := splitFrame_single
  obtain ⟨hepoch, hdigest⟩ := splitRecord_conflicts
  have hsealed : sealedType (byteAt splitFrame 1) = true := by
    rw [splitFrame_byteAt (by decide)]
    decide
  obtain ⟨y, hy⟩ := takeFrame_single hsealed rfl splitFrame_accepted hfrag hcount State.onPartitionState
  have howed : (splitState.setPeer 1 y).owedIndex (fun q => q.keyIndex == some 0) = [0] := rfl
  refine ⟨_, exec_partitionState 0 splitFrame splitState, ?_⟩
  rw [onFrame_of_frameFor splitFrame_frameFor, wake_of_awake (by decide), hy, splitFrame_plain,
    onPartitionState_conflict (s := splitState.setPeer 1 y) rfl splitRecord_length splitState_namedKey hepoch hdigest,
    partitionConflict_next, State.assignKey, howed, List.foldl_cons, List.foldl_nil,
    assign_counter? (j := owedJob) rfl rfl rfl rfl rfl (by decide)]
  rfl

end Sys2Proof.HerdLink
end

section

namespace Sys2Proof.HerdLink

open Sys2Proof Sys2Proof.Machine

/-- Refutes O45: the clause on PARTITION_STATE has CEIL_C latched at the NEXT that the frame finds. A job that has passed the test of R187
and waits for its first schedule beat takes its index before the key is latched: in `splitState` NEXT is 5, the job takes 5, and the
latched key has NEXT and CEIL_C at 6. -/
theorem not_herdReplication : ¬ Obligations.HerdReplication := by
  rintro ⟨hframes, -⟩
  obtain ⟨-, -, -, hpartition⟩ := hframes splitState 0 splitFrame 1
  obtain ⟨t, hnext, hact⟩ := hpartition splitFrame_frameFor rfl
  obtain ⟨hfrag, hcount⟩ := splitFrame_single
  have hwhole : (assemble (splitState.peer 1) (field splitFrame 12 2) (byteAt splitFrame 14) (byteAt splitFrame 15)
      (framePlain (splitState.peer 1) splitFrame)).2 = some splitRecord := by
    rw [hfrag, hcount, assemble_single, splitFrame_plain]
  obtain ⟨hlatched, -⟩ := hact splitFrame_accepted splitRecord hwhole rfl splitRecord_length
  obtain ⟨hepoch, hdigest⟩ := splitRecord_conflicts
  have hcounter := hlatched 0 splitKey splitCounter splitState_namedKey hepoch hdigest rfl
  obtain ⟨u, hu, hkeeps⟩ := splitState_next
  obtain rfl : u = t := Host.Outcome.next.inj (hu.symm.trans hnext)
  rw [hcounter] at hkeeps
  exact absurd hkeeps (by decide)

end Sys2Proof.HerdLink
end

section

/-! ### HQC and Classic McEliece: the rows of R207 to R211 -/

namespace Sys2Proof.CodeKem

open Sys2Proof Sys2Proof.Machine Sys2Proof.Laws Sys2Proof.Lattice

theorem exec_hqcEncaps (slot : Fin 4096) (s : State) : exec (.hqcEncaps slot) s = execHqcEncaps slot s := rfl

theorem exec_hqcDecaps (slot : Fin 4096) (s : State) : exec (.hqcDecaps slot) s = execHqcDecaps slot s := rfl

theorem exec_cmEncaps (slot : Fin 4096) (s : State) : exec (.cmEncaps slot) s = execCmEncaps slot s := rfl

theorem exec_cmDecaps (slot : Fin 4096) (s : State) : exec (.cmDecaps slot) s = execCmDecaps slot s := rfl

/-- The encapsulation and the decapsulation of a class of code-based KEMs (R207). -/
def IsCodeRows (cls : Nat) (slot : Fin 4096) (enc dec : Instr) : Prop :=
  cls = 7 ∧ enc = .hqcEncaps slot ∧ dec = .hqcDecaps slot ∨ cls = 8 ∧ enc = .cmEncaps slot ∧ dec = .cmDecaps slot

variable {s : State} {slot : Fin 4096} {j : Job} {cls : Nat} {enc dec : Instr}

/-- One schedule serves the encapsulations of both classes, under the code of the class. -/
theorem exec_encaps (h : IsCodeRows cls slot enc dec) (s : State) :
    exec enc s = s.runOp slot.val (256 * cls + 1) fun t j => t.codeEncapsRun slot.val j cls := by
  obtain ⟨rfl, rfl, -⟩ | ⟨rfl, rfl, -⟩ := h
  · exact exec_hqcEncaps slot s
  · exact exec_cmEncaps slot s

/-- One schedule serves the decapsulations of both classes. -/
theorem exec_decaps (h : IsCodeRows cls slot enc dec) (s : State) :
    exec dec s = s.runOp slot.val (256 * cls + 2) fun t j => t.codeDecapsRun slot.val j cls := by
  obtain ⟨rfl, -, rfl⟩ | ⟨rfl, -, rfl⟩ := h
  · exact exec_hqcDecaps slot s
  · exact exec_cmDecaps slot s

/-- R207, R211: an encapsulation releases its ciphertext and secret where its key comes from the vault or has no padding bit set. -/
theorem encaps_ends (hrow : IsCodeRows cls slot enc dec) (h : s.running slot.val (256 * cls + 1) = some j) :
    let pk := j.peerKey (publicLen cls j.hdr.pset)
    let m := j.random (codeDraw cls j.hdr.pset)
    Ends enc s slot.val j (codeEncaps cls j.hdr.pset)
      (Result.when (!j.hdr.nullKey || paddingOk cls j.hdr.pset pk) stInputRange
        (vaultOrOut j (primOut .kemSecret [tag cls j.hdr.pset, pk, m] (codeK cls))
          (primOut .kemCipher [tag cls j.hdr.pset, pk, m] (codeCt cls j.hdr.pset)))) :=
  ends_plain h ((exec_encaps hrow s).trans (runOp_running h _))

/-- R210: a decapsulation releases the key that it recovers, whatever the ciphertext. -/
theorem decaps_ends (hrow : IsCodeRows cls slot enc dec) (h : s.running slot.val (256 * cls + 2) = some j) :
    Ends dec s slot.val j (codeDecaps cls j.hdr.pset)
      (vaultOrOut j (primOut .recover [tag cls j.hdr.pset,
        if cls = 7 then hqcSeeds j.hdr.pset j.secret else j.secret, j.input] (codeK cls)) []) :=
  ends_plain h ((exec_decaps hrow s).trans (runOp_running h _))

/-- Only a host's key is refused for its padding (R211). -/
theorem keyPasses_eq_false_iff (h : Header) (paddingClear : Bool) :
    (!h.nullKey || paddingClear) = false ↔ h.keyHandle = 0 ∧ paddingClear = false := by
  rw [Bool.or_eq_false_iff, Bool.not_eq_false', nullKey_iff]

/-- The padding check decides an encapsulation's result: its status alone, or the secret (R40, R211). -/
theorem when_keyPasses_checked (j : Job) (paddingClear : Bool) (secret before : Bytes) :
    let r := Result.when (!j.hdr.nullKey || paddingClear) stInputRange (vaultOrOut j secret before)
    if j.hdr.keyHandle = 0 ∧ paddingClear = false then Bare r 0x33 else SecretOut j secret before r := by
  intro r
  by_cases hbad : j.hdr.keyHandle = 0 ∧ paddingClear = false
  · have hr : r = { status := stInputRange } :=
      if_neg (Bool.eq_false_iff.mp ((keyPasses_eq_false_iff _ _).mpr hbad))
    rw [if_pos hbad, hr]
    exact bare_status _
  · have hr : r = vaultOrOut j secret before :=
      if_pos (eq_true_of_ne_false (mt (keyPasses_eq_false_iff _ _).mp hbad))
    rw [if_neg hbad, hr]
    exact vaultOrOut_secretOut _ _ _

end Sys2Proof.CodeKem
end

section

namespace Sys2Proof.CodeKem

open Sys2Proof Sys2Proof.Machine Sys2Proof.Lattice

/-- Settles O5: each row by the lemma about its end; the padding check chooses between an encapsulation's two results, and nothing
does in a decapsulation. -/
theorem codeKems : Obligations.CodeKems := fun _ _ j _ _ _ hrow =>
  ⟨fun h => ⟨_, encaps_ends hrow h, when_keyPasses_checked j _ _ _⟩,
    fun h => ⟨_, decaps_ends hrow h, vaultOrOut_secretOut _ _ _⟩⟩

end Sys2Proof.CodeKem
end

section

/-! ### RSA: the rows of R230 to R233, R242 and R243 -/

namespace Sys2Proof.Classical

open Sys2Proof Sys2Proof.Machine Sys2Proof.Laws Sys2Proof.Lattice

/-! #### The rows that the commands stand for (R38) -/

theorem exec_rsaOaepEncrypt (slot : Fin 4096) (s : State) : exec (.rsaOaepEncrypt slot) s = execRsaOaepEncrypt slot s := rfl

theorem exec_rsaOaepDecrypt (slot : Fin 4096) (s : State) : exec (.rsaOaepDecrypt slot) s = execRsaOaepDecrypt slot s := rfl

theorem exec_rsaPssSign (slot : Fin 4096) (s : State) : exec (.rsaPssSign slot) s = execRsaPssSign slot s := rfl

theorem exec_rsaPssVerify (slot : Fin 4096) (s : State) : exec (.rsaPssVerify slot) s = execRsaPssVerify slot s := rfl

theorem exec_rsaV15Sign (slot : Fin 4096) (s : State) : exec (.rsaV15Sign slot) s = execRsaV15Sign slot s := rfl

theorem exec_rsaV15Verify (slot : Fin 4096) (s : State) : exec (.rsaV15Verify slot) s = execRsaV15Verify slot s := rfl

variable {s : State} {slot : Fin 4096} {j : Job} {c : Instr}

/-- PSS and v1.5 signing run one schedule, each under its own operation code. -/
theorem rsaSign_of_row
    (h : s.running slot.val 0x0903 = some j ∧ c = .rsaPssSign slot
      ∨ s.running slot.val 0x0905 = some j ∧ c = .rsaV15Sign slot) :
    (∃ op, s.running slot.val op = some j) ∧ exec c s = .next (s.rsaSign slot.val j) := by
  obtain ⟨h, rfl⟩ | ⟨h, rfl⟩ := h
  · exact ⟨⟨_, h⟩, (exec_rsaPssSign slot s).trans (runOp_running h _)⟩
  · exact ⟨⟨_, h⟩, (exec_rsaV15Sign slot s).trans (runOp_running h _)⟩

/-- PSS and v1.5 verification run one schedule, each under its own operation code. -/
theorem rsaVerify_of_row
    (h : s.running slot.val 0x0904 = some j ∧ c = .rsaPssVerify slot
      ∨ s.running slot.val 0x0906 = some j ∧ c = .rsaV15Verify slot) :
    (∃ op, s.running slot.val op = some j) ∧ exec c s = .next (s.rsaVerify slot.val j) := by
  obtain ⟨h, rfl⟩ | ⟨h, rfl⟩ := h
  · exact ⟨⟨_, h⟩, (exec_rsaPssVerify slot s).trans (runOp_running h _)⟩
  · exact ⟨⟨_, h⟩, (exec_rsaV15Verify slot s).trans (runOp_running h _)⟩

/-! #### The checks of a host key (R233) -/

/-- The status that a job's public key ends it with, if any: a key of the vault is not checked again. -/
def rsaKeyStatus (j : Job) : Option Nat :=
  if j.hdr.nullKey then rsaPkStatus j.hdr.pset (j.peerKey (publicLen 9 j.hdr.pset)) else none

theorem rsaKeyStatus_of_host (h0 : j.hdr.keyHandle = 0) :
    rsaKeyStatus j = rsaPkStatus j.hdr.pset (j.peerKey (publicLen 9 j.hdr.pset)) :=
  if_pos ((nullKey_iff j.hdr).mpr h0)

theorem rsaKeyStatus_eq_none
    (h : j.hdr.keyHandle ≠ 0 ∨ rsaPkStatus j.hdr.pset (j.peerKey (publicLen 9 j.hdr.pset)) = none) :
    rsaKeyStatus j = none := by
  by_cases h0 : j.hdr.keyHandle = 0
  · exact (rsaKeyStatus_of_host h0).trans (h.resolve_left (not_not_intro h0))
  · exact if_neg (mt (nullKey_iff j.hdr).mp h0)

/-! #### Encryption and decryption -/

/-- R230, R233: the host's key is checked before anything is encoded. -/
theorem rsaOaepEncrypt_ends (h : s.running slot.val 0x0901 = some j) :
    let n := publicLen 9 j.hdr.pset
    Ends (.rsaOaepEncrypt slot) s slot.val j (rsaPublic j.hdr.pset)
      ((rsaKeyStatus j).elim
        { status := stOk, out := primOut .oaepEncode [tag 9 j.hdr.pset, j.peerKey n, j.pb.body, j.afterKey n,
            j.random (phLen j.pb.hash)] (rsaK j.hdr.pset) }
        fun st => { status := st }) := by
  refine ends_plain h (((exec_rsaOaepEncrypt slot s).trans (runOp_running h _)).trans ?_)
  cases hst : rsaKeyStatus j
  all_goals
    rw [rsaKeyStatus] at hst
    simp only [hst] <;> rfl

/-- What the decoding of OAEP works on. -/
def oaepArgs (j : Job) : List Bytes := [tag 9 j.hdr.pset, j.secret, j.pb.body, j.input]

/-- The length of the message that the decoding finds, at most k − 2hLen − 2 (R232). -/
def oaepLen (j : Job) : Nat := min (Config.primN .oaepDecode (oaepArgs j)) (rsaK j.hdr.pset - 2 * phLen j.pb.hash - 2)

/-- The message does not decode, or does not fit the key that is to keep it (R232). -/
def oaepRefused (j : Job) : Bool :=
  !Config.primB .oaepOk (oaepArgs j) || (j.hdr.tv && oaepLen j != secretLen j.pb.cls j.pb.newPset)

/-- The result of a decryption: the range of the ciphertext comes before the decoding (R232, R242). -/
def oaepResult (j : Job) : Result :=
  if rsaRange j.keyPk j.input then { status := stInputRange }
  else if oaepRefused j then { status := stDecodeFail }
  else vaultOrOut j (primOut .oaepDecode (oaepArgs j) (oaepLen j)) []

/-- R232: a decryption runs its full schedule, whatever it finds. -/
theorem rsaOaepDecrypt_ends (h : s.running slot.val 0x0902 = some j) :
    Ends (.rsaOaepDecrypt slot) s slot.val j (rsaPrivate j.hdr.pset) (oaepResult j) :=
  ends_masks h ((exec_rsaOaepDecrypt slot s).trans (runOp_running h _))

theorem oaepRefused_iff (j : Job) : oaepRefused j = true ↔ Config.primB .oaepOk (oaepArgs j) = false
    ∨ j.hdr.has flToVault = true ∧ oaepLen j ≠ secretLen j.pb.cls j.pb.newPset := by
  simp only [oaepRefused, Header.tv, Bool.or_eq_true, Bool.not_eq_true', Bool.and_eq_true, bne_iff_ne]

theorem oaepResult_of_range (h : rsaRange j.keyPk j.input = true) : Bare (oaepResult j) 0x33 := by
  rw [oaepResult, if_pos h]
  exact bare_status _

/-- One status serves every failure of the decoding (R232). -/
theorem oaepResult_of_refused (hrange : rsaRange j.keyPk j.input = false) (h : oaepRefused j = true) :
    Bare (oaepResult j) 0x38 := by
  rw [oaepResult, hrange, if_neg Bool.false_ne_true, if_pos h]
  exact bare_status _

theorem oaepResult_of_decoded (hrange : rsaRange j.keyPk j.input = false) (hok : Config.primB .oaepOk (oaepArgs j) = true)
    (hfits : j.hdr.has flToVault = false ∨ oaepLen j = secretLen j.pb.cls j.pb.newPset) :
    SecretOut j (primOut .oaepDecode (oaepArgs j) (oaepLen j)) [] (oaepResult j) := by
  have hpass : ¬ oaepRefused j = true := by
    rw [oaepRefused_iff]
    rintro (hbad | ⟨hvault, hlen⟩)
    · exact Bool.false_ne_true (hbad.symm.trans hok)
    · exact hfits.elim (fun hout => Bool.false_ne_true (hout.symm.trans hvault)) hlen
  rw [oaepResult, hrange, if_neg Bool.false_ne_true, if_neg hpass]
  exact vaultOrOut_secretOut _ _ _

/-! #### Signatures -/

/-- What tells the schemes of RSA signatures apart, in front of the rest of their operands. -/
def rsaScheme (j : Job) : Bytes := tag 9 j.hdr.pset ++ [u8 (rsaKind j.hdr / 2), u8 (flag (j.hdr.has flPrehash))]

/-- R230: a signature over the input; PSS alone draws a salt. -/
theorem rsaSign_ends
    (h : s.running slot.val 0x0903 = some j ∧ c = .rsaPssSign slot
      ∨ s.running slot.val 0x0905 = some j ∧ c = .rsaV15Sign slot) :
    Ends c s slot.val j (rsaPrivate j.hdr.pset + classicE j.hdr j.pb.hash j.hdr.inLen)
      { status := stOk, out := primOut .sign [rsaScheme j, j.secret, j.pb.body, j.input,
          if j.hdr.opcode = 0x0903 then j.random j.pb.saltLen else []] (rsaK j.hdr.pset) } := by
  obtain ⟨⟨_, hrun⟩, hrow⟩ := rsaSign_of_row h
  exact ends_masks hrun hrow

/-- The status of a signature under a usable key: its range comes before its check (R242). -/
def rsaSigStatus (j : Job) : Nat :=
  let pk := j.peerKey (publicLen 9 j.hdr.pset)
  let rest := j.afterKey (publicLen 9 j.hdr.pset)
  let k := rsaK j.hdr.pset
  if rsaRange pk (rest.take k) then stInputRange
  else if Config.primB .verify [rsaScheme j, pk, j.pb.body, rest.drop k, rest.take k] then stOk else stVerifyFail

/-- R230, R233: the host's key is checked before the signature. -/
theorem rsaVerify_ends
    (h : s.running slot.val 0x0904 = some j ∧ c = .rsaPssVerify slot
      ∨ s.running slot.val 0x0906 = some j ∧ c = .rsaV15Verify slot) :
    let rest := j.afterKey (publicLen 9 j.hdr.pset)
    Ends c s slot.val j (rsaPublic j.hdr.pset + classicE j.hdr j.pb.hash (rest.length - rsaK j.hdr.pset))
      { status := (rsaKeyStatus j).getD (rsaSigStatus j) } := by
  obtain ⟨⟨_, hrun⟩, hrow⟩ := rsaVerify_of_row h
  refine ends_plain hrun (hrow.trans ?_)
  cases hst : rsaKeyStatus j
  all_goals
    rw [rsaKeyStatus] at hst
    simp only [State.rsaVerify, hst] <;> rfl

end Sys2Proof.Classical
end

section

/-! ### Weierstrass curves: the rows of R237, R238 and R242 -/

namespace Sys2Proof.Classical

open Sys2Proof Sys2Proof.Machine Sys2Proof.Laws Sys2Proof.Lattice

theorem exec_ecdsaSign (slot : Fin 4096) (s : State) : exec (.ecdsaSign slot) s = execEcdsaSign slot s := rfl

theorem exec_ecdsaVerify (slot : Fin 4096) (s : State) : exec (.ecdsaVerify slot) s = execEcdsaVerify slot s := rfl

theorem exec_ecdh (slot : Fin 4096) (s : State) : exec (.ecdh slot) s = execEcdh slot s := rfl

theorem exec_ecCheckPoint (slot : Fin 4096) (s : State) : exec (.ecCheckPoint slot) s = execEcCheckPoint slot s := rfl

variable {s : State} {slot : Fin 4096} {j : Job}

/-- R238: with DET the nonce is computed from key and digest, and none of the drawn bytes enter the signature. -/
theorem ecdsaSign_ends (h : s.running slot.val 0x0A01 = some j) :
    Ends (.ecdsaSign slot) s slot.val j (nth [100, 230, 700] j.hdr.pset + classicE j.hdr j.pb.hash j.hdr.inLen)
      { status := stOk,
        out := ecdsaSig j.hdr.pset j.secret (j.digest j.input)
          (if j.hdr.has flDet then nonceOf j.hdr.pset j.pb.hash j.secret (j.digest j.input)
           else reducedScalar j.hdr.pset (j.random (nth [40, 56, 74] j.hdr.pset))) } :=
  ends_masks h ((exec_ecdsaSign slot s).trans (runOp_running h _))

/-- R237, R242: the host's point comes before the range of r and s, and that before the equation. -/
theorem ecdsaVerify_ends (h : s.running slot.val 0x0A02 = some j) :
    let pk := j.peerKey (publicLen 10 j.hdr.pset)
    let rest := j.afterKey (publicLen 10 j.hdr.pset)
    let k := 2 * ecLen j.hdr.pset
    Ends (.ecdsaVerify slot) s slot.val j (nth [150, 340, 1040] j.hdr.pset + classicE j.hdr j.pb.hash (rest.length - k))
      { status := if j.hdr.nullKey && !pointOk j.hdr.pset pk then stPointInvalid
          else if !ecdsaRange j.hdr.pset (rest.take k) then stInputRange
          else if ecdsaVerifies j.hdr.pset pk (j.digest (rest.drop k)) (rest.take k) then stOk else stVerifyFail } :=
  ends_plain h ((exec_ecdsaVerify slot s).trans (runOp_running h _))

/-- R237, R242: an agreement releases its secret where the peer's point comes from the vault or is valid. -/
theorem ecdh_ends (h : s.running slot.val 0x0A03 = some j) :
    let peer := if j.hdr.auxHandle = 0 then j.input else j.auxPk
    Ends (.ecdh slot) s slot.val j (nth [90, 200, 610] j.hdr.pset)
      (Result.when (j.hdr.auxHandle != 0 || pointOk j.hdr.pset peer) stPointInvalid
        (vaultOrOut j (ecAgree j.hdr.pset j.secret peer) [])) :=
  ends_masks h ((exec_ecdh slot s).trans (runOp_running h _))

/-- R237: a point check answers with its status alone. -/
theorem ecCheckPoint_ends (h : s.running slot.val 0x0A04 = some j) :
    Ends (.ecCheckPoint slot) s slot.val j (nth [6, 8, 12] j.hdr.pset)
      { status := if pointOk j.hdr.pset j.input then stOk else stPointInvalid } :=
  ends_plain h ((exec_ecCheckPoint slot s).trans (runOp_running h _))

/-- The length of a signature r ‖ s (R237). -/
theorem ecSig_length {pset : Nat} (h1 : 1 ≤ pset) (h3 : pset ≤ 3) : 2 * ecLen pset = col [64, 96, 132] pset := by
  obtain rfl | rfl | rfl : pset = 1 ∨ pset = 2 ∨ pset = 3 := by omega
  all_goals rfl

/-- Only a host's public key is refused for its point (R242). -/
theorem ecKeyRefused_iff (h : Header) (pset : Nat) (pk : Bytes) :
    (h.nullKey && !pointOk pset pk) = true ↔ h.keyHandle = 0 ∧ pointOk pset pk = false := by
  rw [Bool.and_eq_true, Bool.not_eq_true', nullKey_iff]

/-- A peer of AUX_HANDLE comes from the vault; the host's peer is checked (R242). -/
theorem ecPeerPasses_iff (j : Job) :
    (j.hdr.auxHandle != 0 || pointOk j.hdr.pset (if j.hdr.auxHandle = 0 then j.input else j.auxPk)) = true
      ↔ j.hdr.auxHandle ≠ 0 ∨ pointOk j.hdr.pset j.input = true := by
  rw [Bool.or_eq_true, bne_iff_ne]
  by_cases h0 : j.hdr.auxHandle = 0
  · rw [if_pos h0]
  · simp only [h0, ne_eq, not_false_eq_true, true_or]

end Sys2Proof.Classical
end

section

/-! ### Edwards and Montgomery curves: the rows of R237 and R239 to R241 -/

namespace Sys2Proof.Classical

open Sys2Proof Sys2Proof.Machine Sys2Proof.Laws Sys2Proof.Lattice

theorem exec_eddsaSign (slot : Fin 4096) (s : State) : exec (.eddsaSign slot) s = execEddsaSign slot s := rfl

theorem exec_eddsaVerify (slot : Fin 4096) (s : State) : exec (.eddsaVerify slot) s = execEddsaVerify slot s := rfl

theorem exec_xdh (slot : Fin 4096) (s : State) : exec (.xdh slot) s = execXdh slot s := rfl

variable {s : State} {slot : Fin 4096} {j : Job}

/-- R239: a signature comes of key, context and message, and no drawn bytes enter it. -/
theorem eddsaSign_ends (h : s.running slot.val 0x0B01 = some j) :
    Ends (.eddsaSign slot) s slot.val j (nth [80, 250] j.hdr.pset + edE j.hdr j.hdr.inLen true)
      { status := stOk, out := edSign j.hdr.pset (edPh j.hdr) j.secret j.pb.ctxStr j.input } :=
  ends_masks h ((exec_eddsaSign slot s).trans (runOp_running h _))

/-- R240: the decoding of A and R comes before the range of S, and that before the equation. -/
theorem eddsaVerify_ends (h : s.running slot.val 0x0B02 = some j) :
    let pk := j.peerKey (publicLen 11 j.hdr.pset)
    let rest := j.afterKey (publicLen 11 j.hdr.pset)
    let sig := rest.take (edSig j.hdr.pset)
    let m := rest.drop (edSig j.hdr.pset)
    let c := edCurve j.hdr.pset
    Ends (.eddsaVerify slot) s slot.val j (nth [120, 360] j.hdr.pset + edE j.hdr m.length false)
      { status := if !edKeyOk j.hdr.pset pk || (c.decode sig).isNone then stPointInvalid
          else if c.order ≤ leNat (slice sig c.len c.len) then stInputRange
          else if edVerifies j.hdr.pset (edPh j.hdr) pk j.pb.ctxStr m sig then stOk else stVerifyFail } :=
  ends_plain h ((exec_eddsaVerify slot s).trans (runOp_running h _))

theorem edInputRefused_iff (pset : Nat) (pk sig : Bytes) :
    (!edKeyOk pset pk || ((edCurve pset).decode sig).isNone) = true
      ↔ edKeyOk pset pk = false ∨ ((edCurve pset).decode sig).isNone = true := by
  rw [Bool.or_eq_true, Bool.not_eq_true']

/-- The output of an agreement is all zero where the check is on, by CHECK_ZERO or by XDH_CHECK_ZERO_FORCE (R241). -/
def xdhRefused (j : Job) (out : Bytes) : Bool := (j.pb.checkZero || j.cfg 0x3240 9 == 1) && allZero out

theorem xdhRefused_iff (j : Job) (out : Bytes) :
    xdhRefused j out = true ↔ (j.pb.checkZero = true ∨ j.cfg 0x3240 9 = 1) ∧ allZero out = true := by
  rw [xdhRefused, Bool.and_eq_true, Bool.or_eq_true, beq_iff_eq]

/-- R241: an agreement releases its output unless the check for zeros refuses it. -/
theorem xdh_ends (h : s.running slot.val 0x0B03 = some j) :
    let out := xAgree j.hdr.pset j.secret (if j.hdr.auxHandle = 0 then j.input else j.auxPk)
    Ends (.xdh slot) s slot.val j (nth [0, 0, 70, 210] j.hdr.pset)
      (Result.when (!xdhRefused j out) stInputRange (vaultOrOut j out [])) :=
  ends_masks h ((exec_xdh slot s).trans (runOp_running h _))

/-- The check for zeros decides an agreement's result (R241). -/
theorem when_not_xdhRefused_checked (j : Job) (out : Bytes) :
    let r := Result.when (!xdhRefused j out) stInputRange (vaultOrOut j out [])
    if (j.pb.checkZero = true ∨ j.cfg 0x3240 9 = 1) ∧ allZero out = true then Bare r 0x33 else SecretOut j out [] r := by
  simp only [← xdhRefused_iff]
  cases xdhRefused j out with
  | true => exact when_false_bare _ _
  | false => exact vaultOrOut_secretOut _ _ _

end Sys2Proof.Classical
end

section

namespace Sys2Proof.Classical

open Sys2Proof Sys2Proof.Machine Sys2Proof.Lattice

/-- Settles O6: each row by the lemma about its end, with the model's tables for the statement's. What remains of a row is which of
its checks fails first. -/
theorem classicalOperations : Obligations.ClassicalOperations := by
  refine ⟨fun s slot j => ⟨fun h => ?encryption, fun h => ?decryption, fun c h => ?rsaSigning, fun c h => ?rsaVerification⟩,
    fun s slot j h1 h3 => ?weierstrass,
    fun s slot j => ⟨fun h => ?edSigning, fun h => ?edVerification, fun h => ?montgomery⟩⟩
  case encryption =>
    refine ⟨_, rsaOaepEncrypt_ends h, fun st h0 hst => ?refused, fun hkey => ?encoded⟩
    case refused =>
      rw [rsaKeyStatus_of_host h0, hst]
      exact bare_status st
    case encoded =>
      rw [rsaKeyStatus_eq_none hkey]
      exact ⟨rfl, rfl⟩
  case decryption =>
    exact ⟨_, rsaOaepDecrypt_ends h, oaepResult_of_range,
      fun hrange hbad => oaepResult_of_refused hrange ((oaepRefused_iff j).mpr (.inl hbad)),
      fun hrange _ hvault hlen => oaepResult_of_refused hrange ((oaepRefused_iff j).mpr (.inr ⟨hvault, hlen⟩)),
      oaepResult_of_decoded⟩
  case rsaSigning => exact ⟨_, rsaSign_ends h, rfl, rfl⟩
  case rsaVerification =>
    refine ⟨_, rsaVerify_ends h, fun st h0 hst => ?refused, fun hkey => ?checked⟩
    case refused =>
      rw [rsaKeyStatus_of_host h0, hst]
      exact bare_status st
    case checked =>
      rw [rsaKeyStatus_eq_none hkey]
      exact bare_status _
  case weierstrass =>
    rw [← ecSig_length h1 h3]
    simp only [← nth_eq_col h1]
    refine ⟨fun h => ⟨_, ecdsaSign_ends h, rfl, rfl⟩, fun h => ⟨_, ecdsaVerify_ends h, ?verification⟩,
      fun h => ⟨_, ecdh_ends h, fun h0 hbad => ?refused, fun hpeer => ?agreed⟩,
      fun h => ⟨_, ecCheckPoint_ends h, bare_status _⟩⟩
    case verification =>
      simp only [ecKeyRefused_iff, Bool.not_eq_true']
      exact bare_status _
    case refused =>
      rw [Bool.eq_false_iff.mpr (mt (ecPeerPasses_iff j).mp (by simp [h0, hbad]))]
      exact when_false_bare _ _
    case agreed =>
      rw [(ecPeerPasses_iff j).mpr hpeer]
      exact vaultOrOut_secretOut _ _ _
  case edSigning => exact ⟨_, eddsaSign_ends h, rfl, rfl⟩
  case edVerification =>
    refine ⟨_, eddsaVerify_ends h, ?_⟩
    simp only [edInputRefused_iff]
    exact bare_status _
  case montgomery => exact ⟨_, xdh_ends h, when_not_xdhRefused_checked j _⟩

end Sys2Proof.Classical
end

section

/-! ### Key derivation and random bytes: the rows of R261 and R368 -/

namespace Sys2Proof.Symmetric

open Sys2Proof Sys2Proof.Machine Sys2Proof.Laws Sys2Proof.Lattice

/-- The number of a KDF with its command (R261). -/
def IsKdfRow (slot : Fin 4096) (kdf : Nat) (c : Instr) : Prop :=
  kdf = 1 ∧ c = .kdfCtr slot ∨ kdf = 2 ∧ c = .hkdf slot ∨ kdf = 3 ∧ c = .kdfOnestep slot

/-- The commands of the three KDFs stand for one row. -/
theorem exec_kdf {slot : Fin 4096} {kdf : Nat} {c : Instr} (hc : IsKdfRow slot kdf c) (s : State) :
    exec c s = s.kdfRow slot.val (0x0D06 + kdf) := by
  obtain ⟨rfl, rfl⟩ | ⟨rfl, rfl⟩ | ⟨rfl, rfl⟩ := hc <;> rfl

theorem exec_getRandom (slot : Fin 4096) (s : State) : exec (.getRandom slot) s = execGetRandom slot s := rfl

theorem exec_getRandomPr (slot : Fin 4096) (s : State) : exec (.getRandomPr slot) s = execGetRandomPr slot s := rfl

theorem kdfOf_add (kdf : Nat) : kdfOf (0x0D06 + kdf) = kdf := Nat.add_sub_cancel_left _ _

variable {s : State} {slot : Fin 4096} {j : Job}

/-- R261: a derivation takes no input, and its bytes are the output or a new entry. -/
theorem kdf_ends {kdf : Nat} {c : Instr} (hc : IsKdfRow slot kdf c) (h : s.running slot.val (0x0D06 + kdf) = some j) :
    Ends c s slot.val j (kdfSched kdf j.hdr.pset j.secret.length (kdfLen j.hdr j.pb) j.pb.body)
      (vaultOrOut j (kdfOut kdf j.hdr.pset j.secret [] j.pb.body (kdfLen j.hdr j.pb)) []) := by
  refine ends_plain h (((exec_kdf hc s).trans (runOp_running h _)).trans ?_)
  rw [kdfOf_add]

/-- R368: a request takes 1 beat and one for each 64 bytes begun. -/
theorem getRandom_ends (h : s.running slot.val 0x1101 = some j) :
    Ends (.getRandom slot) s slot.val j (1 + ceilDiv j.hdr.outLen 64) { status := stOk, out := j.random j.hdr.outLen } :=
  ends_plain h ((exec_getRandom slot s).trans (runOp_running h _))

/-- R368: a prediction-resistant request takes a beat more. -/
theorem getRandomPr_ends (h : s.running slot.val 0x1102 = some j) :
    Ends (.getRandomPr slot) s slot.val j (2 + ceilDiv j.hdr.outLen 64) { status := stOk, out := j.random j.hdr.outLen } :=
  ends_plain h ((exec_getRandomPr slot s).trans (runOp_running h _))

end Sys2Proof.Symmetric
end

section

namespace Sys2Proof.Symmetric

open Sys2Proof Sys2Proof.Machine Sys2Proof.Lattice

/-- Settles O10: each row by the lemma about its end. -/
theorem derivationAndRandom : Obligations.DerivationAndRandom :=
  ⟨fun _ _ _ _ _ hc h => ⟨_, kdf_ends hc h, vaultOrOut_secretOut _ _ _⟩,
    fun _ _ _ => ⟨fun h => ⟨_, getRandom_ends h, rfl, rfl⟩, fun h => ⟨_, getRandomPr_ends h, rfl, rfl⟩⟩⟩

end Sys2Proof.Symmetric
end

section

/-! ### Streams: contexts and the results of their jobs (R271 to R273) -/

namespace Sys2Proof.Symmetric

open Sys2Proof Sys2Proof.Machine

/-! #### A computation begun anew (R272) -/

theorem restart_of_active {x : Stream} (h : x.active = true) (n : Option Nat) : x.restart n = x := if_pos h

theorem restart_of_inactive {x : Stream} (h : x.active = false) (n : Option Nat) :
    x.restart n = { x.discarded with active := true, counter := n } := if_neg (ne_true_of_eq_false h)

/-- The kind of a context is that of its STREAM_INIT, whether a computation is under way or not. -/
theorem restart_kind (x : Stream) (n : Option Nat) : (x.restart n).kind = x.kind := by
  cases h : x.active with
  | true => rw [restart_of_active h]
  | false => rw [restart_of_inactive h]; rfl

/-- A context that has written no plaintext has written none in the computation begun anew. -/
theorem restart_written {x : Stream} (h0 : x.written = 0) (n : Option Nat) : (x.restart n).written = 0 := by
  cases h : x.active with
  | true => rw [restart_of_active h, h0]
  | false => rw [restart_of_inactive h]; rfl

/-! #### The last chunk of an UPDATE or FINAL (R271, R273) -/

theorem lastChunk_of_le {chunk n : Nat} (h : n ≤ 65536 * (chunk + 1)) : lastChunk chunk n = true := decide_eq_true h

/-- R271: the last chunk of an UPDATE leaves the context with all of the job's input taken in. -/
theorem updateResult_last {j : Job} (c : Stream) (h : j.hdr.inLen ≤ 65536 * (j.chunk + 1)) :
    let r := updateResult c j
    let data := c.data ++ j.input.take j.hdr.inLen
    r.status = 0x00 ∧ r.more = false ∧ r.info = data.length ∧ r.stream.map (·.data) = some data := by
  simp [updateResult, lastChunk_of_le h, Nat.min_eq_left h]

/-- The data of a computation at its FINAL (R271). -/
def finalData (c : Stream) (j : Job) : Bytes := c.data ++ j.input.take (c.dataOf true j.hdr.inLen)

/-- The tag over the data of a computation is the one that ends the input of its FINAL (R260, R273). -/
def TagPasses (c : Stream) (j : Job) : Prop := c.close j (finalData c j) = j.input.drop (c.dataOf true j.hdr.inLen)

section
variable {c : Stream} {j : Job} (hlast : c.dataOf true j.hdr.inLen ≤ 65536 * (j.chunk + 1)) (hdec : isAeadDec c.kind = true)
include hlast hdec

/-- R273: the last chunk of a decrypting FINAL writes the plaintext once the tag passes. -/
theorem finalResult_of_tagPasses (htag : TagPasses c j) :
    let r := finalResult c j
    r.status = stOk ∧ r.out = c.yield j (finalData c j) c.data.length ∧ r.stream = some c.discarded := by
  rw [TagPasses, finalData] at htag
  simp [finalResult, lastChunk_of_le hlast, hdec, htag, finalData]

/-- R273: with a tag that fails it writes none, and no earlier plaintext is exposed where none was written. -/
theorem finalResult_of_not_tagPasses (hnone : c.written = 0) (htag : ¬ TagPasses c j) :
    let r := finalResult c j
    r.status = stTagFail ∧ r.out = [] ∧ r.stream = some c.discarded := by
  rw [TagPasses, finalData] at htag
  simp [finalResult, lastChunk_of_le hlast, hdec, htag, hnone]

end

end Sys2Proof.Symmetric
end

section

/-! ### Streams: the rows of R269 to R273 -/

namespace Sys2Proof.Symmetric

open Sys2Proof Sys2Proof.Machine Sys2Proof.Laws Sys2Proof.Lattice

theorem exec_streamInit (slot : Fin 4096) (s : State) : exec (.streamInit slot) s = execStreamInit slot s := rfl

theorem exec_streamUpdate (slot : Fin 4096) (s : State) : exec (.streamUpdate slot) s = execStreamUpdate slot s := rfl

theorem exec_streamFinal (slot : Fin 4096) (s : State) : exec (.streamFinal slot) s = execStreamFinal slot s := rfl

theorem exec_streamDiscard (slot : Fin 4096) (s : State) : exec (.streamDiscard slot) s = execStreamDiscard slot s := rfl

variable {s : State} {slot : Fin 4096} {j : Job} {x : Stream}

/-- With no value owed, the end of a schedule assigns none (R187, R263). -/
theorem assignDue_of_allAssigned (h : AllAssigned s) : s.assignDue = s := by
  rw [AllAssigned] at h
  rw [State.assignDue, h, List.foldl_nil]

/-- The computation that a STREAM_INIT begins (R271). -/
def begun (j : Job) : Stream := { initStream j.hdr j.pb j.aad with active := true, counter := j.counter }

/-- R269, R271: an INIT binds its name, or ends with QUOTA where the name is not bound and the domain's quota is used up (log 23). -/
theorem streamInit_ends (ha : AllAssigned s) (h : s.running slot.val 0x1201 = some j) :
    Ends (.streamInit slot) s slot.val j (initLen (begun j) (begun j).pset j.aad.length)
      (if (s.stream? j.domain j.hdr.streamId).isSome || decide (s.streamsOf j.domain < s.cfg (0x2000 + j.domain) 0x10)
        then { status := stOk, info := j.counter.getD 0, stream := some (begun j) } else { status := stQuota }) := by
  have hrow := (exec_streamInit slot s).trans (runOp_running h _)
  simp only [assignDue_of_allAssigned ha, running_job h] at hrow
  exact ends_masks h hrow

/-- A job on a bound name carries its computation on, or begins one anew (R272). -/
theorem streamRun_bound (ha : AllAssigned s) {n : Nat} (hj : s.job? n = some j) (hx : s.stream? j.domain j.hdr.streamId = some x)
    (final : Bool) (f : Stream → Job → Result) :
    s.streamRun n final f = (s.finish n ((x.restart j.counter).len j final) (f (x.restart j.counter) j)).useMasks
      ((x.restart j.counter).masks ((x.restart j.counter).len j final)) := by
  simp only [State.streamRun, assignDue_of_allAssigned ha, hj, hx]

/-- A job whose name is no longer bound ends with BAD_CONTEXT (R269, log 23). -/
theorem streamRun_unbound (ha : AllAssigned s) {n : Nat} (hj : s.job? n = some j) (hx : s.stream? j.domain j.hdr.streamId = none)
    (final : Bool) (f : Stream → Job → Result) : s.streamRun n final f = s.finish n 0 { status := stBadContext } := by
  simp only [State.streamRun, assignDue_of_allAssigned ha, hj, hx]

/-- R271: an UPDATE ends its chunk with the context's computation carried on. -/
theorem streamUpdate_ends (ha : AllAssigned s) (h : s.running slot.val 0x1202 = some j)
    (hx : s.stream? j.domain j.hdr.streamId = some x) :
    Ends (.streamUpdate slot) s slot.val j ((x.restart j.counter).len j false) (updateResult (x.restart j.counter) j) :=
  ends_masks h (((exec_streamUpdate slot s).trans (runOp_running h _)).trans
    (congrArg _ (streamRun_bound ha (running_job h) hx _ _)))

/-- R271: a FINAL ends its chunk with the context's computation carried on. -/
theorem streamFinal_ends (ha : AllAssigned s) (h : s.running slot.val 0x1203 = some j)
    (hx : s.stream? j.domain j.hdr.streamId = some x) :
    Ends (.streamFinal slot) s slot.val j ((x.restart j.counter).len j true) (finalResult (x.restart j.counter) j) :=
  ends_masks h (((exec_streamFinal slot s).trans (runOp_running h _)).trans
    (congrArg _ (streamRun_bound ha (running_job h) hx _ _)))

/-- An UPDATE or FINAL of a running job, with its command (R271). -/
def IsNextRow (s : State) (slot : Fin 4096) (j : Job) (c : Instr) : Prop :=
  s.running slot.val 0x1202 = some j ∧ c = .streamUpdate slot ∨ s.running slot.val 0x1203 = some j ∧ c = .streamFinal slot

/-- R269, log 23: an UPDATE or FINAL without its context ends at the end of its staging. -/
theorem streamNext_ends_unbound {c : Instr} (ha : AllAssigned s) (hc : IsNextRow s slot j c)
    (hx : s.stream? j.domain j.hdr.streamId = none) : Ends c s slot.val j 0 { status := stBadContext } := by
  obtain ⟨h, rfl⟩ | ⟨h, rfl⟩ := hc
  · exact ends_plain h (((exec_streamUpdate slot s).trans (runOp_running h _)).trans
      (congrArg _ (streamRun_unbound ha (running_job h) hx _ _)))
  · exact ends_plain h (((exec_streamFinal slot s).trans (runOp_running h _)).trans
      (congrArg _ (streamRun_unbound ha (running_job h) hx _ _)))

/-- R271: a DISCARD drops the running state and leaves the parameters; without a context it ends with BAD_CONTEXT (log 23). -/
theorem streamDiscard_ends (h : s.running slot.val 0x1204 = some j) :
    ∃ r, Ends (.streamDiscard slot) s slot.val j 0 r ∧ r.out = []
      ∧ r.stream = (s.stream? j.domain j.hdr.streamId).map Stream.discarded
      ∧ r.status = (if (s.stream? j.domain j.hdr.streamId).isSome then 0x00 else 0x17) := by
  refine ⟨_, ends_plain h ((exec_streamDiscard slot s).trans (runOp_running h _)), ?_⟩
  cases s.stream? j.domain j.hdr.streamId with
  | none => exact ⟨rfl, rfl, rfl⟩
  | some c => exact ⟨rfl, rfl, rfl⟩

end Sys2Proof.Symmetric
end

section

namespace Sys2Proof.Symmetric

open Sys2Proof Sys2Proof.Machine Sys2Proof.Lattice

/-- Settles O11: each row by the lemma about its end. What remains is the quota of an INIT and the tag of a FINAL. -/
theorem streamOperations : Obligations.StreamOperations := by
  refine fun s slot j ha => ⟨fun h => ⟨_, streamInit_ends ha h, ?opening⟩,
    fun x h hx hin => ⟨_, streamUpdate_ends ha h hx, updateResult_last _ hin⟩,
    fun x h hx hlast hdec hnone => ⟨_, streamFinal_ends ha h hx, ?ending⟩,
    streamDiscard_ends, fun c hc hx => ⟨_, streamNext_ends_unbound ha hc hx, bare_status _⟩⟩
  case opening =>
    by_cases hopen : (s.stream? j.domain j.hdr.streamId).isSome = true ∨ s.streamsOf j.domain < s.cfg (0x2000 + j.domain) 0x10
    · rw [if_pos (by simpa using hopen)]
      refine ⟨rfl, fun _ => ⟨rfl, rfl⟩, fun hunbound hquota => absurd hopen ?_⟩
      simp [hunbound, hquota]
    · rw [if_neg (by simpa using hopen)]
      exact ⟨rfl, fun h => absurd h hopen, fun _ _ => bare_status _⟩
  case ending =>
    have hkind : isAeadDec (x.restart j.counter).kind = true := by rw [restart_kind, hdec]
    by_cases htag : TagPasses (x.restart j.counter) j
    · obtain ⟨hstatus, hout, hstream⟩ := finalResult_of_tagPasses hlast hkind htag
      exact ⟨hstream, fun _ => ⟨hstatus, hout⟩, fun hne => absurd htag hne⟩
    · obtain ⟨hstatus, hout, hstream⟩ := finalResult_of_not_tagPasses hlast hkind (restart_written hnone _) htag
      exact ⟨hstream, fun heq => absurd heq htag, fun _ => ⟨hout, hstatus⟩⟩

end Sys2Proof.Symmetric
end

section

/-! ### Maintenance: requests, grants and the ends of slices (R293, R298, R429 to R431) -/

namespace Sys2Proof.KeyVault

open Sys2Proof Sys2Proof.Machine Sys2Proof.Laws Sys2Proof.SlotWheel

/-! #### Events that name neither a job nor a unit (R404, R405) -/

/-- The class of an event that names neither a job nor a unit, of a source at S3 or less: S3 acts, and what is below only counts (R404,
R405). -/
theorem effective_unnamed {s : State} {src : Nat} (d : Nat) (hc : s.classOf src ≤ 3) :
    s.effective src 0 { detail := d } = if s.classOf src = 3 then 3 else 0 := by
  have hmin : min (s.classOf src) 4 = s.classOf src := Nat.min_eq_left (by omega)
  simp only [State.effective, Option.getD_none, Nat.max_zero, hmin, ite_self, Option.isNone_none, Bool.and_true,
    decide_eq_true_eq]
  split <;> split <;> split <;> omega

/-! #### Requests (R431) -/

section
variable {s : State} {act who : Nat}

theorem request_of_pending (h : s.maintPending act who = true) : s.request act who = s := by
  obtain hqueued | hgranted := (Bool.or_eq_true _ _).mp h
  · exact ite_eq_left_iff.mpr fun _ => if_pos hqueued
  · exact if_pos hgranted

theorem execMaintRequest_of_work {act : Fin 9} (hwork : s.hasWork act.val who = true) (hl : s.mode.mode ≠ mLockdown)
    (hd : s.mode.mode ≠ mDormant) : execMaintRequest act who s = .next (s.request act.val who) := by
  simp [execMaintRequest, hwork, hl, hd]

end

theorem queueRequest_of_earlier {l : List MaintReq} {x : MaintReq} (h : ∀ y ∈ l, y.beat < x.beat) : queueRequest l x = l ++ [x] := by
  have hbefore : ∀ y ∈ l, (decide (y.beat < x.beat) || decide (y.act ≤ x.act)) = true := fun y hy => by simp [h y hy]
  unfold queueRequest
  dsimp only
  rw [List.filter_eq_self.mpr hbefore, List.filter_eq_nil_iff.mpr fun y hy => by rw [hbefore y hy]; decide]

theorem queueRequest_append {l : List MaintReq} {x y : MaintReq} (hb : y.beat = x.beat) (ha : x.act < y.act) :
    queueRequest (l ++ [y]) x = queueRequest l x ++ [y] := by
  have hbehind : (decide (y.beat < x.beat) || decide (y.act ≤ x.act)) = false :=
    Bool.or_eq_false_iff.mpr ⟨decide_eq_false (by omega), decide_eq_false (by omega)⟩
  have hbefore : [y].filter (fun y => decide (y.beat < x.beat) || decide (y.act ≤ x.act)) = [] :=
    List.filter_cons_of_neg (by rw [hbehind]; decide)
  have hafter : [y].filter (fun y => !(decide (y.beat < x.beat) || decide (y.act ≤ x.act))) = [y] :=
    List.filter_cons_of_pos (by rw [hbehind]; decide)
  unfold queueRequest
  dsimp only
  rw [List.filter_append, List.filter_append, hbefore, hafter, List.append_nil, List.append_assoc, List.cons_append]

/-! #### Grants (R418, R431) -/

theorem grantScan_compatible (l : List MaintReq) (busy : List Nat) :
    ∀ r ∈ (grantScan l busy).1, ∀ a ∈ busy, exclusive a r.act = false := by
  induction l generalizing busy with
  | nil => exact fun r hr => absurd hr List.not_mem_nil
  | cons x l ih =>
    intro r hr a ha
    have hrest : r ∈ (grantScan l (x.act :: busy)).1 → exclusive a r.act = false := fun h => ih _ r h a (List.mem_cons_of_mem _ ha)
    unfold grantScan at hr
    dsimp only at hr
    split at hr
    · exact hrest hr
    · rename_i hfree
      obtain rfl | hr := List.mem_cons.mp hr
      · exact Bool.eq_false_iff.mpr fun hex => hfree (List.any_eq_true.mpr ⟨a, ha, hex⟩)
      · exact hrest hr

theorem grantScan_head {a : MaintReq} {l : List MaintReq} {busy : List Nat} (h : busy.any (fun b => exclusive b a.act) = false) :
    (grantScan (a :: l) busy).1 = a :: (grantScan l (a.act :: busy)).1 := by
  simp [grantScan, h]

theorem serve_maint (s : State) (i n : Nat) : (s.serve i n).2.maint = s.maint := by
  unfold State.serve
  dsimp only
  exact ite_keeps (fun t : State => (t.setDrbg _ _).maint) rfl rfl

theorem beginTest_maint (s : State) : s.beginTest.maint = s.maint := by
  unfold State.beginTest
  split
  · split
    case _ p _ _ _ _ =>
      exact (serve_maint _ 261 32).trans (foldl_keeps State.maint _ (fun _ _ => by rfl) (partitionUnits p) s)
    · rfl
  · rfl

/-- Isolation ends the grant of a partition that may not be tested, and leaves the arbiter alone otherwise (R418). -/
theorem isolate_maint (s : State) (p : Nat) :
    (s.isolate p).maint = s.maint ∨ s.partitionUnusable p = true ∧ s.isolate p = s.endGrant maRolling := by
  unfold State.isolate
  dsimp only
  split
  · rename_i h
    exact .inr ⟨(Bool.and_eq_true_iff.mp h).1, rfl⟩
  · refine .inl ((beginTest_maint _).trans ?_)
    exact foldl_keeps State.maint _ (fun a x => by exact ite_keeps State.maint rfl rfl) (partitionUnits p) s

theorem openRetrain_maint (s : State) : s.openRetrain.maint = s.maint := ite_keeps State.maint rfl rfl

/-- What a grant sets in motion: the one that can end a grant is the isolation of a partition, its own. -/
theorem onGrant_maint (s : State) (act who : Nat) :
    (s.onGrant act who).maint = s.maint
      ∨ act = maRolling ∧ s.partitionUnusable who = true ∧ (s.onGrant act who).maint = (s.endGrant maRolling).maint := by
  unfold State.onGrant
  split
  · rename_i hact
    obtain h | ⟨hu, h⟩ := isolate_maint s who
    · exact .inl h
    · exact .inr ⟨hact, hu, congrArg State.maint h⟩
  · exact .inl (ite_keeps State.maint rfl (ite_keeps State.maint rfl (ite_keeps State.maint (openRetrain_maint _) rfl)))

/-- The state with the grant of a request that runs, before what it sets in motion. -/
def withGrant (s : State) (r : MaintReq) : State :=
  { s with maint := { s.maint with running := tput s.maint.running r.act (r.who, s.beat),
                                   grants := countAdd s.maint.grants r.act 1 64 } }

theorem grantOne_eq (s : State) (r : MaintReq) : s.grantOne r = (withGrant s r).onGrant r.act r.who := rfl

theorem grantOne_queue (s : State) (r : MaintReq) : (s.grantOne r).maint.queue = s.maint.queue := by
  obtain h | ⟨-, -, h⟩ := onGrant_maint (withGrant s r) r.act r.who <;> rw [grantOne_eq, h] <;> rfl

/-- A grant that runs goes on behind another one, which can end only that of maRolling. -/
theorem grantOne_keeps {s : State} {k : Nat} {r : MaintReq} (hk : (tget s.maint.running k).isSome = true)
    (hr : r.act = maRolling → k ≠ maRolling) : (tget (s.grantOne r).maint.running k).isSome = true := by
  have hrun : (tget (withGrant s r).maint.running k).isSome = true := by
    by_cases h : k = r.act
    · simp [withGrant, h]
    · simpa [withGrant, tget_tput_other _ _ h] using hk
  obtain h | ⟨hact, -, h⟩ := onGrant_maint (withGrant s r) r.act r.who
  · rw [grantOne_eq, h]
    exact hrun
  · rw [grantOne_eq, h, State.endGrant, tget_tdel_other _ (hr hact)]
    exact hrun

theorem grantOne_grants {s : State} {r : MaintReq} (h : r.act = maRolling → s.partitionUnusable r.who = false) :
    (tget (s.grantOne r).maint.running r.act).isSome = true := by
  obtain hm | ⟨hact, hu, -⟩ := onGrant_maint (withGrant s r) r.act r.who
  · rw [grantOne_eq, hm]
    exact congrArg Option.isSome (tget_tput_same _ _ _)
  · exact absurd ((h hact).symm.trans hu) Bool.false_ne_true

theorem foldl_grantOne_keeps {k : Nat} {l : List MaintReq} (hl : ∀ r ∈ l, r.act = maRolling → k ≠ maRolling) (s : State)
    (hk : (tget s.maint.running k).isSome = true) : (tget (l.foldl State.grantOne s).maint.running k).isSome = true := by
  induction l generalizing s with
  | nil => exact hk
  | cons r l ih =>
    exact ih (fun x hx => hl x (List.mem_cons_of_mem _ hx)) _ (grantOne_keeps hk (hl r List.mem_cons_self))

/-- The state after MAINT_GRANT. -/
def grantedAll (s : State) : State :=
  let x := grantScan s.maint.queue (s.maint.running.map (·.1))
  x.1.foldl State.grantOne { s with maint := { s.maint with queue := x.2 } }

theorem grantedAll_queue (s : State) :
    (grantedAll s).maint.queue = (grantScan s.maint.queue (s.maint.running.map (·.1))).2 :=
  foldl_keeps (·.maint.queue) _ grantOne_queue _ _

theorem grantedAll_first {s : State} {a : MaintReq} {l : List MaintReq} (hq : s.maint.queue = a :: l)
    (hfree : s.maint.running.any (fun r => exclusive r.1 a.act) = false)
    (hp : a.act = maRolling → s.partitionUnusable a.who = false) :
    (tget (grantedAll s).maint.running a.act).isSome = true := by
  have hbusy : (s.maint.running.map (·.1)).any (fun b => exclusive b a.act) = false := by rwa [List.any_map]
  unfold grantedAll
  rw [hq]
  dsimp only
  rw [grantScan_head hbusy]
  rw [List.foldl_cons]
  refine foldl_grantOne_keeps (fun r hr hact hrolling => ?_) _ (grantOne_grants hp)
  have hcompatible := grantScan_compatible _ _ r hr a.act List.mem_cons_self
  rw [hact, hrolling] at hcompatible
  exact absurd hcompatible (by decide)

theorem execMaintGrant_serving {s : State} (hq : s.mode.mode ≠ mQuiesce) (hl : s.mode.mode ≠ mLockdown) (hd : s.mode.mode ≠ mDormant)
    (hr : s.mode.mode ≠ mReset) : execMaintGrant s = .next (grantedAll s) :=
  if_neg fun h => by simp_all

/-! #### Overdue requests (R404, R431) -/

theorem respond_counts (s : State) (src : Nat) (n : Named) : s.respond src 0 n = s := rfl

theorem countFault_maint (s : State) (src : Nat) : (s.countFault src).maint = s.maint := by
  unfold State.countFault
  split <;> rfl

theorem raise_classOf (s : State) (src k : Nat) (n : Named) : (s.raise src n).classOf k = s.classOf k := by
  by_cases hd : s.mode.mode = mDormant
  · rw [State.raise, State.raiseAt, if_pos hd]
  · have hfault : (s.raise src n).fault = _ := (raiseAt_fault s src 0 n hd).1
    have hcfg : ∀ i sub, (s.raise src n).cfgI i sub = s.cfgI i sub := fun i sub => by
      rw [State.cfgI, calm_settings (raise_calm s src n), State.cfgI]
    rw [State.classOf, hcfg, hfault]
    rfl

/-- A source at S2 or less whose event names nothing leaves the arbiter alone (R404, R405). -/
theorem raise_maint {s : State} {src : Nat} (d : Nat) (hc : s.classOf src ≤ 2) : (s.raise src { detail := d }).maint = s.maint := by
  have heff : s.effective src 0 { detail := d } = 0 := (effective_unnamed d (by omega)).trans (if_neg (by omega))
  refine ite_keeps State.maint rfl ?_
  rw [heff, respond_counts, wake_maint]
  exact ite_keeps State.maint (countFault_maint _ _) (countFault_maint _ _)

theorem foldl_raise_maint {α : Type} {src : Nat} (d : Nat) (l : List α) (s : State) (hc : s.classOf src ≤ 2) :
    (l.foldl (fun a _ => a.raise src { detail := d }) s).maint = s.maint := by
  induction l generalizing s with
  | nil => rfl
  | cons x r ih => exact (ih _ (by rwa [raise_classOf])).trans (raise_maint d hc)

/-- A request that has waited MAINT_WAIT_MAX, and is not marked yet (R431). -/
def isDue (s : State) (act : Nat) (r : MaintReq) : Bool :=
  r.act == act && !r.overdue && decide (r.beat + msBeats (s.cfg 0x6902 3) ≤ s.beat)

/-- The state with every due request of an activity marked. -/
def marked (s : State) (act : Nat) : State :=
  { s with maint := { s.maint with queue := s.maint.queue.map (fun r => if isDue s act r then { r with overdue := true } else r) } }

theorem execMaintOverdue_eq (act : Fin 9) (s : State) : execMaintOverdue act s = .next
    ((s.maint.queue.filter (isDue s act.val)).foldl (fun a _ => a.raise 0xB6 { detail := act.val }) (marked s act.val)) := rfl

theorem mem_marked {s : State} {act : Nat} {r : MaintReq} (hr : r ∈ s.maint.queue) (hact : r.act = act) (hnew : r.overdue = false)
    (hwait : r.beat + msBeats (s.cfg 0x6902 3) ≤ s.beat) : { r with overdue := true } ∈ (marked s act).maint.queue := by
  have hdue : isDue s act r = true := by simp [isDue, hact, hnew, hwait]
  exact List.mem_map.mpr ⟨r, hr, if_pos hdue⟩

/-! #### The ends of a scrub slice, a retraining window and a purge slice (R293, R298) -/

theorem execPatrolScrubSlice_ends_pass {s : State} {who since : Nat} (hg : s.grantOf maScrub = some (who, since))
    (hs : since + 512 ≤ s.beat) (hp : s.vault.scrubSince + secBeats (s.cfg 0x4004 1) ≤ s.beat) :
    execPatrolScrubSlice [] s = .next { s.endGrant maScrub with
      vault := { s.vault with scrubPasses := bump 32 s.vault.scrubPasses 1, scrubSince := s.beat } } := by
  unfold execPatrolScrubSlice
  rw [hg]
  dsimp only
  rw [if_neg (by omega), List.foldl_nil]
  exact congrArg Host.Outcome.next (if_pos hp)

theorem execDramRetrain_passes {s : State} {since : Nat} (hm : s.mode.mode ≠ mSelfTest) (ho : s.vault.retrainOpen = some since)
    (hs : since + 480 ≤ s.beat) : execDramRetrain true s = .next { s with
      maint := { s.maint with running := tdel s.maint.running maRetrain },
      vault := { s.vault with retrainFrom := none, retrainOpen := none, trainedTemp := s.dieTemp,
                              retrains := bump 32 s.vault.retrains 1 } } := by
  unfold execDramRetrain
  rw [if_neg hm, ho]
  exact congrArg Host.Outcome.next (if_neg (by omega))

theorem execExpansionPurgeSlice_evicts {s : State} {d since : Nat} (hg : s.grantOf maPurge = some (d, since))
    (hs : since + 512 ≤ s.beat) : execExpansionPurgeSlice s = .next { s.endGrant maPurge with vault := { s.vault with
      purging := s.vault.purging.filter (fun x => x != d),
      expansions := s.vault.expansions.filter (fun e => e.domain != d || e.pinned || e.waiting.isSome) } } := by
  unfold execExpansionPurgeSlice
  rw [hg]
  exact congrArg Host.Outcome.next (if_neg (by omega))

/-- What a purge slice of a domain leaves: of the domain, what is pinned or waited for, and everything of the others (R298). -/
theorem mem_purged {l : List Expansion} {d : Nat} {e : Expansion} :
    e ∈ l.filter (fun e => e.domain != d || e.pinned || e.waiting.isSome) ↔
      e ∈ l ∧ (e.domain = d → e.pinned = true ∨ e.waiting.isSome = true) := by
  rw [List.mem_filter]
  simp only [Bool.or_eq_true, bne_iff_ne, ne_eq, or_assoc, Decidable.imp_iff_not_or]

end Sys2Proof.KeyVault
end

section

namespace Sys2Proof.KeyVault

open Sys2Proof Sys2Proof.Machine Sys2Proof.SlotWheel

/-- Settles O27: each row by the lemma about its command. What remains is a request that is queued or granted already, the marks of
overdue requests, and what a purge slice leaves. -/
theorem maintenanceRows : Obligations.MaintenanceRows := by
  refine ⟨fun s act who hwork hl hd => ?requests, fun l x => ⟨queueRequest_of_earlier, fun y => queueRequest_append⟩,
    fun s hq hl hd hr => ⟨_, execMaintGrant_serving hq hl hd hr, grantedAll_queue s, fun a l => grantedAll_first⟩,
    fun s act r hr hact hnew hwait _ => ?overdue,
    fun s who since hg hs hp => ⟨_, execPatrolScrubSlice_ends_pass hg hs hp, rfl, rfl, rfl⟩,
    fun s since => execDramRetrain_passes, fun s d since hg hs => ?purge⟩
  case requests =>
    have hexec := execMaintRequest_of_work hwork hl hd
    refine ⟨fun hfree => ⟨_, hexec, ?_⟩, fun hpending => hexec.trans (congrArg _ (request_of_pending hpending))⟩
    rw [request_of_free hfree, wake_maint]
    exact ⟨rfl, rfl⟩
  case overdue =>
    refine ⟨_, execMaintOverdue_eq act s, fun hc => ?_⟩
    rw [foldl_raise_maint _ _ (marked s act.val) hc]
    exact ⟨mem_marked hr hact hnew hwait, List.length_map _⟩
  case purge =>
    refine ⟨_, execExpansionPurgeSlice_evicts hg hs, rfl, fun e he => (mem_purged.mp he).2,
      fun e he hother => mem_purged.mpr ⟨he, fun h => absurd h hother⟩, fun h => ?_⟩
    simpa using (List.mem_filter.mp h).2

end Sys2Proof.KeyVault
end

section

/-! ### What the end of a job and a paused device leave of the jobs (R23, R24, R404, R438) -/

namespace Sys2Proof.KeyVault

open Sys2Proof Sys2Proof.Machine Sys2Proof.Laws Sys2Proof.SlotWheel

section
variable {s : State} {n slot st info b : Nat} {j : Job}

/-- The jobs by their slots. -/
def slots (s : State) : List (Nat × Job) := s.jobs.slots

theorem job?_of_slots {s t : State} (h : slots t = slots s) (n : Nat) : t.job? n = s.job? n := congrArg (tget · n) h

theorem startWipes_slots (l : List (Nat × Nat)) (slot b : Nat) (s : State) :
    slots (l.foldl (fun a u => a.startWipe slot u b) s) = slots s :=
  foldl_keeps slots _ (fun _ _ => by exact ite_keeps slots rfl rfl) l s

theorem dropCommit_slots (s : State) (slot : Nat) : slots (s.dropCommit slot) = slots s := ite_keeps slots rfl rfl

theorem endStream_slots (s : State) (j : Job) (lost : Bool) : slots (s.endStream j lost) = slots s := by
  unfold State.endStream
  dsimp only
  split <;> rfl

theorem countBlocks_slots (s : State) (j : Job) : slots (s.countBlocks j) = slots s := ite_keeps slots rfl rfl

theorem countLost_slots (s : State) (j : Job) : slots (s.countLost j) = slots s := ite_keeps slots rfl (ite_keeps slots rfl rfl)

theorem sendOutput_slots (s : State) (slot : Nat) (l : List (Nat × Bytes)) : slots (s.sendOutput slot l) = slots s :=
  foldl_keeps slots _ (fun _ _ => by rfl) l s

theorem setJob_job? (s : State) (slot n : Nat) (j : Job) : (s.setJob slot j).job? n = if n = slot then some j else s.job? n := by
  split
  · subst slot
    exact job_setJob s n j
  · exact job_setJob_other s j ‹_›

/-- Exposed plaintext is noted on its job, which keeps its status (R51, R265). -/
theorem zeroExposed_job? (hj : s.job? slot = some j) :
    ∃ k, k.status = j.status ∧ ∀ n, (s.zeroExposed slot).job? n = if n = slot then some k else s.job? n := by
  unfold State.zeroExposed
  rw [hj]
  dsimp only
  split
  · refine ⟨j, rfl, fun n => ?_⟩
    split
    · subst slot
      exact hj
    · rfl
  · refine ⟨{ j with exposed := j.written }, rfl, fun n => ?_⟩
    rw [← setJob_job?]
    split
    · exact job?_of_slots (sendOutput_slots _ _ _) n
    · rfl

/-- The own end of a job writes its slot and no other (R24). -/
theorem endOwn_job? (hj : s.job? slot = some j) :
    ∃ k, k.status = some st ∧ ∀ n, (s.endOwn slot st info b).job? n = if n = slot then some k else s.job? n := by
  have hends : ∀ (e : Job) (l : List (Nat × Nat)) (lost : Bool), e.status = some st → ∃ k : Job, k.status = some st ∧ ∀ n,
      (let t := l.foldl (fun a u => a.startWipe slot u b)
          ((((((((s.setJob slot e).freeHolds slot b).countBlocks e).countLost j).zeroExposed slot).dropWaiting slot).dropCommit
            slot).dropReads (readOfJob slot))
        if j.isStream then t.endStream j lost else t).job? n = if n = slot then some k else s.job? n := by
    intro e l lost he
    have hcounted : slots (((((s.setJob slot e).freeHolds slot b).countBlocks e).countLost j)) = slots (s.setJob slot e) :=
      (countLost_slots _ j).trans (countBlocks_slots _ e)
    obtain ⟨k, hk, hall⟩ := zeroExposed_job? ((job?_of_slots hcounted slot).trans (job_setJob s slot e))
    refine ⟨k, hk.trans he, fun n => ?_⟩
    refine (job?_of_slots (ite_keeps slots (endStream_slots _ _ _) rfl) n).trans ?_
    refine (job?_of_slots (startWipes_slots _ _ _ _) n).trans ?_
    refine (job?_of_slots (dropCommit_slots _ slot) n).trans ((hall n).trans ?_)
    rw [job?_of_slots hcounted, setJob_job?]
    split <;> rfl
  rw [State.endOwn, hj]
  exact hends _ _ _ rfl

theorem endOwn_job?_other (s : State) (st info b : Nat) (h : n ≠ slot) : (s.endOwn slot st info b).job? n = s.job? n := by
  cases hj : s.job? slot with
  | none =>
    rw [State.endOwn, hj]
  | some j =>
    obtain ⟨k, -, hall⟩ := endOwn_job? (st := st) (info := info) (b := b) hj
    exact (hall n).trans (if_neg h)

theorem stopInternal_job? (s : State) (b : Nat) (h : n ≠ slot) : (s.stopInternal slot b).job? n = s.job? n := by
  unfold State.stopInternal
  split
  · rfl
  · exact (tget_tdel_other _ h).trans (job?_of_slots (startWipes_slots _ _ _ _) n)

/-- Only an envelope takes over the unit of its class check (R342). -/
theorem takeCheckUnit_job? (hj : s.job? n = some j) (h6 : j.phase ≠ 6) (m : Nat) : (s.takeCheckUnit m).job? n = some j := by
  unfold State.takeCheckUnit
  split
  · split
    · split
      · rename_i i _ hi _ _ _ _ hcheck
        by_cases hm : n = m
        · subst hm
          obtain rfl : j = i := Option.some.inj (hj.symm.trans hi)
          exact absurd hcheck.1 h6
        · exact (job_setJob_other _ _ hm).trans hj
      · exact hj
    · exact hj
  · exact hj

/-- A job of the host that is no envelope in its class check does not end with another one, unless a check of its expansion
fails (R18, R24, R342). -/
theorem endJob_job?_other (hn : n < 4096) (hj : s.job? n = some j) (h6 : j.phase ≠ 6) {m : Nat} (hm : m ≠ n) (hst : st ≠ stEngineFault)
    (info b : Nat) : (s.endJob m st info b).job? n = some j := by
  unfold State.endJob
  split
  · rw [endOwn_job?_other _ _ _ _ hm.symm, stopInternal_job? _ _ (by omega)]
    exact takeCheckUnit_job? hj h6 m
  · have hstop : ∀ t : State, t.job? n = some j → (t.stopInternal m b).job? n = some j := fun t ht =>
      (stopInternal_job? t b hm.symm).trans ht
    have hchecked := hstop _ (ite_keeps (·.job? n) (c := ((s.job? (m - 4096)).map (fun j => j.phase == 6)).getD false = true)
      (takeCheckUnit_job? hj h6 (m - 4096)) hj)
    dsimp only
    split
    · rename_i hends
      have hother : n ≠ m - 4096 := by
        intro h
        rw [← h, hj] at hends
        simp [h6, hst] at hends
      exact (endOwn_job?_other _ _ _ _ hother).trans hchecked
    · exact hchecked

theorem endJob_status (hn : n < 4096) (hj : s.job? n = some j) (h6 : j.phase ≠ 6) (st info b : Nat) :
    ∃ k, (s.endJob n st info b).job? n = some k ∧ k.status = some st := by
  have hstopped : ((s.takeCheckUnit n).stopInternal (4096 + n) b).job? n = some j :=
    (stopInternal_job? _ _ (by omega)).trans (takeCheckUnit_job? hj h6 n)
  obtain ⟨k, hk, hall⟩ := endOwn_job? (st := st) (info := info) (b := b) hstopped
  rw [State.endJob, if_pos hn]
  exact ⟨k, (hall n).trans (if_pos rfl), hk⟩

end

/-! #### Quiesce, and events that name neither a job nor a unit (R404, R438) -/

/-- A job of the host whose schedule runs: what the entry into Quiesce leaves to end by itself (R24, R438). -/
def Keeps (n : Nat) (j : Job) (s : State) : Prop := s.job? n = some j ∧ n < 4096 ∧ j.phase = 5

section
variable {s : State} {n : Nat} {j : Job} (h : Keeps n j s)
include h

theorem Keeps.of_jobs {t : State} (e : t.jobs = s.jobs) : Keeps n j t :=
  ⟨(job?_of_slots (congrArg JobState.slots e) n).trans h.1, h.2⟩

theorem meetJob_keeps (m : Nat) : Keeps n j (s.meetJob m .quiesce) := by
  obtain ⟨hj, hn, h5⟩ := h
  refine ⟨?_, hn, h5⟩
  by_cases hm : m = n
  · have hrun : ¬j.phase ≤ 4 := by omega
    rw [hm, State.meetJob, hj]
    dsimp only
    rw [if_neg hrun]
    exact hj
  · unfold State.meetJob
    split
    · exact hj
    · exact ite_keeps (·.job? n) (endJob_job?_other hn hj (by omega) hm (by decide) _ _) hj

theorem meetAll_keeps (l : List Nat) : Keeps n j (s.meetAll l .quiesce) := by
  induction l generalizing s with
  | nil => exact h
  | cons m l ih => exact ih (meetJob_keeps h m)

theorem writeStatus_keeps (c src cls : Nat) (final : Bool) (prev : Nat) : Keeps n j (s.writeStatus c src cls final prev) :=
  h.of_jobs (congrArg (·.1) (writeStatus_board s c src cls final prev))

theorem quiesceFor_keeps (k : Nat) : Keeps n j (s.quiesceFor k) := by
  refine meetAll_keeps ?_ _
  exact h.of_jobs (setMode_jobs s mQuiesce)

theorem respond_keeps (src d : Nat) : Keeps n j (s.respond src 3 { detail := d }) := by
  have hcases : s.respond src 3 { detail := d } = if s.mode.mode = mLockdown ∨ s.mode.mode = mDormant then s
      else if s.mode.mode = mQuiesce then
        ({ s with mode := { s.mode with quiesceKind := 2 } }).writeStatus 2 src 3 false s.mode.mode
      else (s.quiesceFor 2).writeStatus 2 src 3 false s.mode.mode := rfl
  rw [hcases]
  split
  · exact h
  · split
    · refine writeStatus_keeps ?_ _ _ _ _ _
      exact h.of_jobs rfl
    · exact writeStatus_keeps (quiesceFor_keeps h 2) _ _ _ _ _

/-- A source at S3 or less whose event names no job leaves a running schedule alone (R24, R404). -/
theorem raise_keeps {src : Nat} (d : Nat) (hc : s.classOf src ≤ 3) : Keeps n j (s.raise src { detail := d }) := by
  unfold State.raise State.raiseAt
  split
  · exact h
  · rw [effective_unnamed d hc]
    extract_lets cls s1 s2
    have hjobs : s2.wake.jobs = s.jobs :=
      (wake_jobs _).trans (ite_keeps State.jobs (countFault_jobs _ _) (countFault_jobs _ _))
    have hwoken : Keeps n j s2.wake := h.of_jobs hjobs
    unfold cls
    split
    · exact respond_keeps hwoken src d
    · exact hwoken

end

end Sys2Proof.KeyVault
end

section

/-! ### The root journal and rounds (R307 to R309, R311 to R313, R317) -/

namespace Sys2Proof.KeyVault

open Sys2Proof Sys2Proof.Machine Sys2Proof.Laws Sys2Proof.SlotWheel

/-- The vault without its line key and expanded material: what the end of jobs and fault events leave of it. -/
def ledger (s : State) : VaultState := { s.vault with expansions := [], lineKey := [] }

theorem ledger_of_calm {s t : State} (h : Calm s t) : ledger t = ledger s := by
  obtain ⟨_, _, _, _, _, _, _, _, _, _, _, _, _, _, _, _, _, _, _, rfl⟩ := h
  rfl

theorem ledger_of_quiet {s t : State} (h : Quiet s t) : ledger t = ledger s := ledger_of_calm (quiet_calm h)

/-! #### The commit request (R313) -/

/-- A request raised, or remembered while a round is open or pending. -/
theorem requestCommit_ledger (s : State) :
    ∃ req res, ledger s.requestCommit = { ledger s with commitReq := req, reservedInRound := res } := by
  unfold State.requestCommit
  split
  · exact ⟨_, true, rfl⟩
  · split
    · exact ⟨_, _, rfl⟩
    · exact ⟨true, _, (ledger_of_quiet (quiet_trans (wake_quiet _) (writeStatus_quiet _ _ _ _ _ _))).trans rfl⟩

theorem requestCommit_raises {s : State} (ho : s.vault.roundOpen = false) (hp : s.vault.pending = none) :
    s.requestCommit.vault.commitReq = true := by
  have hnot : ¬(s.vault.roundOpen || s.vault.pending.isSome) = true := by simp [ho, hp]
  rw [State.requestCommit, if_neg hnot]
  split
  · assumption
  · exact congrArg VaultState.commitReq (ledger_of_quiet (quiet_trans (wake_quiet _) (writeStatus_quiet _ _ _ _ _ _)))

/-! #### The end of a round (R312, R313) -/

/-- A vault whose round has ended. -/
def closed (v : VaultState) (beat : Nat) (req res : Bool) : VaultState :=
  { v with pending := none, roundOpen := false, frozen := [], exported := 0, copies := [], roundTree := [], lastCommit := beat,
           commitReq := req, reservedInRound := res }

theorem closeRound_ledger (s : State) : ∃ req res, ledger s.closeRound = closed (ledger s) s.beat req res := by
  unfold State.closeRound
  dsimp only
  split
  · obtain ⟨req, res, h⟩ := requestCommit_ledger { s with vault :=
      { s.vault with pending := none, roundOpen := false, frozen := [], exported := 0, copies := [], roundTree := [],
                     lastCommit := s.beat, reservedInRound := false } }
    exact ⟨req, res, h⟩
  · exact ⟨_, _, rfl⟩

theorem mem_insertNat {l : List Nat} {n p : Nat} : p ∈ insertNat l n ↔ p = n ∨ p ∈ l := by
  induction l with
  | nil => simp [insertNat]
  | cons k r ih =>
    unfold insertNat
    split
    · simp
    · split
      · subst k; simp
      · simp only [List.mem_cons, ih]
        exact or_left_comm

theorem mem_foldl_insertNat {l d : List Nat} {p : Nat} (h : p ∈ l ∨ p ∈ d) : p ∈ l.foldl insertNat d := by
  induction l generalizing d with
  | nil => exact h.resolve_left List.not_mem_nil
  | cons n l ih =>
    refine ih ?_
    rw [mem_insertNat]
    simpa [or_assoc, or_left_comm] using h

/-! #### A slot that reads back (R308, R311, R312) -/

/-- The state with a slot written, before what that brings about. -/
def landed (s : State) (w : SlotWrite) : State :=
  ({ s with vault := { s.vault with journal := tput s.vault.journal (64 * w.region + w.slot) w.content,
                                    slot := w.slot, wseq := w.content.wseq, writing := none } }).countWrite w.region

/-- The state with one more commit counted. -/
def counted (s : State) : State := { s with vault := { s.vault with commits := s.vault.commits + 1 } }

theorem endLateGrant_quiet (s : State) (w : SlotWrite) : Quiet s (s.endLateGrant w) := by
  unfold State.endLateGrant
  split
  · split
    · exact quiet_refl s
    · exact dropCommit_quiet _ _
  · exact quiet_refl s

theorem endLateGrant_slots (s : State) (w : SlotWrite) : slots (s.endLateGrant w) = slots s := by
  unfold State.endLateGrant
  split
  · exact ite_keeps slots rfl (dropCommit_slots _ _)
  · rfl

section
variable {s : State} {w : SlotWrite} {n : Nat} (hr : w.region = s.vault.region) (hj : w.job = some n)
include hr hj

theorem slotWritten_pending (hc : w.content.committed = false) : s.slotWritten w = { s with vault := { s.vault with
    pending := some (w.content.rootSeq, w.content.mac), nextSeq := w.content.nextSeq, lastPending := some s.beat } } := by
  simp [State.slotWritten, State.countCommit, hr, hj, hc]

theorem slotWritten_commits (hc : w.content.committed = true) (hp : s.vault.pending = some (w.content.rootSeq, w.content.mac)) :
    s.slotWritten w = ((counted s).commitRound w.content).closeRound := by
  simp [State.slotWritten, State.countCommit, counted, hr, hj, hc, hp]

theorem slotWritten_abandons (hc : w.content.committed = true) (hp : s.vault.pending ≠ some (w.content.rootSeq, w.content.mac)) :
    s.slotWritten w = (counted s).abandonRound.closeRound := by
  simp [State.slotWritten, State.countCommit, counted, hr, hj, hc, hp]

end

section
variable {s : State} {w : SlotWrite} {n : Nat} (hw : s.vault.writing = some w) (hs : w.started = true)
include hw hs

theorem execJournalSlotWritten_reads_back :
    execJournalSlotWritten true s = .next (((landed s w).slotWritten w).endLateGrant w) := by
  simp only [execJournalSlotWritten, hw, hs]
  rfl

theorem journalSlotWritten_ledger : ∃ t, exec (.journalSlotWritten true) s = .next t ∧ ledger t = ledger ((landed s w).slotWritten w) :=
  ⟨_, execJournalSlotWritten_reads_back hw hs, ledger_of_quiet (endLateGrant_quiet _ _)⟩

section
variable (hr : w.region = s.vault.region) (hj : w.job = some n)
include hr hj

/-- A PENDING slot makes its root pending (R311). -/
theorem journalSlotWritten_pends (hc : w.content.committed = false) : ∃ t, exec (.journalSlotWritten true) s = .next t
    ∧ t.vault.pending = some (w.content.rootSeq, w.content.mac) ∧ t.vault.nextSeq = w.content.nextSeq
    ∧ t.vault.lastPending = some s.beat ∧ t.vault.wseq = w.content.wseq ∧ t.vault.writing = none
    ∧ tget t.vault.journal (64 * w.region + w.slot) = some w.content := by
  obtain ⟨t, ht, hl⟩ := journalSlotWritten_ledger hw hs
  rw [slotWritten_pending (s := landed s w) hr hj hc] at hl
  exact ⟨t, ht, congrArg VaultState.pending hl, congrArg VaultState.nextSeq hl, congrArg VaultState.lastPending hl,
    congrArg VaultState.wseq hl, congrArg VaultState.writing hl,
    (congrArg (tget ·.journal (64 * w.region + w.slot)) hl).trans (tget_tput_same _ _ _)⟩

/-- A COMMITTED slot with the pending root makes the round current (R312). -/
theorem journalSlotWritten_commits (hc : w.content.committed = true)
    (hp : s.vault.pending = some (w.content.rootSeq, w.content.mac)) : ∃ t, exec (.journalSlotWritten true) s = .next t
      ∧ t.vault.pending = none ∧ t.vault.rootSeq = w.content.rootSeq ∧ t.vault.rootMac = w.content.mac
      ∧ t.vault.tree = s.vault.roundTree ∧ t.vault.roundOpen = false ∧ t.vault.frozen = []
      ∧ t.vault.commits = s.vault.commits + 1 ∧ t.vault.lastCommit = s.beat := by
  obtain ⟨t, ht, hl⟩ := journalSlotWritten_ledger hw hs
  obtain ⟨req, res, hclosed⟩ := closeRound_ledger ((counted (landed s w)).commitRound w.content)
  rw [slotWritten_commits (s := landed s w) hr hj hc hp, hclosed] at hl
  exact ⟨t, ht, congrArg VaultState.pending hl, congrArg VaultState.rootSeq hl, congrArg VaultState.rootMac hl,
    congrArg VaultState.tree hl, congrArg VaultState.roundOpen hl, congrArg VaultState.frozen hl, congrArg VaultState.commits hl,
    congrArg VaultState.lastCommit hl⟩

/-- A COMMITTED slot with another root abandons the round (R312). -/
theorem journalSlotWritten_abandons (hc : w.content.committed = true)
    (hp : s.vault.pending ≠ some (w.content.rootSeq, w.content.mac)) : ∃ t, exec (.journalSlotWritten true) s = .next t
      ∧ t.vault.pending = none ∧ t.vault.rootSeq = s.vault.rootSeq ∧ t.vault.roundOpen = false
      ∧ ∀ p, p ∈ s.vault.frozen → p ∈ t.vault.dirty := by
  obtain ⟨t, ht, hl⟩ := journalSlotWritten_ledger hw hs
  obtain ⟨req, res, hclosed⟩ := closeRound_ledger (counted (landed s w)).abandonRound
  rw [slotWritten_abandons (s := landed s w) hr hj hc hp, hclosed] at hl
  refine ⟨t, ht, congrArg VaultState.pending hl, (congrArg VaultState.rootSeq hl :), congrArg VaultState.roundOpen hl,
    fun p hfrozen => ?_⟩
  have hdirty : t.vault.dirty = s.vault.frozen.foldl insertNat s.vault.dirty := congrArg VaultState.dirty hl
  rw [hdirty]
  exact mem_foldl_insertNat (.inl hfrozen)

end

end

/-! #### A slot that fails its read-back (R308, R317) -/

/-- The slot that a failure leaves has a CRC that is none of its content. -/
theorem torn_not_valid (c : JournalSlot) (k : Nat) : (c.torn k).valid = false := by
  have hcrc : (crc32 c.head + 1 + Config.free k % (2 ^ 32 - 1)) % 2 ^ 32 ≠ crc32 c.head := by omega
  have hne : ((c.torn k).crc == crc32 (c.torn k).head) = false := beq_false_of_ne hcrc
  rw [JournalSlot.valid, hne, Bool.and_false]

/-- The state with a slot torn, and the write that goes on, if any. -/
def tornAt (s : State) (w : SlotWrite) (writing : Option SlotWrite) (slot : Nat) : State :=
  ({ s.draw.2 with vault := { s.vault with journal := tput s.vault.journal (64 * w.region + w.slot) (w.content.torn s.fresh),
                                           writing := writing, slot := slot } }).countWrite w.region

section
variable {s : State} {w : SlotWrite} {n : Nat} (hw : s.vault.writing = some w) (hs : w.started = true)
include hw hs

theorem execJournalSlotWritten_retries (hf : w.fails = 0) : execJournalSlotWritten false s = .next
    ((tornAt s w (some { w with slot := (w.slot + 1) % 64, fails := 1, started := !s.mode.pwrFail }) s.vault.slot).raise 0x92) := by
  simp only [execJournalSlotWritten, hw, hs, hf]
  rfl

theorem execJournalSlotWritten_loses (hf : w.fails ≠ 0) (hr : w.region = s.vault.region) :
    execJournalSlotWritten false s = .next (((tornAt s w none w.slot).raise 0x92).slotLost w) := by
  simp only [execJournalSlotWritten, hw, hs, if_neg hf, if_pos hr]
  rfl

/-- A first failure is written again in the next slot, once PWR_FAIL_N is not asserted. -/
theorem journalSlotWritten_retries (hf : w.fails = 0) : ∃ t, exec (.journalSlotWritten false) s = .next t
    ∧ t.vault.writing = some { w with slot := (w.slot + 1) % 64, fails := 1, started := !s.mode.pwrFail }
    ∧ tget t.vault.journal (64 * w.region + w.slot) = some (w.content.torn s.fresh) ∧ (w.content.torn s.fresh).valid = false
    ∧ t.vault.pending = s.vault.pending := by
  have hl := ledger_of_calm (raise_calm
    (tornAt s w (some { w with slot := (w.slot + 1) % 64, fails := 1, started := !s.mode.pwrFail }) s.vault.slot) 0x92 {})
  exact ⟨_, execJournalSlotWritten_retries hw hs hf, congrArg VaultState.writing hl,
    (congrArg (tget ·.journal (64 * w.region + w.slot)) hl).trans (tget_tput_same _ _ _), torn_not_valid _ _,
    (congrArg VaultState.pending hl :)⟩

/-- A second failure ends the job that writes. -/
theorem journalSlotWritten_loses (hf : w.fails ≠ 0) (hr : w.region = s.vault.region) (hj : w.job = some n) (hn : n < 4096)
    (hc : s.classOf 0x92 ≤ 3) (h5 : (s.job? n).map (·.phase) = some 5) : ∃ t k, exec (.journalSlotWritten false) s = .next t
      ∧ t.vault.writing = none ∧ t.vault.slot = w.slot ∧ t.vault.pending = s.vault.pending ∧ t.job? n = some k
      ∧ k.status = some stEngineFault := by
  obtain ⟨j, hjob, hphase⟩ := Option.map_eq_some_iff.mp h5
  have hkeeps : Keeps n j (tornAt s w none w.slot) := ⟨hjob, hn, hphase⟩
  obtain ⟨hraised, -⟩ := raise_keeps hkeeps (src := 0x92) 0 hc
  obtain ⟨k, hk, hstatus⟩ := endJob_status hn hraised (by omega) stEngineFault 0x92 (((tornAt s w none w.slot).raise 0x92).beat + 1)
  have hlost : ∀ u : State, u.slotLost w = (u.endJob n stEngineFault 0x92 (u.beat + 1)).endLateGrant w := fun u => by
    rw [State.slotLost, hj]
  have hl : ledger (((tornAt s w none w.slot).raise 0x92).slotLost w) = ledger (tornAt s w none w.slot) := by
    rw [hlost]
    exact (ledger_of_quiet (quiet_trans (endJob_quiet _ _ _ _ _) (endLateGrant_quiet _ _))).trans (ledger_of_calm (raise_calm _ _ _))
  refine ⟨_, k, execJournalSlotWritten_loses hw hs hf hr, congrArg VaultState.writing hl, congrArg VaultState.slot hl,
    (congrArg VaultState.pending hl :), ?_, hstatus⟩
  rw [hlost, job?_of_slots (endLateGrant_slots _ _)]
  exact hk

end

/-! #### Rotation, the commit request and the copy area (R308, R309, R311, R313) -/

theorem execJournalRotation_copies {s : State} {g : Nat × Nat} {c : Nat × JournalSlot} (hg : s.grantOf maRotate = some g)
    (hcur : currentSlot s.vault.journal (fun _ => true) = some c) (hcan : s.canWriteSlot = true)
    (hdue : s.cfg 0x4001 4 ≤ s.vault.commits) : execJournalRotation s = .next { s with vault := { s.vault with
      writing := some { region := (s.vault.region + 1) % 16, slot := 0,
                        content := { c.2 with wseq := s.vault.wseq + 1 }.sealed } } } := by
  simp [execJournalRotation, hg, hcur, hcan, hdue]

theorem execCommitRequest_due {s : State} (hl : s.vault.loaded = true) (hd : s.vault.dirty ≠ []) (ho : s.vault.roundOpen = false)
    (hp : s.vault.pending = none) (hdue : s.vault.lastCommit + msBeats (s.cfg 0x4001 1) ≤ s.beat) :
    execCommitRequest s = .next s.requestCommit := by
  simp [execCommitRequest, hl, hd, ho, hp, hdue]

theorem execCommitIntervalExpiry_frees {s : State} {b : Nat} (hb : s.vault.lastPending = some b) (hdue : b + 78125 ≤ s.beat) :
    execCommitIntervalExpiry s = .next { s with vault := { s.vault with lastPending := none } } := by
  simp [execCommitIntervalExpiry, hb, hdue]

theorem execCopyAreaFreed_drops {s : State} {page : Nat} (h : (s.vault.frozen.drop s.vault.exported).contains page = false) :
    execCopyAreaFreed page s = .next { s with vault := { s.vault with copies := tdel s.vault.copies page } } := by
  rw [execCopyAreaFreed, h]
  rfl

end Sys2Proof.KeyVault
end

section

namespace Sys2Proof.KeyVault

open Sys2Proof Sys2Proof.Machine

/-- Settles O26: each outcome of a slot write by the lemma about it, and each of the other commands by its own. -/
theorem journalRows : Obligations.JournalRows :=
  ⟨fun _ _ _ hw hs hr hj _ => ⟨journalSlotWritten_pends hw hs hr hj, journalSlotWritten_commits hw hs hr hj,
      journalSlotWritten_abandons hw hs hr hj, journalSlotWritten_retries hw hs,
      fun hf hn hc h5 => journalSlotWritten_loses hw hs hf hr hj hn hc h5⟩,
    fun _ _ _ => execJournalRotation_copies,
    fun _ hl hd ho hp hdue => ⟨_, execCommitRequest_due hl hd ho hp hdue, requestCommit_raises ho hp⟩,
    fun _ _ => execCommitIntervalExpiry_frees, fun _ _ => execCopyAreaFreed_drops⟩

end Sys2Proof.KeyVault
end

section

/-! ### Two jobs in one slot at PWR_FAIL_N (R24, R438, R448) -/

namespace Sys2Proof.KeyVault

open Sys2Proof Sys2Proof.Machine Sys2Proof.SlotWheel

/-- A VAULT_PREPARE that waits in phase 3 for its start right. -/
def waitingPrepare : Job :=
  { queue := 0, domain := 0, seq := 0, admitBeat := 0, age := 0, hdr := { opcode := 0x1302 }, phase := 3 }

/-- A device in Service whose table of jobs lists slot 0 twice: first the waiting job, then the same job in staging. -/
def doubledSlot : State :=
  { beat := 2, mode := { mode := mService }, jobs := { slots := [(0, waitingPrepare), (0, { waitingPrepare with phase := 4 })] } }

/-- The device as it enters Quiesce for PWR_FAIL_N, before the jobs meet it. -/
def doubledQuiesce : State :=
  let s := { doubledSlot with mode := { doubledSlot.mode with pwrFail := true } }
  { s.setMode mQuiesce with mode := { (s.setMode mQuiesce).mode with quiesceKind := 3, cameFrom := mService, drained := false,
                                                                     wakeBeat := none } }

/-- The slot is drained for its second entry, and the job that stands in it is the first. -/
theorem doubledQuiesce_drain : doubledQuiesce.drain 3 = doubledQuiesce.endJob 0 stQuiesced 0 3 := rfl

theorem doubledSlot_ends : ∃ t k, exec .pwrFailAssert doubledSlot = .next t ∧ t.job? 0 = some k ∧ k.status = some stQuiesced := by
  obtain ⟨k, hk, hstatus⟩ := endJob_status (s := doubledQuiesce) (j := waitingPrepare) (by decide : 0 < 4096) rfl (by decide)
    stQuiesced 0 3
  refine ⟨(doubledQuiesce.drain 3).writeStatus 1 0xFF 0 false mService, k, rfl, ?_, hstatus⟩
  rw [job?_of_slots (congrArg (·.1.slots) (writeStatus_board _ _ _ _ _ _)), doubledQuiesce_drain]
  exact hk

end Sys2Proof.KeyVault
end

section

namespace Sys2Proof.KeyVault

open Sys2Proof Sys2Proof.Machine

/-- Refutes O35: the clause on PWR_FAIL_N has a waiting job of the round stay, and does not ask that the table of jobs lists a slot
once. In `doubledSlot` slot 0 is listed for a VAULT_PREPARE in phase 3 and again for a job in phase 4: the drain, which goes through the
entries, meets the slot for its second entry and ends the first with QUIESCED. -/
theorem not_powerRows : ¬ Obligations.PowerRows := by
  rintro ⟨hassert, -⟩
  obtain ⟨t, hnext, -, -, -, hstays⟩ := hassert doubledSlot (.inl rfl)
  have hwaits : t.job? 0 = some waitingPrepare := hstays 0 waitingPrepare (by decide) rfl rfl (.inl rfl)
  obtain ⟨u, k, hu, hjob, hstatus⟩ := doubledSlot_ends
  obtain rfl : u = t := Host.Outcome.next.inj (hu.symm.trans hnext)
  obtain rfl : k = waitingPrepare := Option.some.inj (hjob.symm.trans hwaits)
  exact absurd hstatus (by decide)

end Sys2Proof.KeyVault
end
